-- ==== Sys2Proof/Word.lean ====
section
/-! DEFINITION. The words of the ZS30: bytes, card numbers, bike numbers and station times
(00_scope.md section 4.1). Money, counts and durations in milliseconds are natural numbers,
since the spec computes with them exactly. -/

namespace Sys2Proof

/-- One byte of a host frame, of a string character's data bits or of a result. -/
abbrev Byte := BitVec 8

/-- A card number: 40 bits (R45). -/
abbrev CardNo := BitVec 40

/-- A bike number: 1..65535, 0 for none (00_scope.md section 4.1). -/
abbrev Bike := BitVec 16

/-- Station time: a 32-bit count of scheme seconds; differences are taken modulo 2^32. -/
abbrev Time := BitVec 32

end Sys2Proof
end

