-- ==== Sys2Proof/Syntax.lean ====
section
/-! DEFINITION. The commands of the part: one constructor for each row of opcode_table.json. A host
command carries the argument bytes that were clocked after its opcode, however many they are, since
R184 answers a wrong number of them with LENGTH. An expiry carries the dock, card or token whose
count ran out, under the spec's own numbers. -/

namespace Sys2Proof

/-- The two ends of the dock string (chapter 1). -/
inductive StringEnd where
  | A
  | B
  deriving DecidableEq, Repr

/-- A command or an event that the part takes as one step (opcode_table.json). -/
inductive Instr where
  /-- RESET_PIN (R195): the reset pin or power-on. -/
  | resetPin
  /-- FRAME_BIT_COUNT_ERROR (R183): a frame of these whole bytes and `extra` bits more, 1..7. -/
  | frameBitCountError (bytes : List Byte) (extra : Nat)
  /-- UNKNOWN_OPCODE (R184): a frame whose opcode is in no row of the opcode table of chapter 11. -/
  | unknownOpcode (opcode : Byte) (args : List Byte)
  /-- READ_STATUS, port frame 01h (R188): any number of further bytes, disregarded. -/
  | readStatus (args : List Byte)
  /-- FETCH_RESULT, port frame 02h (R187): the selector byte, then the bytes clocked for the result. -/
  | fetchResult (args : List Byte)
  /-- READ_NOTICES 03h (R192), no argument. -/
  | readNotices (args : List Byte)
  /-- SET_CONFIG 04h (R189): item (1), value (2). -/
  | setConfig (args : List Byte)
  /-- READ_CONFIG 05h (R190): item (1). -/
  | readConfig (args : List Byte)
  /-- SET_TIME 0Ah (R177): station time (4). -/
  | setTime (args : List Byte)
  /-- READ_TIME 0Bh (R178), no argument. -/
  | readTime (args : List Byte)
  /-- REINIT 0Fh (R194), no argument. -/
  | reinit (args : List Byte)
  /-- READ_DOCK 20h (R41): dock (1). -/
  | readDock (args : List Byte)
  /-- SET_MASK 21h (R26): dock (1), mask (1). -/
  | setMask (args : List Byte)
  /-- FIND_CARD 30h (R52): card (5). -/
  | findCard (args : List Byte)
  /-- SCAN_CARDS 31h (R53): slot index (1). -/
  | scanCards (args : List Byte)
  /-- LOAD_CARD 32h (R50): card (5), class, plan, standing, flag (1 each), valid_until (4). -/
  | loadCard (args : List Byte)
  /-- RETIRE_CARD 33h (R51): card (5). -/
  | retireCard (args : List Byte)
  /-- NEXT_REFER 34h (R57), no argument. -/
  | nextRefer (args : List Byte)
  /-- ADMIT_CARD 35h (R58): a card record as for LOAD_CARD. -/
  | admitCard (args : List Byte)
  /-- REFUSE_CARD 36h (R59): card (5). -/
  | refuseCard (args : List Byte)
  /-- REMOTE_HIRE 37h (R65): card (5), dock (1). -/
  | remoteHire (args : List Byte)
  /-- CLOSE_REMOTE 38h (R99): card (5), bike (2), start (4), fare (2). -/
  | closeRemote (args : List Byte)
  /-- READ_TRIP 40h (R96): bike (2). -/
  | readTrip (args : List Byte)
  /-- NEXT_PRICED 41h (R97), no argument. -/
  | nextPriced (args : List Byte)
  /-- COLLECT_TRIP 42h (R98): bike (2), start (4). -/
  | collectTrip (args : List Byte)
  /-- WRITE_PLAN 50h (R104): 29 bytes. -/
  | writePlan (args : List Byte)
  /-- WRITE_STATION_TERMS 51h (R105): K (2), W (1). -/
  | writeStationTerms (args : List Byte)
  /-- ACTIVATE_TARIFF 52h (R107): generation (1), time (4). -/
  | activateTariff (args : List Byte)
  /-- READ_PLAN 53h (R106): bank (1), plan (1). -/
  | readPlan (args : List Byte)
  /-- QUOTE_FARE 54h (R119): duration (4), plan (1), ceiling (2), mode (1). -/
  | quoteFare (args : List Byte)
  /-- READ_FAULT 60h (R147): slot (1). -/
  | readFault (args : List Byte)
  /-- NEXT_FAULT 61h (R147), no argument. -/
  | nextFault (args : List Byte)
  /-- RAISE_FAULT 62h (R148): subject type (1), number (2). -/
  | raiseFault (args : List Byte)
  /-- CLEAR_FAULT 63h (R149): subject type (1), number (2), kind (1). -/
  | clearFault (args : List Byte)
  /-- STAGE_HEADER 70h (R155): 10 bytes. -/
  | stageHeader (args : List Byte)
  /-- STAGE_MOVE 71h (R155): index, kind, dock (1 each), bike (2). -/
  | stageMove (args : List Byte)
  /-- COMMIT_MANIFEST 72h (R157), no argument. -/
  | commitManifest (args : List Byte)
  /-- SUSPEND_MANIFEST 73h (R170), no argument. -/
  | suspendManifest (args : List Byte)
  /-- RESUME_MANIFEST 74h (R170), no argument. -/
  | resumeManifest (args : List Byte)
  /-- CANCEL_MANIFEST 75h (R170): target (1). -/
  | cancelManifest (args : List Byte)
  /-- SET_EXPIRY 76h (R170): minutes (1). -/
  | setExpiry (args : List Byte)
  /-- READ_MANIFEST 77h (R172): buffer (1), move index (1). -/
  | readManifest (args : List Byte)
  /-- ACK_MANIFEST 78h (R172): manifest number (2). -/
  | ackManifest (args : List Byte)
  /-- SECONDS_TICK (R175): one seconds tick, at which the supply-sense input reads this code. -/
  | secondsTick (reading : Byte)
  /-- ROUND_TIMER_EXPIRY (R21). -/
  | roundTimerExpiry
  /-- STRING_CHARACTER_RECEIVED (R1): a character with its mark bit, on one end of the string. -/
  | stringCharacterReceived (on : StringEnd) (data : Byte) (mark : Bool)
  /-- ANSWER_WINDOW_EXPIRY (R3). -/
  | answerWindowExpiry
  /-- COIL_COUNT_EXPIRY (R73): the coil count of token 0..2. -/
  | coilCountExpiry (token : Nat)
  /-- PULL_WINDOW_EXPIRY (R76): the pull window of the release at dock 1..30. -/
  | pullWindowExpiry (dock : Nat)
  /-- REFER_TIMEOUT (R60): the countdown of the refer slot that holds this card. -/
  | referTimeout (card : CardNo)
  /-- REFUSAL_FLASH_EXPIRY (R40): the refusal flash at dock 1..30. -/
  | refusalFlashExpiry (dock : Nat)
  /-- REPORT_WINDOW_EXPIRY (R142): the rider report context of dock 1..30. -/
  | reportWindowExpiry (dock : Nat)
  /-- MANIFEST_EXPIRY (R169): the expiry counter of the active manifest. -/
  | manifestExpiry
  /-- ACTIVATION_REACHED (R108): the pending activation is tested. -/
  | activationReached
  /-- CHANGE_COMMAND_FINISHED (R185): the owner of the change command in progress has finished. -/
  | changeCommandFinished
  deriving DecidableEq, Repr

end Sys2Proof
end

