-- ==== Sys2Proof/Decode.lean ====
section
/-! DEFINITION. The opcodes of the command port (chapter 11, section 11.2), the lookup of a frame by its
opcode (R183, R184), and the decoder over the rows of opcode_table.json that give bits. No row gives
bits, so no word spells a command. -/

namespace Sys2Proof

/-- The codes of the opcode table of section 11.2. -/
def knownOpcodes : List Nat :=
  [0x01, 0x02, 0x03, 0x04, 0x05, 0x0A, 0x0B, 0x0F, 0x20, 0x21,
   0x30, 0x31, 0x32, 0x33, 0x34, 0x35, 0x36, 0x37, 0x38, 0x40, 0x41, 0x42]
  ++ [0x50, 0x51, 0x52, 0x53, 0x54, 0x60, 0x61, 0x62, 0x63,
   0x70, 0x71, 0x72, 0x73, 0x74, 0x75, 0x76, 0x77, 0x78]

/-- The opcode table of section 11.2, looked up by code (R184): the port frames, codes 01h and 02h, and
the commands, each with the argument bytes clocked after its opcode. -/
def opcodeCommand (opcode : Nat) (args : List Byte) : Option Instr :=
  match opcode with
  | 0x01 => some (.readStatus args)
  | 0x02 => some (.fetchResult args)
  | 0x03 => some (.readNotices args)
  | 0x04 => some (.setConfig args)
  | 0x05 => some (.readConfig args)
  | 0x0A => some (.setTime args)
  | 0x0B => some (.readTime args)
  | 0x0F => some (.reinit args)
  | 0x20 => some (.readDock args)
  | 0x21 => some (.setMask args)
  | 0x30 => some (.findCard args)
  | 0x31 => some (.scanCards args)
  | 0x32 => some (.loadCard args)
  | 0x33 => some (.retireCard args)
  | 0x34 => some (.nextRefer args)
  | 0x35 => some (.admitCard args)
  | 0x36 => some (.refuseCard args)
  | 0x37 => some (.remoteHire args)
  | 0x38 => some (.closeRemote args)
  | 0x40 => some (.readTrip args)
  | 0x41 => some (.nextPriced args)
  | 0x42 => some (.collectTrip args)
  | 0x50 => some (.writePlan args)
  | 0x51 => some (.writeStationTerms args)
  | 0x52 => some (.activateTariff args)
  | 0x53 => some (.readPlan args)
  | 0x54 => some (.quoteFare args)
  | 0x60 => some (.readFault args)
  | 0x61 => some (.nextFault args)
  | 0x62 => some (.raiseFault args)
  | 0x63 => some (.clearFault args)
  | 0x70 => some (.stageHeader args)
  | 0x71 => some (.stageMove args)
  | 0x72 => some (.commitManifest args)
  | 0x73 => some (.suspendManifest args)
  | 0x74 => some (.resumeManifest args)
  | 0x75 => some (.cancelManifest args)
  | 0x76 => some (.setExpiry args)
  | 0x77 => some (.readManifest args)
  | 0x78 => some (.ackManifest args)
  | _ => none

/-- What a frame of whole bytes and `extra` bits more is taken on as (R183, R184): with bits over, a bit
count error; else the command of its opcode, or an unknown opcode; nothing for a frame of no bits. -/
def frameCommand (bytes : List Byte) (extra : Nat) : Option Instr :=
  if extra ≠ 0 then some (.frameBitCountError bytes extra)
  else
    match bytes with
    | [] => none
    | opcode :: args => some ((opcodeCommand opcode.toNat args).getD (.unknownOpcode opcode args))

/-- The rows of opcode_table.json give no bits: no word spells a command. -/
def decodeTableWord (_nbits _w : Nat) : Option Instr := none

end Sys2Proof
end

