-- ==== Sys2Proof/Config.lean ====
section
/-! DEFINITION. The one value the spec leaves to the world outside: the code that the supply-sense
input carries when the part's own divider makes a seconds tick (R180). -/

namespace Sys2Proof

/-- FREE VALUE (log 21): the code 0..255 on the supply-sense input at the n-th tick that the model's
own reference clock divider makes. Nothing constrains it. A SECONDS_TICK given as a command carries
its reading and does not use this. -/
opaque Config.supplySense : Nat → Byte

end Sys2Proof
end

