-- ==== Sys2Proof/Machine/State.lean ====
section
/-! DEFINITION. The state of the part, block by block (00_scope.md section 3), and its value right
after the reset pin. Plain data throughout. -/

namespace Sys2Proof.Machine

open Sys2Proof

/-- Dock numbers 1..30 as 0..29: dock n is `n - 1`. -/
abbrev Dock := Fin 30

/-- Node addresses 0..30 (00_scope.md section 4.1): 0 is the pay terminal. -/
abbrev Node := Fin 31

/-! ### String Controller (chapter 1) -/

/-- Reach of a node on one end (R10). -/
inductive Reach where
  | untried
  | yes
  | no
  deriving DecidableEq, Repr

/-- Contact state of a node (R11). -/
inductive Contact where
  | unknown
  | reachable
  | doubtful
  | lost
  deriving DecidableEq, Repr

/-- The link record of one node (R9 to R15). The home end is fixed by the address (R12). -/
structure LinkRecord where
  preferred : StringEnd
  reachA : Reach
  reachB : Reach
  failures : Nat
  contact : Contact
  hostMask : Byte
  /-- The fault button mask, empty or naming BUTTON (R15, R141). -/
  buttonMask : Bool
  /-- The held-button flag (R14). -/
  heldButton : Bool
  deriving DecidableEq, Repr

/-- The verbs of R5. -/
inductive Verb where
  | survey
  | tapread
  | tagread
  | stamp
  | unstamp
  | mark
  | release
  | relock
  | lampShow
  | saleread
  | salereply
  | settle
  deriving DecidableEq, Repr

/-- Whom a call is addressed to: one node, or all by address 31 (R6). -/
inductive Target where
  | node (n : Node)
  | all
  deriving DecidableEq, Repr

/-- A block whose request an entry of the call queue carries (R18), with the bicycle that the call
was queued for where its report names one (R34); 0 where the call concerns no bicycle. -/
inductive Originator where
  | stringController
  | dockMonitor
  | cardTable
  | hireUnit (bike : Bike)
  | tripTable (bike : Bike)
  | faultTable (bike : Bike)
  | manifestUnit (bike : Bike)
  deriving DecidableEq, Repr

/-- One entry of the call queue (section 1.9). Its class is fixed by its verb; its age is its place
in the queue, the oldest first. -/
structure QueueEntry where
  target : Target
  verb : Verb
  args : List Byte
  cross : Bool
  originators : List Originator
  deriving DecidableEq, Repr

/-- A string character: 8 data bits and the mark bit (section 1.1). -/
structure StringChar where
  data : Byte
  mark : Bool
  deriving DecidableEq, Repr

/-- What a GOOD attempt yields: the condition character and the verb's data (R4). -/
structure Answer where
  condition : Byte
  data : List Byte
  deriving DecidableEq, Repr

/-- The outcome of one attempt (R4). -/
inductive AttemptOutcome where
  | good (answer : Answer)
  | silent
  | garbled
  | mismatch
  deriving DecidableEq, Repr

/-- A finding that ends an attempt only once the string is quiet (R4). -/
inductive QuietFinding where
  | garbled
  | mismatch
  deriving DecidableEq, Repr

/-- Where the attempt in progress stands (R3, R4): receiving, with the characters received so far,
or waiting for quiet after a GARBLED or MISMATCH finding. -/
inductive AttemptPhase where
  | answering (got : List Byte)
  | quiet (finding : QuietFinding)
  deriving DecidableEq, Repr

/-- The call in flight to one node (R8, R13, R17), with what was noted when it was taken. -/
structure Call where
  node : Node
  entry : QueueEntry
  noted : StringEnd
  /-- The answer window in force, in ms (item 1). -/
  window : Nat
  retries : Nat
  retryOther : Bool
  flip : Bool
  contactAtTake : Contact
  /-- Attempts of the ordinary call that have ended. -/
  ended : Nat
  /-- The end of the attempt in progress. -/
  on : StringEnd
  /-- During the cross attempt: the result of the ordinary call, none when it failed. -/
  crossOf : Option (Option Answer)
  phase : AttemptPhase
  /-- What is left of the running window, in ms. -/
  remaining : Nat
  /-- Split indications that have changed in this call, in order: the segment and its new value. -/
  splits : List (Fin 30 × Bool)
  deriving DecidableEq, Repr

/-- The one call in flight. -/
inductive Flight where
  | broadcast (entry : QueueEntry) (remaining : Nat)
  | call (c : Call)
  deriving DecidableEq, Repr

structure StringState where
  links : Vector LinkRecord 31
  queue : List QueueEntry
  flight : Option Flight
  /-- The split indication of each segment (R16). -/
  splits : Vector Bool 30
  round : Nat
  /-- What is left of the round period, in ms (R21). -/
  roundTimer : Nat
  /-- The characters that the part last put on the string, with the end of each. -/
  lastSent : List (StringEnd × StringChar)
  deriving DecidableEq, Repr

/-! ### Dock Monitor (chapter 2) -/

inductive Occupancy where
  | unknown
  | empty
  | occupied
  | releasing
  deriving DecidableEq, Repr

inductive StampKind where
  | none
  | trip
  | van
  deriving DecidableEq, Repr

/-- The reservation of a dock, with the move index (R24). -/
inductive Reservation where
  | none
  | pickup (move : Nat)
  | drop (move : Nat)
  deriving DecidableEq, Repr

/-- Lamp patterns (section 2.10). -/
inductive Lamp where
  | off
  | green
  | greenBlink
  | amber
  | amberBlink
  | red
  | redFlash (code : Nat)
  deriving DecidableEq, Repr

/-- A refusal being shown: its code 1..7 and the remaining ms (R40). -/
structure RefusalFlash where
  code : Nat
  remaining : Nat
  deriving DecidableEq, Repr

/-- One dock record (R24). -/
structure DockRecord where
  occupancy : Occupancy
  bike : Option Bike
  stampSeen : StampKind
  unpriced : Bool
  serviceMark : Bool
  lastCondition : Option Byte
  lastTap : Option Byte
  reservation : Reservation
  lamp : Lamp
  lampShown : Bool
  flash : Option RefusalFlash
  resyncDue : Bool
  heldButton : Bool
  /-- No tag read has succeeded here since the last REINIT, so the Trip Table is told of what is
  found (R44, R101). -/
  watch : Bool
  deriving DecidableEq, Repr

/-! ### Card Table (chapters 3 and 7) -/

inductive CardClass where
  | member
  | guest
  | crew
  deriving DecidableEq, Repr

inductive Activity where
  | idle
  | pending
  | riding
  | settling
  deriving DecidableEq, Repr

/-- The guest part of an entry (R45). -/
structure GuestPart where
  hold : Nat
  captured : Nat
  saleSequence : Nat
  deriving DecidableEq, Repr

/-- One card entry (R45). -/
structure CardEntry where
  slot : Fin 256
  card : CardNo
  cls : CardClass
  plan : Fin 8
  /-- Standing BLOCKED. -/
  blocked : Bool
  activity : Activity
  validUntil : Option Time
  /-- trip_link: bike number and start time. -/
  link : Option (Bike × Time)
  queuedDock : Option Dock
  guest : Option GuestPart
  deriving DecidableEq, Repr

/-- One occupied refer slot (R55). Its age is its place in the list, the oldest first. -/
structure ReferSlot where
  card : CardNo
  dock : Dock
  tapTime : Time
  /-- In ms. -/
  remaining : Nat
  /-- The model's own: a further tap has restarted the countdown, and neither a period of the reference
  clock nor a seconds tick has come since (R60, log 2). -/
  reaimed : Bool
  deriving DecidableEq, Repr

/-- The outcome of a guest sale (R125). -/
inductive SaleOutcome where
  | accepted
  | exists
  | full
  | plan
  | hold
  | notReady
  | invalid
  deriving DecidableEq, Repr

/-- The one SETTLE placed and not yet ended (R122). -/
structure SettleContext where
  card : CardNo
  slot : Fin 256
  saleSequence : Nat
  deriving DecidableEq, Repr

/-- The exchange with the terminal (R122). -/
structure Terminal where
  lastSaleSequence : Option Nat
  lastSaleOutcome : SaleOutcome
  settleCursor : Fin 256
  settleContext : Option SettleContext
  deriving DecidableEq, Repr

/-! ### Hire Unit (chapter 4) -/

/-- Whether a request is a member's (guests included) or a crew's, with its move (R66). -/
inductive RequestKind where
  | member
  | crew (move : Nat)
  deriving DecidableEq, Repr

/-- One request of the release queue (R66). -/
structure HireRequest where
  dock : Dock
  kind : RequestKind
  card : CardNo
  deriving DecidableEq, Repr

/-- The stage of a lent token (R73); COIL carries the remaining ms. -/
inductive TokenStage where
  | stampPending
  | releasePending
  | coil (remaining : Nat)
  deriving DecidableEq, Repr

/-- A latch token (R67). -/
inductive Token where
  | free
  | lent (dock : Dock) (stage : TokenStage)
  deriving DecidableEq, Repr

/-- Whose release it is: a member's, or a crew's with its move and manifest (R71). -/
inductive ReleaseKind where
  | member
  | crew (move : Nat) (manifest : Nat)
  deriving DecidableEq, Repr

/-- The phase of a release (R71); WAITING carries pull_remaining in ms. -/
inductive ReleasePhase where
  | stamping
  | opening
  | waiting (pull : Nat)
  | overdue
  deriving DecidableEq, Repr

/-- A release context (R71), kept at its dock. -/
structure ReleaseContext where
  kind : ReleaseKind
  card : CardNo
  bike : Bike
  start : Time
  phase : ReleasePhase
  seenPresent : Bool
  deriving DecidableEq, Repr

/-- A cancel context (R78), kept at its dock. -/
structure CancelContext where
  kind : ReleaseKind
  bike : Bike
  card : CardNo
  start : Time
  relockDone : Bool
  unstampDone : Bool
  deriving DecidableEq, Repr

structure HireUnit where
  /-- The release queue, the head first. -/
  queue : List HireRequest
  tokens : Vector Token 3
  releases : Vector (Option ReleaseContext) 30
  cancels : Vector (Option CancelContext) 30
  deriving DecidableEq, Repr

/-! ### Trip Table (chapter 5) -/

/-- The fields of a TRIP stamp (section 12.3). -/
structure StampFields where
  origin : Nat
  start : Time
  card : CardNo
  plan : Fin 8
  generation : Fin 16
  ceiling : Nat
  deriving DecidableEq, Repr

/-- The fare flags (R118). -/
structure FareFlags where
  grace : Bool
  capped : Bool
  incentive : Bool
  ceiling : Bool
  saturated : Bool
  skew : Bool
  overlong : Bool
  genFallback : Bool
  planFallback : Bool
  deriving DecidableEq, Repr

/-- The fields present exactly in PRICED (R83). -/
structure Pricing where
  returnDock : Dock
  endTime : Time
  fare : Nat
  flags : FareFlags
  deriving DecidableEq, Repr

inductive TripState where
  | releasing
  | out
  | cancelling
  | priced (p : Pricing)
  deriving DecidableEq, Repr

/-- One trip record (R83). -/
structure TripRecord where
  bike : Bike
  stamp : StampFields
  state : TripState
  releaseDock : Option Dock
  foreign : Bool
  latePull : Bool
  orphan : Bool
  unstamped : Bool
  unstampDock : Option Dock
  deriving DecidableEq, Repr

/-- A deferred arrival, kept at its dock (R92). -/
structure Deferral where
  bike : Bike
  stamp : StampFields
  deriving DecidableEq, Repr

/-! ### Fare Unit (chapter 6) -/

structure Band where
  length : Nat
  block : Nat
  rate : Nat
  deriving DecidableEq, Repr

/-- A plan (R103): undefined when `count` is 0. -/
structure Plan where
  unlock : Nat
  grace : Nat
  factor : Nat
  cap : Nat
  count : Nat
  band0 : Band
  band1 : Band
  band2 : Band
  band3 : Band
  deriving DecidableEq, Repr

/-- A tariff bank (R102). -/
structure Bank where
  generation : Fin 16
  valid : Bool
  k : Nat
  w : Nat
  plans : Vector Plan 8
  deriving DecidableEq, Repr

inductive ActivationOutcome where
  | none
  | taken
  | withdrawn
  deriving DecidableEq, Repr

structure FareUnit where
  current : Bank
  previous : Bank
  staged : Bank
  /-- The pending activation: its generation and its time. -/
  activation : Option (Fin 16 × Time)
  lastOutcome : ActivationOutcome
  deriving DecidableEq, Repr

/-! ### Fault Table (chapter 8) -/

inductive Subject where
  | dock (d : Dock)
  | bike (b : Bike)
  | segment (k : Fin 30)
  | terminal
  deriving DecidableEq, Repr

inductive FaultKind where
  | coilOpen
  | coilShort
  | tagUnreadable
  | buttonStuck
  | forcedRemoval
  | noContact
  | lineSplit
  | riderReport
  | serviceMark
  | hostReported
  deriving DecidableEq, Repr

inductive FaultState where
  | suspect
  | active
  | clearing
  deriving DecidableEq, Repr

/-- A fault record (R134). Its origin is fixed by its kind. -/
structure FaultRecord where
  slot : Fin 32
  subject : Subject
  kind : FaultKind
  state : FaultState
  count : Nat
  reporters : List CardNo
  firstTime : Time
  seen : Bool
  order : Nat
  deriving DecidableEq, Repr

/-- The rider report context (R137); the remaining time in ms. -/
structure ReportContext where
  bike : Bike
  card : CardNo
  remaining : Nat
  deriving DecidableEq, Repr

/-- The Fault Table's fields for one dock (R137). `markPending` is SET (true) or CLEAR with its
bicycle. -/
structure FaultDock where
  report : Option ReportContext
  tagFailed : Bool
  unmark : Option Bike
  markPending : Option (Bool × Bike)
  deriving DecidableEq, Repr

structure FaultTable where
  records : List FaultRecord
  /-- FAULT_FULL (R136). -/
  full : Bool
  docks : Vector FaultDock 30
  nextOrder : Nat
  deriving DecidableEq, Repr

/-! ### Manifest Unit (chapter 9) -/

structure ManifestHeader where
  number : Nat
  crewCard : CardNo
  expiryMinutes : Nat
  followOn : Bool
  moveCount : Nat
  deriving DecidableEq, Repr

inductive MoveKind where
  | pickup
  | drop
  deriving DecidableEq, Repr

inductive MoveState where
  | opened
  | reserved
  | releasing
  | done
  | short
  deriving DecidableEq, Repr

/-- One move (R153). `opened` is the spec's OPEN. -/
structure Move where
  kind : MoveKind
  dock : Option Dock
  bike : Option Bike
  state : MoveState
  heldDock : Option Dock
  landedDock : Option Dock
  doneDock : Option Dock
  doneBike : Option Bike
  latePull : Bool
  deriving DecidableEq, Repr

inductive ManifestOutcome where
  | complete
  | expired
  | cancelled
  deriving DecidableEq, Repr

/-- The staged buffer when STAGED (R155). -/
structure StagedManifest where
  header : ManifestHeader
  moves : Vector (Option Move) 16
  held : Bool
  deriving DecidableEq, Repr

inductive ManifestPhase where
  | active
  | suspended
  | ended (outcome : ManifestOutcome)
  deriving DecidableEq, Repr

/-- The active buffer when it is not IDLE (R156). -/
structure ActiveManifest where
  phase : ManifestPhase
  header : ManifestHeader
  moves : List Move
  deriving DecidableEq, Repr

/-- previous_end (R156). -/
structure PreviousEnd where
  number : Nat
  outcome : ManifestOutcome
  doneCount : Nat
  deriving DecidableEq, Repr

structure ManifestUnit where
  /-- None when EMPTY. -/
  staged : Option StagedManifest
  /-- None when IDLE. -/
  active : Option ActiveManifest
  counter : Nat
  reload : Nat
  previousEnd : Option PreviousEnd
  vanUnstamp : Vector (Option Bike) 30
  deriving DecidableEq, Repr

/-! ### Supply Monitor and Station Clock (chapter 10) -/

inductive SupplyState where
  | normal
  | low
  | critical
  deriving DecidableEq, Repr

structure Supply where
  state : SupplyState
  /-- The last reading, absent until one is taken. -/
  reading : Option Byte
  deriving DecidableEq, Repr

structure Clock where
  time : Time
  isSet : Bool
  /-- Periods of the reference clock since the last seconds tick, 0..32767 (R175). -/
  divider : Nat
  deriving DecidableEq, Repr

/-! ### Command Port (chapter 11) -/

inductive ResultCode where
  | ok
  | clamped
  | notFound
  | exists
  | full
  | state
  | badArg
  | length
  | unknown
  | busy
  deriving DecidableEq, Repr

/-- A result: its code and its data (R187). -/
structure Result where
  code : ResultCode
  data : List Byte
  deriving DecidableEq, Repr

/-- A result block (R187), empty while the command it waits for is in progress. -/
structure ResultBlock where
  content : Option Result
  fetched : Bool
  deriving DecidableEq, Repr

structure Port where
  /-- The change command in progress (BUSY), with the result that its owner has ready (R185). -/
  running : Option Result
  command : ResultBlock
  read : ResultBlock
  discarded : Bool
  frame : Bool
  /-- The bytes that the part sent to the host in the last frame. -/
  sent : List Byte
  /-- The model's own: the status byte as it stood at each period of the reference clock since the last
  frame ended, the newest first, with the number of periods that it stood (R183, log 4). -/
  trail : List (Byte × Nat)
  deriving DecidableEq, Repr

/-- The settings, under their item numbers 1 to 20 in this order (section 11.6). -/
structure Settings where
  answerWindow : Nat
  retryCount : Nat
  retryEnd : Nat
  flip : Nat
  roundPeriod : Nat
  closedSide : Nat
  closedCount : Nat
  closedComplement : Nat
  referTimeout : Nat
  normalBudget : Nat
  coilPeriod : Nat
  pullWindow : Nat
  reportWindow : Nat
  reportThreshold : Nat
  lowEnter : Nat
  lowExit : Nat
  critEnter : Nat
  critExit : Nat
  stationNumber : Nat
  attentionMask : Nat
  deriving DecidableEq, Repr

/-- The model's own: what the event being run leaves to its own end (log 7). Empty between steps. -/
structure Agenda where
  /-- Refused requests whose failure has still to be handed over (R20). -/
  failures : List QueueEntry
  /-- A trip record was created, retired or changed state, a bank became CURRENT, or the clock was
  set (R93). -/
  trips : Bool
  /-- One of the causes of R162's retry pass. -/
  manifest : Bool
  /-- Step 4 of R171 is to be taken again. -/
  followOn : Bool
  /-- REINIT is running: the string takes no call until it ends (log 9). -/
  hold : Bool
  deriving DecidableEq, Repr

structure State where
  /-- The commands that wait, the first at the front. -/
  pending : List Instr
  settings : Settings
  clock : Clock
  supply : Supply
  fare : FareUnit
  port : Port
  string : StringState
  docks : Vector DockRecord 30
  /-- Ascending by slot. -/
  cards : List CardEntry
  refers : List ReferSlot
  terminal : Terminal
  hire : HireUnit
  /-- Ascending by bike number. -/
  trips : List TripRecord
  deferred : Vector (Option Deferral) 30
  faults : FaultTable
  manifest : ManifestUnit
  agenda : Agenda
  /-- The model's own: how many free supply readings have been drawn (log 21). -/
  senseCount : Nat
  deriving DecidableEq, Repr

/-- Reasons for a fault: none. No command of the spec stops the part; chapter 8's faults are records
of the Fault Table. -/
inductive Fault where
  deriving DecidableEq, Repr

/-- Reasons for a refusal. -/
inductive Refusal where
  /-- The command has no meaning in this model yet, raised by its arm of exec. Safe. -/
  | notModelled (mnemonic : String)
  /-- The term is no event of the spec (its WellFormed check fails: a bit count that is a multiple of
  8, a known opcode, a dock or token that does not exist), raised by the meanings of the six rows
  that WellFormed checks. Safe: no such event can happen. -/
  | illFormed
  deriving DecidableEq, Repr

/-! ### Reset -/

/-- The home end (R12). -/
def homeEnd (n : Node) : StringEnd := if n.val ≤ 15 then .A else .B

def LinkRecord.reset (n : Node) : LinkRecord :=
  { preferred := homeEnd n, reachA := .untried, reachB := .untried, failures := 0,
    contact := .unknown, hostMask := 0, buttonMask := false, heldButton := false }

/-- The items' reset values (section 11.6). -/
def Settings.reset : Settings :=
  { answerWindow := 2, retryCount := 1, retryEnd := 1, flip := 1, roundPeriod := 5,
    closedSide := 0, closedCount := 0, closedComplement := 0, referTimeout := 8, normalBudget := 3,
    coilPeriod := 8, pullWindow := 20, reportWindow := 120, reportThreshold := 2,
    lowEnter := 150, lowExit := 165, critEnter := 120, critExit := 135,
    stationNumber := 0, attentionMask := 511 }

/-- R43. -/
def DockRecord.reset : DockRecord :=
  { occupancy := .unknown, bike := none, stampSeen := .none, unpriced := false,
    serviceMark := false, lastCondition := none, lastTap := none, reservation := .none,
    lamp := .off, lampShown := false, flash := none, resyncDue := true, heldButton := false,
    watch := false }

/-- The broadcast RELOCK of R22. -/
def resetRelock : QueueEntry :=
  { target := .all, verb := .relock, args := [], cross := false, originators := [.stringController] }

/-- The broadcast SHOW with pattern OFF of R43. -/
def resetShow : QueueEntry :=
  { target := .all, verb := .lampShow, args := [0], cross := false, originators := [.dockMonitor] }

/-- R22 and R43: the RELOCK and the SHOW wait in the queue and no call is in flight; the string takes
its first call with the first event or clock period (log 10). -/
def StringState.reset : StringState :=
  { links := Vector.ofFn LinkRecord.reset, queue := [resetRelock, resetShow], flight := none,
    splits := Vector.replicate 30 false, round := 0, roundTimer := 500, lastSent := [] }

/-- R132. -/
def Terminal.reset : Terminal :=
  { lastSaleSequence := none, lastSaleOutcome := .accepted, settleCursor := 0,
    settleContext := none }

/-- R81. -/
def HireUnit.reset : HireUnit :=
  { queue := [], tokens := Vector.replicate 3 .free, releases := Vector.replicate 30 none,
    cancels := Vector.replicate 30 none }

def Band.zero : Band := { length := 0, block := 0, rate := 0 }

/-- An undefined plan: every field 0 (R103). -/
def Plan.undefined : Plan :=
  { unlock := 0, grace := 0, factor := 0, cap := 0, count := 0,
    band0 := .zero, band1 := .zero, band2 := .zero, band3 := .zero }

def Bank.empty : Bank :=
  { generation := 0, valid := false, k := 0, w := 0, plans := Vector.replicate 8 .undefined }

/-- R120. -/
def FareUnit.reset : FareUnit :=
  { current := .empty, previous := .empty, staged := .empty, activation := none,
    lastOutcome := .none }

def FaultDock.reset : FaultDock :=
  { report := none, tagFailed := false, unmark := none, markPending := none }

/-- R151. -/
def FaultTable.reset : FaultTable :=
  { records := [], full := false, docks := Vector.replicate 30 .reset, nextOrder := 0 }

/-- R174. -/
def ManifestUnit.reset : ManifestUnit :=
  { staged := none, active := none, counter := 0, reload := 60, previousEnd := none,
    vanUnstamp := Vector.replicate 30 none }

/-- A result block at reset: OK, no data, fetched (R187, R195). -/
def ResultBlock.reset : ResultBlock := { content := some { code := .ok, data := [] }, fetched := true }

/-- R195. -/
def Port.reset : Port :=
  { running := none, command := .reset, read := .reset, discarded := false, frame := false,
    sent := [], trail := [] }

def Agenda.empty : Agenda :=
  { failures := [], trips := false, manifest := false, followOn := false, hold := false }

/-- The part right after the reset pin is released (R22, R43, R62, R81, R100, R120, R132, R151, R174,
R179, R182, R195). -/
def State.reset : State :=
  { pending := [],
    settings := .reset,
    clock := { time := 0, isSet := false, divider := 0 },
    supply := { state := .normal, reading := none },
    fare := .reset,
    port := .reset,
    string := .reset,
    docks := Vector.replicate 30 .reset,
    cards := [],
    refers := [],
    terminal := .reset,
    hire := .reset,
    trips := [],
    deferred := Vector.replicate 30 none,
    faults := .reset,
    manifest := .reset,
    agenda := .empty,
    senseCount := 0 }

end Sys2Proof.Machine
end

