-- ==== Sys2Proof/Machine/Ops.lean ====
section
/-! DEFINITION. The named operations over the state: numbers as bytes (R196), tables, and the
primitive updates of each block's state from which every other operation is built. -/

namespace Sys2Proof.Machine

open Sys2Proof

/-! ### Numbers and bytes (R196) -/

def byte (n : Nat) : Byte := BitVec.ofNat 8 n

/-- A number as `n` bytes, most significant byte first (R196). -/
def beBytes : Nat → Nat → List Byte
  | 0, _ => []
  | n + 1, v => byte (v / 256 ^ n) :: beBytes n v

/-- The number that bytes spell, most significant byte first (R196). -/
def beNat (bs : List Byte) : Nat := bs.foldl (fun a b => a * 256 + b.toNat) 0

/-- The `n` bytes of a list from position `i` on, as a number. -/
def field (bs : List Byte) (i n : Nat) : Nat := beNat ((bs.drop i).take n)

def flagBit (b : Bool) (weight : Nat) : Nat := if b then weight else 0

/-! ### Tables -/

def upd {α : Type} {n : Nat} (v : Vector α n) (i : Fin n) (f : α → α) : Vector α n :=
  v.set i.val (f (v.get i)) i.isLt

/-- Every place of a table changed by one function. -/
def mapTable {α β : Type} {n : Nat} (f : α → β) (v : Vector α n) : Vector β n :=
  ⟨(v.toList.map f).toArray, by simp⟩

def allDocks : List Dock := List.finRange 30

/-- The dock of number 1..30, if it is one. -/
def dockOfNumber (n : Nat) : Option Dock :=
  if h : 1 ≤ n ∧ n ≤ 30 then some ⟨n - 1, by omega⟩ else none

def dockNumber (d : Dock) : Nat := d.val + 1

/-- The node of a dock: the same number (section 2.1). -/
def dockNode (d : Dock) : Node := ⟨d.val + 1, by omega⟩

/-- The dock of a node, none for the terminal. -/
def nodeDock (n : Node) : Option Dock := dockOfNumber n.val

/-- Station times: how long `t` lies behind `now`, modulo 2^32 (section 10.2). -/
def timeAgo (now t : Time) : Nat := (now - t).toNat

/-! ### String Controller primitives -/

def State.link (s : State) (n : Node) : LinkRecord := s.string.links.get n

def State.setLink (n : Node) (f : LinkRecord → LinkRecord) (s : State) : State :=
  { s with string := { s.string with links := upd s.string.links n f } }

def State.setQueue (q : List QueueEntry) (s : State) : State :=
  { s with string := { s.string with queue := q } }

/-- The call in flight becomes this one. -/
def State.setCall (c : Call) (s : State) : State :=
  { s with string := { s.string with flight := some (.call c) } }

def State.setSent (l : List (StringEnd × StringChar)) (s : State) : State :=
  { s with string := { s.string with lastSent := l } }

def State.setSplit (k : Fin 30) (b : Bool) (s : State) : State :=
  { s with string := { s.string with splits := s.string.splits.set k.val b k.isLt } }

/-- The round timer and the round number (R21). -/
def State.setRound (round timer : Nat) (s : State) : State :=
  { s with string := { s.string with round := round, roundTimer := timer } }

/-- The contact state of a dock's node. -/
def State.contact (s : State) (d : Dock) : Contact := (s.link (dockNode d)).contact

/-! ### Dock Monitor primitives -/

def State.dock (s : State) (d : Dock) : DockRecord := s.docks.get d

def State.setDock (d : Dock) (f : DockRecord → DockRecord) (s : State) : State :=
  { s with docks := upd s.docks d f }

def State.mapDocks (f : DockRecord → DockRecord) (s : State) : State :=
  { s with docks := mapTable f s.docks }

/-- The lowest dock whose bike_number is `b` (R145, R159). -/
def State.dockHolding (s : State) (b : Bike) : Option Dock :=
  allDocks.find? (fun d => decide ((s.dock d).bike = some b))

/-! ### Card Table primitives (R45, R55) -/

def State.findCard (s : State) (c : CardNo) : Option CardEntry :=
  s.cards.find? (fun e => decide (e.card = c))

/-- Change the entry of a card; its slot and its card number stay. -/
def State.setCard (c : CardNo) (f : CardEntry → CardEntry) (s : State) : State :=
  { s with cards := s.cards.map (fun e =>
      if e.card = c then { f e with slot := e.slot, card := e.card } else e) }

/-- Change every entry; slots and card numbers stay. -/
def State.mapCards (f : CardEntry → CardEntry) (s : State) : State :=
  { s with cards := s.cards.map (fun e => { f e with slot := e.slot, card := e.card }) }

/-- The lowest free slot (R45). -/
def State.freeCardSlot (s : State) : Option (Fin 256) :=
  (List.finRange 256).find? (fun i => !(s.cards.any (fun e => decide (e.slot = i))))

def insertCard (e : CardEntry) : List CardEntry → List CardEntry
  | [] => [e]
  | x :: xs => if e.slot.val < x.slot.val then e :: x :: xs else x :: insertCard e xs

/-- Place a new entry in the lowest free slot (R45): nothing where no slot is free or the card is
already held. -/
def State.addCard (e : CardEntry) (s : State) : State :=
  match s.freeCardSlot with
  | some i =>
    if (s.findCard e.card).isSome then s
    else { s with cards := insertCard { e with slot := i } s.cards }
  | none => s

def State.dropCard (c : CardNo) (s : State) : State :=
  { s with cards := s.cards.filter (fun e => decide (e.card ≠ c)) }

def State.findRefer (s : State) (c : CardNo) : Option ReferSlot :=
  s.refers.find? (fun r => decide (r.card = c))

/-- Open a slot, younger than every other (R55): nothing where all 4 are occupied or the card is
already held. -/
def State.addRefer (r : ReferSlot) (s : State) : State :=
  if s.refers.length < 4 ∧ (s.findRefer r.card).isNone then { s with refers := s.refers ++ [r] }
  else s

/-- Change the slot of a card; it keeps its card and its age (R56). -/
def State.setRefer (c : CardNo) (f : ReferSlot → ReferSlot) (s : State) : State :=
  { s with refers := s.refers.map (fun r => if r.card = c then { f r with card := r.card } else r) }

def State.dropRefer (c : CardNo) (s : State) : State :=
  { s with refers := s.refers.filter (fun r => decide (r.card ≠ c)) }

/-- The instant of a restart is over: a refer slot that a further tap aimed again in it can run out
(R60, log 2). -/
def State.endInstant (s : State) : State :=
  { s with refers := s.refers.map (fun r => { r with reaimed := false }) }

def State.setTerminal (f : Terminal → Terminal) (s : State) : State :=
  { s with terminal := f s.terminal }

/-! ### Hire Unit primitives (R66, R67, R71, R78) -/

/-- Join the tail of the release queue: nothing where it holds 8 requests or one for the dock. -/
def State.joinHire (r : HireRequest) (s : State) : State :=
  if s.hire.queue.length < 8 ∧ (s.hire.queue.any (fun q => decide (q.dock = r.dock))) = false then
    { s with hire := { s.hire with queue := s.hire.queue ++ [r] } }
  else s

/-- Keep only some of the requests, in their order. -/
def State.filterHire (p : HireRequest → Bool) (s : State) : State :=
  { s with hire := { s.hire with queue := s.hire.queue.filter p } }

/-- Remove the head of the release queue. -/
def State.popHire (s : State) : State :=
  { s with hire := { s.hire with queue := s.hire.queue.drop 1 } }

def State.setToken (i : Fin 3) (t : Token) (s : State) : State :=
  { s with hire := { s.hire with tokens := s.hire.tokens.set i.val t i.isLt } }

def State.release (s : State) (d : Dock) : Option ReleaseContext := s.hire.releases.get d

def State.setRelease (d : Dock) (c : Option ReleaseContext) (s : State) : State :=
  { s with hire := { s.hire with releases := s.hire.releases.set d.val c d.isLt } }

def State.cancel (s : State) (d : Dock) : Option CancelContext := s.hire.cancels.get d

def State.setCancel (d : Dock) (c : Option CancelContext) (s : State) : State :=
  { s with hire := { s.hire with cancels := s.hire.cancels.set d.val c d.isLt } }

/-! ### The agenda of the event being run (log 7) -/

def State.noteTrips (s : State) : State := { s with agenda := { s.agenda with trips := true } }

def State.noteManifest (s : State) : State := { s with agenda := { s.agenda with manifest := true } }

def State.noteFollowOn (s : State) : State := { s with agenda := { s.agenda with followOn := true } }

def State.noteFailure (e : QueueEntry) (s : State) : State :=
  { s with agenda := { s.agenda with failures := s.agenda.failures ++ [e] } }

def State.popFailure (s : State) : State :=
  { s with agenda := { s.agenda with failures := s.agenda.failures.drop 1 } }

def State.clearTrips (s : State) : State := { s with agenda := { s.agenda with trips := false } }

def State.clearManifest (s : State) : State :=
  { s with agenda := { s.agenda with manifest := false } }

def State.clearFollowOn (s : State) : State :=
  { s with agenda := { s.agenda with followOn := false } }

def State.setHold (b : Bool) (s : State) : State := { s with agenda := { s.agenda with hold := b } }

/-- The agenda with nothing left; a hold stays. -/
def State.clearAgenda (s : State) : State :=
  { s with agenda := { Agenda.empty with hold := s.agenda.hold } }

/-! ### Trip Table primitives (R83, R92) -/

def State.findTrip (s : State) (b : Bike) : Option TripRecord :=
  s.trips.find? (fun r => decide (r.bike = b))

def insertTrip (r : TripRecord) : List TripRecord → List TripRecord
  | [] => [r]
  | x :: xs => if r.bike.toNat < x.bike.toNat then r :: x :: xs else x :: insertTrip r xs

/-- Place a new record: nothing where none is free or one is keyed by the bicycle (R85). -/
def State.addTrip (r : TripRecord) (s : State) : State :=
  if s.trips.length < 64 ∧ (s.findTrip r.bike).isNone then
    { s with trips := insertTrip r s.trips }.noteTrips
  else s

/-- Change a record; its key stays. -/
def State.setTrip (b : Bike) (f : TripRecord → TripRecord) (s : State) : State :=
  { s with trips := s.trips.map (fun r => if r.bike = b then { f r with bike := r.bike } else r) }

/-- Change the state of a record, which a retry pass follows (R84, R93). -/
def State.moveTrip (b : Bike) (f : TripRecord → TripRecord) (s : State) : State :=
  (s.setTrip b f).noteTrips

def State.mapTrips (f : TripRecord → TripRecord) (s : State) : State :=
  { s with trips := s.trips.map (fun r => { f r with bike := r.bike }) }

/-- Retire records, which a retry pass follows (R84, R93). -/
def State.filterTrips (p : TripRecord → Bool) (s : State) : State :=
  { s with trips := s.trips.filter p }.noteTrips

def State.dropTrip (b : Bike) (s : State) : State := s.filterTrips (fun r => decide (r.bike ≠ b))

def State.setDeferral (d : Dock) (x : Option Deferral) (s : State) : State :=
  { s with deferred := s.deferred.set d.val x d.isLt }

/-! ### Fault Table primitives (R134, R137) -/

def State.findFault (s : State) (subject : Subject) (kind : FaultKind) : Option FaultRecord :=
  s.faults.records.find? (fun r => decide (r.subject = subject) && decide (r.kind = kind))

/-- The lowest free slot (R134). -/
def State.freeFaultSlot (s : State) : Option (Fin 32) :=
  (List.finRange 32).find? (fun i => !(s.faults.records.any (fun r => decide (r.slot = i))))

def insertFault (r : FaultRecord) : List FaultRecord → List FaultRecord
  | [] => [r]
  | x :: xs => if r.slot.val < x.slot.val then r :: x :: xs else x :: insertFault r xs

/-- Place a new record in the lowest free slot with the next order: nothing where no slot is free or
a record has its subject and kind. -/
def State.addFault (r : FaultRecord) (s : State) : State :=
  match s.freeFaultSlot with
  | some i =>
    if (s.findFault r.subject r.kind).isSome then s
    else { s with faults := { s.faults with
            records := insertFault { r with slot := i, order := s.faults.nextOrder } s.faults.records,
            nextOrder := s.faults.nextOrder + 1 } }
  | none => s

/-- Change the record in a slot; slot, subject, kind and order stay (R135). -/
def State.setFault (i : Fin 32) (f : FaultRecord → FaultRecord) (s : State) : State :=
  { s with faults := { s.faults with records := s.faults.records.map (fun r =>
      if r.slot = i then { f r with slot := r.slot, subject := r.subject, kind := r.kind, order := r.order }
      else r) } }

def State.filterFaults (p : FaultRecord → Bool) (s : State) : State :=
  { s with faults := { s.faults with records := s.faults.records.filter p } }

def State.setFaultFull (b : Bool) (s : State) : State :=
  { s with faults := { s.faults with full := b } }

def State.faultDock (s : State) (d : Dock) : FaultDock := s.faults.docks.get d

def State.setFaultDock (d : Dock) (f : FaultDock → FaultDock) (s : State) : State :=
  { s with faults := { s.faults with docks := upd s.faults.docks d f } }

def State.mapFaultDocks (f : FaultDock → FaultDock) (s : State) : State :=
  { s with faults := { s.faults with docks := mapTable f s.faults.docks } }

/-! ### Manifest Unit primitives -/

def State.setManifest (f : ManifestUnit → ManifestUnit) (s : State) : State :=
  { s with manifest := f s.manifest }

/-- The move of an index in the active buffer. -/
def State.move? (s : State) (i : Nat) : Option Move :=
  match s.manifest.active with
  | some m => m.moves[i]?
  | none => none

/-- Change one move of the active buffer. -/
def State.setMove (i : Nat) (f : Move → Move) (s : State) : State :=
  s.setManifest fun m =>
    { m with active := m.active.map fun a => { a with moves := a.moves.modify i f } }

/-- The active buffer is ACTIVE. -/
def State.manifestActive (s : State) : Bool :=
  match s.manifest.active with
  | some a => decide (a.phase = .active)
  | none => false

/-- The active buffer is ACTIVE or SUSPENDED: reservations stand (R156). -/
def State.manifestLive (s : State) : Bool :=
  match s.manifest.active with
  | some a => decide (a.phase = .active) || decide (a.phase = .suspended)
  | none => false

/-! ### Fare Unit, supply, clock, settings and port -/

def State.setFare (f : FareUnit → FareUnit) (s : State) : State := { s with fare := f s.fare }

def State.setClock (f : Clock → Clock) (s : State) : State := { s with clock := f s.clock }

def State.setSupply (f : Supply → Supply) (s : State) : State := { s with supply := f s.supply }

def State.setSettings (f : Settings → Settings) (s : State) : State :=
  { s with settings := f s.settings }

def State.setPort (f : Port → Port) (s : State) : State := { s with port := f s.port }

end Sys2Proof.Machine
end

