-- ==== Sys2Proof/Machine/Flags.lean ====
section
/-! DEFINITION. The levels that the part shows and never stores: the notice set (R192), the attention
line (R193), the status byte (R188), and the sets of flags as bits (section 12.5). -/

namespace Sys2Proof.Machine

open Sys2Proof

/-! ### Notices (R192) -/

def Trip.isPriced (r : TripRecord) : Bool :=
  match r.state with
  | .priced _ => true
  | _ => false

def State.referNotice (s : State) : Bool := !s.refers.isEmpty

def State.pricedNotice (s : State) : Bool := s.trips.any Trip.isPriced

def State.deferredNotice (s : State) : Bool := s.deferred.toList.any Option.isSome

def State.faultNotice (s : State) : Bool :=
  s.faults.full || s.faults.records.any (fun r => decide (r.state = .active) && !r.seen)

def State.manifestNotice (s : State) : Bool :=
  s.manifest.previousEnd.isSome ||
    (match s.manifest.active with
     | some a => (match a.phase with | .ended _ => true | _ => false)
     | none => false)

def State.supplyNotice (s : State) : Bool := decide (s.supply.state ≠ .normal)

def State.contactNotice (s : State) : Bool :=
  s.string.links.toList.any (fun l => decide (l.contact = .lost))

def State.clockNotice (s : State) : Bool := !s.clock.isSet

def State.tariffNotice (s : State) : Bool := !s.fare.current.valid

/-- The notices that hold, by weight 1, 2, 4, .. 256. -/
def State.notices (s : State) : List Bool :=
  [s.referNotice, s.pricedNotice, s.deferredNotice, s.faultNotice, s.manifestNotice,
   s.supplyNotice, s.contactNotice, s.clockNotice, s.tariffNotice]

/-- The value of a set given as bits, the first of weight 1. -/
def bitsValue : List Bool → Nat
  | [] => 0
  | b :: bs => (if b then 1 else 0) + 2 * bitsValue bs

/-- The notice set: the sum of the weights of the notices that hold. -/
def State.noticeSet (s : State) : Nat := bitsValue s.notices

/-- The attention line: at least one notice of the set is enabled by the mask (R193). -/
def State.attention (s : State) : Bool :=
  decide (s.noticeSet &&& s.settings.attentionMask ≠ 0)

/-! ### The status byte (R188, section 12.4) -/

def State.busy (s : State) : Bool := s.port.running.isSome

/-- The block holds a result that has not been fetched. -/
def ResultBlock.unfetched (b : ResultBlock) : Bool := b.content.isSome && !b.fetched

def State.ready (s : State) : Bool := s.port.command.unfetched || s.port.read.unfetched

def State.statusByte (s : State) : Byte :=
  byte (bitsValue [s.busy, s.ready, s.port.discarded, s.port.frame, s.attention, s.supplyNotice,
    s.clockNotice, s.tariffNotice])

/-! ### Flags of records (section 12.5) -/

def FareFlags.none : FareFlags :=
  { grace := false, capped := false, incentive := false, ceiling := false, saturated := false,
    skew := false, overlong := false, genFallback := false, planFallback := false }

def fareFlagBits (f : FareFlags) : Nat :=
  bitsValue [f.grace, f.capped, f.incentive, f.ceiling, f.saturated, f.skew, f.overlong,
    f.genFallback, f.planFallback]

def tripFlagBits (r : TripRecord) : Nat := bitsValue [r.foreign, r.latePull, r.orphan, r.unstamped]

/-! ### Condition characters (section 12.2) -/

def conditionBit (c : Byte) (i : Nat) : Bool := c.getLsbD i

def hasBike (c : Byte) : Bool := conditionBit c 0
def hasTap (c : Byte) : Bool := conditionBit c 3
def hasButton (c : Byte) : Bool := conditionBit c 4
def hasOpen (c : Byte) : Bool := conditionBit c 5
def hasShort (c : Byte) : Bool := conditionBit c 6
def hasTagErr (c : Byte) : Bool := conditionBit c 7

def terminalReady (c : Byte) : Bool := conditionBit c 0
def terminalSale (c : Byte) : Bool := conditionBit c 1

/-- BUTTON as a mask. -/
def buttonBit : Byte := 0x10

/-- The mask in force (R15): the host mask joined with the fault button mask. -/
def LinkRecord.mask (l : LinkRecord) : Byte := l.hostMask ||| (if l.buttonMask then buttonBit else 0)

end Sys2Proof.Machine
end

