-- ==== Sys2Proof/Machine/Operands.lean ====
section
/-! DEFINITION. The layouts that come in and go out on the string and as host arguments (chapter 12):
verbs, lamp codes, stamps, tags, sale records, card records, subjects and settings. -/

namespace Sys2Proof.Machine

open Sys2Proof

/-! ### Verbs (R5, R19) -/

def Verb.code : Verb → Byte
  | .survey => 0x10
  | .tapread => 0x11
  | .tagread => 0x12
  | .stamp => 0x20
  | .unstamp => 0x21
  | .mark => 0x22
  | .release => 0x30
  | .relock => 0x31
  | .lampShow => 0x32
  | .saleread => 0x40
  | .salereply => 0x41
  | .settle => 0x42

/-- Answer data characters of a verb (R5). -/
def Verb.answerData : Verb → Nat
  | .tapread => 6
  | .tagread => 17
  | .saleread => 12
  | .survey | .stamp | .unstamp | .mark | .release | .relock | .lampShow | .salereply | .settle => 0

/-- The class of a verb (R19). -/
def Verb.cls : Verb → Nat
  | .relock => 1
  | .stamp | .release | .unstamp => 2
  | .tapread | .tagread | .mark | .saleread | .salereply | .settle => 3
  | .lampShow => 4
  | .survey => 5

def Target.address : Target → Byte
  | .node n => byte n.val
  | .all => 31

/-- The 8-bit sum of bytes (R2). -/
def sum8 (bs : List Byte) : Byte := bs.foldl (· + ·) 0

/-- The data bytes of a call, check included (R2). -/
def callBytes (t : Target) (v : Verb) (args : List Byte) : List Byte :=
  (t.address :: v.code :: args) ++ [-(sum8 (t.address :: v.code :: args))]

/-- The characters of a call: the mark bit on the first only (R1). -/
def callChars (t : Target) (v : Verb) (args : List Byte) : List StringChar :=
  match callBytes t v args with
  | [] => []
  | a :: rest => ⟨a, true⟩ :: rest.map (fun b => ⟨b, false⟩)

/-- The bits of a character in the order in which they are on the string (R196): the 8 data bits, the least
significant first, and then the mark bit. -/
def StringChar.bits (c : StringChar) : List Bool :=
  (List.range 8).map (fun i => c.data.getLsbD i) ++ [c.mark]

/-- The character that bits received in that order spell, none where they are not nine (R196). -/
def charOfBits (bs : List Bool) : Option StringChar :=
  if bs.length = 9 then some { data := byte (bitsValue (bs.take 8)), mark := bs.getD 8 false } else none

/-- The bits that the part last put on the string, each with its end, in the order sent (R1, R196). -/
def State.sentBits (s : State) : List (StringEnd × Bool) :=
  s.string.lastSent.flatMap (fun x => x.2.bits.map (fun b => (x.1, b)))

/-- The nine bits of a character have arrived on an end: the character joins the queue as the table's
STRING_CHARACTER_RECEIVED (R1, R196). Bits that are no whole character are no event of the table (log 25). -/
def State.receiveBits (e : StringEnd) (bs : List Bool) (s : State) : State :=
  match charOfBits bs with
  | some c => { s with pending := s.pending ++ [.stringCharacterReceived e c.data c.mark] }
  | none => s

/-! ### Lamps (section 12.2) -/

def Lamp.code : Lamp → Nat
  | .off => 0
  | .green => 1
  | .greenBlink => 2
  | .amber => 3
  | .amberBlink => 4
  | .red => 5
  | .redFlash n => 8 + n

/-! ### Stamps and tags (section 12.3) -/

/-- The stamp image of a TRIP stamp (R70): 15 bytes. -/
def tripStampImage (f : StampFields) : List Byte :=
  byte 1 :: (beBytes 2 f.origin ++ beBytes 4 f.start.toNat ++ beBytes 5 f.card.toNat
    ++ [byte (f.plan.val + 8 * f.generation.val)] ++ beBytes 2 f.ceiling)

/-- The stamp image of a VAN stamp (R70): the manifest number in the ceiling field. -/
def vanStampImage (origin : Nat) (start : Time) (card : CardNo) (manifest : Nat) : List Byte :=
  byte 2 :: (beBytes 2 origin ++ beBytes 4 start.toNat ++ beBytes 5 card.toNat
    ++ [byte 0] ++ beBytes 2 manifest)

/-- The stamp in a tag (R198). -/
inductive TagStamp where
  | none
  | trip (f : StampFields)
  | van (manifest : Nat)
  deriving DecidableEq, Repr

/-- A tag image that is a successful read (R30, R198). -/
structure TagImage where
  bike : Bike
  serviceMark : Bool
  stamp : TagStamp
  deriving DecidableEq, Repr

def tagStampFields (bs : List Byte) : StampFields :=
  { origin := field bs 3 2,
    start := BitVec.ofNat 32 (field bs 5 4),
    card := BitVec.ofNat 40 (field bs 9 5),
    plan := Fin.ofNat 8 (field bs 14 1),
    generation := Fin.ofNat 16 (field bs 14 1 / 8),
    ceiling := field bs 15 2 }

/-- Judge the 17 data bytes of a TAGREAD answer (R198): none is a failed tag read. -/
def readTag (bs : List Byte) : Option TagImage :=
  let bike := field bs 0 2
  let kind := field bs 2 1 % 4
  let origin := field bs 3 2
  let mark := decide (128 ≤ field bs 2 1)
  if bike = 0 then none
  else if kind = 0 then some { bike := BitVec.ofNat 16 bike, serviceMark := mark, stamp := .none }
  else if kind = 3 ∨ origin = 0 ∨ 4095 < origin then none
  else if kind = 1 then
    some { bike := BitVec.ofNat 16 bike, serviceMark := mark, stamp := .trip (tagStampFields bs) }
  else some { bike := BitVec.ofNat 16 bike, serviceMark := mark, stamp := .van (field bs 15 2) }

def TagStamp.kind : TagStamp → StampKind
  | .none => .none
  | .trip _ => .trip
  | .van _ => .van

/-! ### Sales (section 12.2, R125) -/

/-- The sale record of a SALEREAD answer. -/
structure Sale where
  sequence : Nat
  card : CardNo
  plan : Nat
  minutes : Nat
  hold : Nat
  deriving DecidableEq, Repr

def readSale (bs : List Byte) : Sale :=
  { sequence := field bs 0 2, card := BitVec.ofNat 40 (field bs 2 5), plan := field bs 7 1,
    minutes := field bs 8 2, hold := field bs 10 2 }

def SaleOutcome.code : SaleOutcome → Nat
  | .accepted => 0
  | .exists => 1
  | .full => 2
  | .plan => 3
  | .hold => 4
  | .notReady => 5
  | .invalid => 6

/-! ### Host arguments -/

/-- A card record that passes the checks of R50. -/
structure CardRecord where
  card : CardNo
  cls : CardClass
  plan : Fin 8
  blocked : Bool
  validUntil : Option Time
  deriving DecidableEq, Repr

/-- The checks of R50 on the 13 argument bytes (section 12.4). -/
def readCardRecord (bs : List Byte) : Option CardRecord :=
  let card := field bs 0 5
  let cls := field bs 5 1
  let plan := field bs 6 1
  let standing := field bs 7 1
  let flag := field bs 8 1
  if card = 0 ∨ (cls ≠ 0 ∧ cls ≠ 2) ∨ 7 < plan ∨ 1 < standing ∨ 1 < flag then none
  else some
    { card := BitVec.ofNat 40 card,
      cls := if cls = 0 then .member else .crew,
      plan := Fin.ofNat 8 plan,
      blocked := decide (standing = 1),
      validUntil := if flag = 1 then some (BitVec.ofNat 32 (field bs 9 4)) else none }

/-- A subject in the range of its type (R134, R148): 0 DOCK, 1 BIKE, 2 SEGMENT, 3 TERMINAL. -/
def readSubject (type number : Nat) : Option Subject :=
  if type = 0 then (dockOfNumber number).map .dock
  else if type = 1 then (if 1 ≤ number ∧ number ≤ 65535 then some (.bike (BitVec.ofNat 16 number)) else none)
  else if type = 2 then (if h : number < 30 then some (.segment ⟨number, h⟩) else none)
  else if type = 3 then (if number = 0 then some .terminal else none)
  else none

def FaultKind.code : FaultKind → Nat
  | .coilOpen => 0
  | .coilShort => 1
  | .tagUnreadable => 2
  | .buttonStuck => 3
  | .forcedRemoval => 4
  | .noContact => 5
  | .lineSplit => 6
  | .riderReport => 7
  | .serviceMark => 8
  | .hostReported => 9

def allFaultKinds : List FaultKind :=
  [.coilOpen, .coilShort, .tagUnreadable, .buttonStuck, .forcedRemoval, .noContact, .lineSplit,
   .riderReport, .serviceMark, .hostReported]

def faultKindOf (n : Nat) : Option FaultKind := allFaultKinds.find? (fun k => decide (k.code = n))

/-! ### Settings (section 11.6, R181, R189) -/

/-- The stored value of an item 1..20. -/
def Settings.item (c : Settings) : Nat → Nat
  | 1 => c.answerWindow
  | 2 => c.retryCount
  | 3 => c.retryEnd
  | 4 => c.flip
  | 5 => c.roundPeriod
  | 6 => c.closedSide
  | 7 => c.closedCount
  | 8 => c.closedComplement
  | 9 => c.referTimeout
  | 10 => c.normalBudget
  | 11 => c.coilPeriod
  | 12 => c.pullWindow
  | 13 => c.reportWindow
  | 14 => c.reportThreshold
  | 15 => c.lowEnter
  | 16 => c.lowExit
  | 17 => c.critEnter
  | 18 => c.critExit
  | 19 => c.stationNumber
  | 20 => c.attentionMask
  | _ => 0

def Settings.setItem (c : Settings) (item v : Nat) : Settings :=
  match item with
  | 1 => { c with answerWindow := v }
  | 2 => { c with retryCount := v }
  | 3 => { c with retryEnd := v }
  | 4 => { c with flip := v }
  | 5 => { c with roundPeriod := v }
  | 6 => { c with closedSide := v }
  | 7 => { c with closedCount := v }
  | 8 => { c with closedComplement := v }
  | 9 => { c with referTimeout := v }
  | 10 => { c with normalBudget := v }
  | 11 => { c with coilPeriod := v }
  | 12 => { c with pullWindow := v }
  | 13 => { c with reportWindow := v }
  | 14 => { c with reportThreshold := v }
  | 15 => { c with lowEnter := v }
  | 16 => { c with lowExit := v }
  | 17 => { c with critEnter := v }
  | 18 => { c with critExit := v }
  | 19 => { c with stationNumber := v }
  | 20 => { c with attentionMask := v }
  | _ => c

/-- The range that a written value is brought into (section 11.6; items 15 to 18 by R181). -/
def Settings.range (c : Settings) : Nat → Nat × Nat
  | 1 => (0, 3)
  | 2 => (0, 2)
  | 3 => (0, 1)
  | 4 => (0, 1)
  | 5 => (1, 20)
  | 6 => (0, 1)
  | 7 => (0, 30)
  | 8 => (0, 1)
  | 9 => (2, 30)
  | 10 => (1, 3)
  | 11 => (2, 20)
  | 12 => (10, 60)
  | 13 => (30, 300)
  | 14 => (1, 3)
  | 15 => (c.critExit, c.lowExit - 1)
  | 16 => (c.lowEnter + 1, 255)
  | 17 => (0, c.critExit - 1)
  | 18 => (c.critEnter + 1, c.lowEnter)
  | 19 => (1, 4095)
  | 20 => (0, 511)
  | _ => (0, 0)

/-- The value stored when `v` is written to an item (R189). -/
def Settings.clamp (c : Settings) (item v : Nat) : Nat :=
  let r := c.range item
  if v < r.1 then r.1 else if r.2 < v then r.2 else v

/-- The answer window of item 1, in ms (R7). -/
def Settings.windowMs (c : Settings) : Nat :=
  match c.answerWindow with
  | 0 => 1
  | 1 => 2
  | 2 => 5
  | _ => 20

end Sys2Proof.Machine
end

