-- ==== Sys2Proof/Machine/CallQueue.lean ====
section
/-! DEFINITION. The call queue and the sending of calls (R1, R2, R6, R8, R18, R19, R20), and the
line-split evaluation (R10, R16). -/

namespace Sys2Proof.Machine

open Sys2Proof

def otherEnd : StringEnd → StringEnd
  | .A => .B
  | .B => .A

/-! ### Reach and splits -/

def LinkRecord.reach (l : LinkRecord) : StringEnd → Reach
  | .A => l.reachA
  | .B => l.reachB

def LinkRecord.setReach (l : LinkRecord) (e : StringEnd) (r : Reach) : LinkRecord :=
  match e with
  | .A => { l with reachA := r }
  | .B => { l with reachB := r }

/-- The value that segment k's split indication takes when it is evaluated (R16): set by the three
conditions, clear when node k+1 has reach YES on A, and otherwise as it was. -/
def splitAfter (near far : LinkRecord) (was : Bool) : Bool :=
  if was then decide (far.reachA ≠ .yes)
  else decide (near.reachA = .yes) && decide (far.reachA = .no) && decide (far.reachB = .yes)

/-- Evaluate segment k; a change is added to the call's changes. -/
def evalSplit (k : Fin 30) (x : Call × State) : Call × State :=
  let was := x.2.string.splits.get k
  let next := splitAfter (x.2.link ⟨k.val, by omega⟩) (x.2.link ⟨k.val + 1, by omega⟩) was
  if next = was then x else ({ x.1 with splits := x.1.splits ++ [(k, next)] }, x.2.setSplit k next)

/-- The segments on the two sides of a node, the lower first: where one change of reach moves both
indications, R16 gives no order between their evaluations and reports (the model's choice, log 35). -/
def segmentsOf (n : Node) : List (Fin 30) :=
  (if h : 1 ≤ n.val then [⟨n.val - 1, by omega⟩] else []) ++
    (if h : n.val < 30 then [⟨n.val, h⟩] else [])

/-- The reach that an attempt's outcome gives the end it was sent on (R10). -/
def AttemptOutcome.reach : AttemptOutcome → Reach
  | .silent => .no
  | .good _ | .garbled | .mismatch => .yes

/-- An attempt's outcome updates the node's reach on its end; where that changes it, the splits follow
(R10, R16). -/
def updateReach (o : AttemptOutcome) (c : Call) (s : State) : Call × State :=
  let t := s.setLink c.node (fun l => l.setReach c.on o.reach)
  if (s.link c.node).reach c.on = o.reach then (c, t)
  else (segmentsOf c.node).foldl (fun x k => evalSplit k x) (c, t)

/-! ### Taking a call -/

/-- The entry of the lowest class, and among those the oldest (R19). -/
def pickNext (q : List QueueEntry) : Option QueueEntry :=
  q.foldl (fun best e =>
    match best with
    | none => some e
    | some b => if e.verb.cls < b.verb.cls then some e else some b) none

def sameKey (a b : QueueEntry) : Bool :=
  decide (a.target = b.target) && decide (a.verb = b.verb)

def onEnd (e : StringEnd) (cs : List StringChar) : List (StringEnd × StringChar) :=
  cs.map (fun c => (e, c))

/-- Send the characters of an entry's call on one end. -/
def sendOn (e : StringEnd) (q : QueueEntry) (s : State) : State :=
  s.setSent (onEnd e (callChars q.target q.verb q.args))

/-- Remove an entry from the queue and carry out its call (R6, R8, R19): a broadcast is sent on A
and then on B and waits one answer window; a call to a node notes its preferred end, its contact
state and the settings in force, and sends its first attempt. -/
def beginCall (e : QueueEntry) (s : State) : State :=
  let q := s.string.queue.filter (fun x => !sameKey x e)
  let cs := callChars e.target e.verb e.args
  match e.target with
  | .all =>
    { s with string := { s.string with
        queue := q,
        flight := some (.broadcast e s.settings.windowMs),
        lastSent := onEnd .A cs ++ onEnd .B cs } }
  | .node n =>
    let l := s.link n
    { s with string := { s.string with
        queue := q,
        flight := some (.call
          { node := n, entry := e, noted := l.preferred, window := s.settings.windowMs,
            retries := s.settings.retryCount, retryOther := decide (s.settings.retryEnd = 1),
            flip := decide (s.settings.flip = 1), contactAtTake := l.contact, ended := 0,
            on := l.preferred, crossOf := none, phase := .answering [],
            remaining := s.settings.windowMs, splits := [] }),
        lastSent := onEnd l.preferred cs } }

/-- While the string is free and an entry is queued, its call is taken (R19). REINIT holds the
string until its work is done (log 9). -/
def takeNext (s : State) : State :=
  if s.agenda.hold then s
  else
    match s.string.flight with
    | some _ => s
    | none =>
      match pickNext s.string.queue with
      | some e => beginCall e s
      | none => s

/-- The call in flight has ended: the string is free, and takes the next call (R19). -/
def freeString (s : State) : State :=
  takeNext { s with string := { s.string with flight := none } }

/-! ### Placing a request (R18, R20) -/

/-- The queued entry after a request with its key is merged into it (R18). -/
def mergeEntry (old new : QueueEntry) : QueueEntry :=
  { old with
    args := new.args,
    cross := old.cross || new.cross,
    originators := old.originators ++
      new.originators.filter (fun o => !old.originators.contains o) }

/-- A SHOW that is dropped or evicted is handed back as not shown (R20, R39; a broadcast for every
dock, log 20). -/
def notShown (t : Target) (s : State) : State :=
  match t with
  | .all => s.mapDocks (fun r => { r with lampShown := false })
  | .node n =>
    match nodeDock n with
    | some d => s.setDock d (fun r => { r with lampShown := false })
    | none => s

/-- An entry that a full queue gives up for a request of class 1, 2 or 3 (R20). -/
def yields (e : QueueEntry) : Bool := decide (e.verb = .survey) || decide (e.verb = .lampShow)

def youngestYielding (q : List QueueEntry) : Option QueueEntry := (q.filter yields).getLast?

/-- Place a request in the queue (R18), or treat it as a full queue does (R20). -/
def enqueue (r : QueueEntry) (s : State) : State :=
  let q := s.string.queue
  if q.any (fun e => sameKey e r) then
    s.setQueue (q.map (fun e => if sameKey e r then mergeEntry e r else e))
  else if q.length < 40 then s.setQueue (q ++ [r])
  else if r.verb = .survey then s
  else if r.verb = .lampShow then notShown r.target s
  else
    match youngestYielding q with
    | some v =>
      let s := if v.verb = .lampShow then notShown v.target s else s
      s.setQueue (q.filter (fun e => !sameKey e v) ++ [r])
    | none => s.noteFailure r

/-- Place a request; a free string takes it at once (R19). -/
def place (r : QueueEntry) (s : State) : State := takeNext (enqueue r s)

/-- A request to one node. -/
def request (n : Node) (v : Verb) (args : List Byte) (o : Originator) : QueueEntry :=
  { target := .node n, verb := v, args := args, cross := false, originators := [o] }

def placeDock (d : Dock) (v : Verb) (args : List Byte) (o : Originator) (s : State) : State :=
  place (request (dockNode d) v args o) s

/-- A call of this verb is queued for the dock (R78, R168). The call in flight is not in the queue. -/
def State.queuedFor (s : State) (d : Dock) (v : Verb) : Bool :=
  s.string.queue.any (fun e => decide (e.target = .node (dockNode d)) && decide (e.verb = v))

end Sys2Proof.Machine
end

