-- ==== Sys2Proof/Machine/DockMonitor.lean ====
section
/-! DEFINITION. The Dock Monitor's judgements and writes that other blocks ask for: closed (R25),
hireable (R37), the lamp (R38, R39), refusals (R40), reservations (R161) and the reports of R34. -/

namespace Sys2Proof.Machine

open Sys2Proof

/-! ### Questions to the fault table (R150) -/

def dockFaultIn (s : State) (d : Dock) (p : FaultState → Bool) : Bool :=
  s.faults.records.any (fun r => decide (r.subject = .dock d) && p r.state)

/-- A dock fault in ACTIVE or CLEARING. -/
def State.dockFaulty (s : State) (d : Dock) : Bool := dockFaultIn s d (fun x => decide (x ≠ .suspect))

/-- A dock fault in ACTIVE. -/
def State.dockFaultActive (s : State) (d : Dock) : Bool :=
  dockFaultIn s d (fun x => decide (x = .active))

/-- A bike fault in ACTIVE. -/
def State.bikeFaultActive (s : State) (b : Bike) : Bool :=
  s.faults.records.any (fun r => decide (r.subject = .bike b) && decide (r.state = .active))

/-- A coil fault: COIL_OPEN or COIL_SHORT in ACTIVE or CLEARING (R134). -/
def State.coilFault (s : State) (d : Dock) : Bool :=
  s.faults.records.any (fun r => decide (r.subject = .dock d) && decide (r.state ≠ .suspect) &&
    (decide (r.kind = .coilOpen) || decide (r.kind = .coilShort)))

/-! ### Closed and hireable -/

/-- The dock falls in the range of side and count (R25). -/
def inClosedRange (c : Settings) (d : Dock) : Bool :=
  if c.closedSide = 0 then decide (dockNumber d ≤ c.closedCount)
  else decide (31 - c.closedCount ≤ dockNumber d)

def State.closed (s : State) (d : Dock) : Bool :=
  if s.settings.closedComplement = 0 then inClosedRange s.settings d
  else !inClosedRange s.settings d

/-- R37, its seven conditions in order. -/
def State.hireable (s : State) (d : Dock) : Bool :=
  let r := s.dock d
  match r.bike with
  | none => false
  | some b =>
    decide (s.contact d = .reachable) && decide (r.occupancy = .occupied) &&
    (decide (r.stampSeen = .none) && !r.unpriced) && !s.closed d &&
    decide (r.reservation = .none) && !s.dockFaulty d && !s.bikeFaultActive b

/-! ### The lamp -/

/-- R38: the first case that holds. -/
def State.lampFor (s : State) (d : Dock) : Lamp :=
  let r := s.dock d
  match r.flash with
  | some f => .redFlash f.code
  | none =>
    if r.occupancy = .releasing then .greenBlink
    else if s.refers.any (fun x => decide (x.dock = d)) then .amberBlink
    else if s.contact d = .lost ∨ s.closed d = true ∨ s.dockFaultActive d = true then .red
    else if r.reservation ≠ .none then .amber
    else if s.hireable d then .green
    else .off

/-- The lamp pattern is selected again (R39), and a SHOW queued where the node is not known to show
it and is not LOST. -/
def selectLamp (d : Dock) (s : State) : State :=
  let p := s.lampFor d
  let s := if p = (s.dock d).lamp then s
    else s.setDock d (fun r => { r with lamp := p, lampShown := false })
  if (s.dock d).lampShown = false ∧ s.contact d ≠ .lost then
    placeDock d .lampShow [byte p.code] .dockMonitor s
  else s

/-- Every dock's lamp is selected again at a write of the closed range (R39). The docks are taken by rising
number: the rule says only "for every dock", and so orders none of the SHOW requests (the model's
choice, log 35). -/
def selectAllLamps (s : State) : State := allDocks.foldl (fun s d => selectLamp d s) s

/-- The docks whose bike_number names the bicycle: their lamps are selected again (R39, log 23). -/
def selectLampsOfBike (b : Bike) (s : State) : State :=
  allDocks.foldl (fun s d => if (s.dock d).bike = some b then selectLamp d s else s) s

/-- Show refusal code n at a dock for 3 s (R40). -/
def showRefusal (n : Nat) (d : Dock) (s : State) : State :=
  selectLamp d (s.setDock d (fun r => { r with flash := some { code := n, remaining := 3000 } }))

/-- The Manifest Unit writes a dock's reservation (R161). -/
def setReservation (d : Dock) (x : Reservation) (s : State) : State :=
  selectLamp d (s.setDock d (fun r => { r with reservation := x }))

/-! ### Reports of tag writes and deferrals (R34) -/

/-- A report names the bicycle: it is applied where the dock holds that bicycle, and the lamp is
selected; otherwise it is discarded. -/
def reportDock (d : Dock) (b : Bike) (f : DockRecord → DockRecord) (s : State) : State :=
  if (s.dock d).bike = some b then selectLamp d (s.setDock d f) else s

def reportStamped (d : Dock) (b : Bike) (k : StampKind) : State → State :=
  reportDock d b (fun r => { r with stampSeen := k })

def reportUnstamped (d : Dock) (b : Bike) : State → State := reportStamped d b .none

def reportMarked (d : Dock) (b : Bike) (value : Bool) : State → State :=
  reportDock d b (fun r => { r with serviceMark := value })

def reportUnpriced (d : Dock) (b : Bike) (value : Bool) : State → State :=
  reportDock d b (fun r => { r with unpriced := value })

/-- The fields of a dock whose bicycle has gone or been replaced (R28, R29). -/
def DockRecord.forget (r : DockRecord) : DockRecord :=
  { r with bike := none, stampSeen := .none, unpriced := false, serviceMark := false }

end Sys2Proof.Machine
end

