-- ==== Sys2Proof/Machine/ManifestOps.lean ====
section
/-! DEFINITION. The Manifest Unit's work inside other events (chapter 9): placing moves, giving docks
up, displacement and migration, crew release reports, van drops, activation and the end. -/

namespace Sys2Proof.Machine

open Sys2Proof

/-! ### Placing moves -/

/-- Fit for a PICKUP (R159). -/
def State.fitPickup (s : State) (d : Dock) : Bool :=
  let r := s.dock d
  decide (r.occupancy = .occupied) && r.bike.isSome && decide (s.contact d = .reachable) &&
    decide (r.reservation = .none) && !s.coilFault d && !r.unpriced

/-- Fit for a DROP (R160). -/
def State.fitDrop (s : State) (d : Dock) : Bool :=
  let r := s.dock d
  decide (r.occupancy = .empty) && decide (s.contact d = .reachable) &&
    decide (r.reservation = .none) && !s.coilFault d

/-- The dock's bicycle has an ACTIVE bike fault (R150). -/
def State.dockBikeFaulty (s : State) (d : Dock) : Bool :=
  match (s.dock d).bike with
  | some b => s.bikeFaultActive b
  | none => false

/-- The choice for a PICKUP that names nothing (R159): faulty bicycles first, then closed docks, then
every other fit dock, each lowest number first. -/
def State.choosePickup (s : State) : Option Dock :=
  let fit := allDocks.filter (fun d => s.fitPickup d)
  (fit.find? (fun d => s.dockBikeFaulty d)).or
    ((fit.find? (fun d => s.closed d)).or fit.head?)

def State.findPickup (s : State) (m : Move) : Option Dock :=
  match m.bike, m.dock with
  | some b, named =>
    match s.dockHolding b with
    | some d => if (named = none ∨ named = some d) ∧ s.fitPickup d = true then some d else none
    | none => none
  | none, some d => if s.fitPickup d then some d else none
  | none, none => s.choosePickup

/-- The lowest dock that is fit for a DROP and not closed (R160, R167). -/
def State.openDrop (s : State) : Option Dock :=
  allDocks.find? (fun d => s.fitDrop d && !s.closed d)

def State.findDrop (s : State) (m : Move) : Option Dock :=
  match m.dock with
  | some d => if s.fitDrop d then some d else none
  | none => s.openDrop

/-- The reservation that a move of a kind makes. -/
def reservationOf (k : MoveKind) (i : Nat) : Reservation :=
  match k with
  | .pickup => .pickup i
  | .drop => .drop i

/-- A move takes a dock (R161), or becomes SHORT where none is found. -/
def takeDock (i : Nat) (k : MoveKind) (found : Option Dock) (s : State) : State :=
  match found with
  | some d =>
    setReservation d (reservationOf k i)
      (s.setMove i (fun m => { m with state := .reserved, heldDock := some d }))
  | none => s.setMove i (fun m => { m with state := .short })

/-- Place the move of an index (R158, R162). -/
def placeMove (i : Nat) (s : State) : State :=
  match s.move? i with
  | some m =>
    takeDock i m.kind (match m.kind with | .pickup => s.findPickup m | .drop => s.findDrop m) s
  | none => s

def State.moves (s : State) : List Move :=
  match s.manifest.active with
  | some a => a.moves
  | none => []

/-- The retry pass: every SHORT move in index order (R162). -/
def manifestRetry (s : State) : State :=
  if s.manifestActive then
    (List.range s.moves.length).foldl (fun s i =>
      match s.move? i with
      | some m => if m.state = .short then placeMove i s else s
      | none => s) s
  else s

/-! ### Giving a dock up -/

/-- A move gives up its dock (R161). In an ENDED buffer no reservation is written (R164). -/
def giveUp (i : Nat) (s : State) : State :=
  match s.move? i with
  | some m =>
    match m.heldDock with
    | some d =>
      let s := (s.setMove i (fun m => { m with heldDock := none })).noteManifest
      if s.manifestLive then setReservation d .none s else s
    | none => s
  | none => s

/-- Migration (R167). -/
def migrate (i : Nat) (s : State) : State :=
  let s := s.setMove i (fun m => { m with landedDock := none })
  takeDock i .drop s.openDrop s

/-- A PICKUP move gives up its dock and becomes SHORT (R165, R167). -/
def shorten (i : Nat) (s : State) : State :=
  (giveUp i s).setMove i (fun m => { m with state := .short })

/-- The first move of the active buffer with a property. -/
def State.moveIndex (s : State) (p : Move → Bool) : Option Nat := s.moves.findIdx? p

def isLanded (d : Dock) (m : Move) : Bool :=
  decide (m.kind = .drop) && decide (m.state = .opened) && decide (m.landedDock = some d)

def isReservedAt (k : MoveKind) (d : Dock) (m : Move) : Bool :=
  decide (m.kind = k) && decide (m.state = .reserved) && decide (m.heldDock = some d)

def onMove (p : Move → Bool) (f : Nat → State → State) (s : State) : State :=
  match s.moveIndex p with
  | some i => f i s
  | none => s

/-! ### What the Manifest Unit is told -/

/-- A change of a dock's occupancy (R162, R167). -/
def tellOccupancy (d : Dock) (s : State) : State :=
  let s := s.noteManifest
  if s.manifestLive = true ∧ (s.dock d).occupancy = .empty then
    onMove (isReservedAt .pickup d) shorten (onMove (isLanded d) migrate s)
  else s

/-- A dock has a bike number (R162, R165, R167). -/
def tellBikeNumber (d : Dock) (s : State) : State :=
  let s := s.noteManifest
  if s.manifestLive then
    onMove (isLanded d) migrate
      (onMove (fun m => isReservedAt .pickup d m && m.bike.isSome && decide (m.bike ≠ (s.dock d).bike))
        shorten s)
  else s

/-- An arrival at a dock (R165): a DROP move that holds it becomes OPEN with landed_dock there. -/
def tellArrival (d : Dock) (s : State) : State :=
  match (s.dock d).reservation with
  | .drop i =>
    (giveUp i s).setMove i (fun m => { m with state := .opened, landedDock := some d })
  | .none | .pickup _ => s

/-- A change of a fault of a dock or a bicycle (R135, R162); the dock has gained a coil fault where
`gained` says so (R167). -/
def tellFault (gained : Option Dock) (s : State) : State :=
  let s := s.noteManifest
  match gained with
  | some d =>
    if s.manifestLive then
      onMove (isReservedAt .pickup d) shorten
        (onMove (isReservedAt .drop d) (fun i s => migrate i (giveUp i s)) s)
    else s
  | none => s

/-- A change of a dock's contact state (R162). -/
def tellContact (s : State) : State := s.noteManifest

/-! ### Activation and the end -/

def countMoves (p : MoveState) (ms : List Move) : Nat := (ms.filter (fun m => decide (m.state = p))).length

def anyReleasing (ms : List Move) : Bool := ms.any (fun m => decide (m.state = .releasing))

/-- What previous_end becomes when a manifest replaces this one (R158). -/
def endSummary (a : ActiveManifest) : Option PreviousEnd :=
  match a.phase with
  | .ended o => some { number := a.header.number, outcome := o, doneCount := countMoves .done a.moves }
  | .active | .suspended => none

/-- The staged manifest is activated, and its moves are placed in index order (R158). -/
def activate (g : StagedManifest) (s : State) : State :=
  let moves := (g.moves.toList.take g.header.moveCount).filterMap id
  let s := s.setManifest fun m =>
    { m with
      previousEnd := (match m.active with
        | some a => (match endSummary a with | some e => some e | none => m.previousEnd)
        | none => m.previousEnd),
      active := some { phase := .active, header := g.header, moves := moves },
      reload := g.header.expiryMinutes * 60,
      counter := g.header.expiryMinutes * 60,
      staged := none }
  (List.range moves.length).foldl (fun s i => placeMove i s) s

/-- A held manifest may be activated now (R171, step 4): no move is RELEASING, and previous_end is
absent or the buffer is IDLE. -/
def State.canFollow (s : State) : Bool :=
  match s.manifest.active with
  | none => true
  | some a =>
    match a.phase with
    | .ended _ => !anyReleasing a.moves && s.manifest.previousEnd.isNone
    | .active | .suspended => false

/-- Step 4 of R171. -/
def followOn (s : State) : State :=
  match s.manifest.staged with
  | some g => if g.held = true ∧ s.canFollow = true then activate g s else s
  | none => s

/-- Every reservation is lifted and told to the Dock Monitor, at the end of a manifest (R171, step 2) and at
REINIT (R44, R174). The docks are taken by rising number: the rules state no order, and so none to the
SHOW requests (the model's choice, log 35). -/
def dropReservations (s : State) : State :=
  allDocks.foldl (fun s d =>
    if (s.dock d).reservation = .none then s else setReservation d .none s) s

/-- The manifest ends (R171), step 4 within the end. Where a pull ends it, this comes before the Dock
Monitor makes the departing dock EMPTY, so the follow-on's pass may place a PICKUP there that the
emptying makes SHORT (read from R75 and R164, log 36). -/
def endManifest (o : ManifestOutcome) (s : State) : State :=
  let s := s.setManifest fun m =>
    { m with active := m.active.map fun a =>
        { a with phase := .ended o, moves := a.moves.map (fun x => { x with landedDock := none }) } }
  let s := dropReservations s
  let s := s.filterHire (fun q => decide (q.kind = .member))
  followOn s

/-- A move becomes DONE (R164, R166): it gives up its dock, the counter of a live buffer is reloaded,
and the manifest ends COMPLETE when every move is DONE. -/
def doneMove (i : Nat) (d : Dock) (b : Bike) (late : Bool) (s : State) : State :=
  let s := giveUp i s
  let s := s.setMove i (fun m =>
    { m with state := .done, doneDock := some d, doneBike := some b, latePull := late,
             landedDock := none })
  if s.manifestLive then
    let s := s.setManifest (fun m => { m with counter := m.reload })
    if s.moves.all (fun m => decide (m.state = .done)) then endManifest .complete s else s
  else s

/-! ### Crew release reports (R164) -/

inductive CrewReport where
  /-- Request refused or dropped before grant. -/
  | dropped
  | granted
  /-- STAMP failed, abandoned or cancelled. -/
  | returned
  /-- The bicycle was pulled, with or without LATE_PULL. -/
  | taken (late : Bool)
  /-- The bicycle was taken after the cancel. -/
  | takenAfterCancel
  deriving DecidableEq, Repr

/-- The report acts on the move (the table of R164). -/
def reportMove (i : Nat) (r : CrewReport) (d : Dock) (b : Bike) (m : Move) (s : State) : State :=
  match r with
  | .dropped => s
  | .granted => s.setMove i (fun m => { m with state := .releasing })
  | .returned => s.setMove i (fun m => { m with state := .reserved })
  | .taken late => doneMove i d b late s
  | .takenAfterCancel =>
    if m.state = .reserved ∧ m.heldDock = some d then doneMove i d b true s else s

/-- A report of the Hire Unit names the manifest, the move, the dock and the bicycle. When the last
RELEASING move of an ended buffer has left RELEASING, step 4 of R171 is taken again at the end of the
event. -/
def crewReport (manifest i : Nat) (r : CrewReport) (d : Dock) (b : Bike) (s : State) : State :=
  match s.manifest.active with
  | none => s
  | some a =>
    if a.header.number ≠ manifest then s
    else
      match a.moves[i]? with
      | none => s
      | some m =>
        let t := reportMove i r d b m s
        if m.state = .releasing ∧ anyReleasing t.moves = false then t.noteFollowOn else t

/-! ### Van drops (R166) and the incentive's question (R173) -/

def isDropDone (d : Dock) (b : Bike) (m : Move) : Bool :=
  decide (m.kind = .drop) && decide (m.state = .done) && decide (m.doneDock = some d) &&
    decide (m.doneBike = some b)

/-- The third case of R166: a DROP move that is SHORT, or RESERVED with no dock named. -/
def isDropWaiting (m : Move) : Bool :=
  decide (m.kind = .drop) && (decide (m.state = .short) ||
    (decide (m.state = .reserved) && m.dock.isNone))

def matchDrop (d : Dock) (b : Bike) (s : State) : State :=
  if s.moves.any (isDropDone d b) then s
  else
    match s.moveIndex (isLanded d) with
    | some i => doneMove i d b false s
    | none =>
      match s.moveIndex isDropWaiting with
      | some i => doneMove i d b false s
      | none => s

def State.setVanUnstamp (d : Dock) (x : Option Bike) (s : State) : State :=
  s.setManifest (fun m => { m with vanUnstamp := m.vanUnstamp.set d.val x d.isLt })

/-- The active buffer is ACTIVE or SUSPENDED and its manifest number is `n`. -/
def State.worksManifest (s : State) (n : Nat) : Bool :=
  s.manifestLive && (match s.manifest.active with
    | some a => decide (a.header.number = n)
    | none => false)

/-- A VAN-stamped arrival of bicycle `b` at `d`, naming manifest `n` (R166). -/
def vanDrop (d : Dock) (b : Bike) (n : Nat) (s : State) : State :=
  let s := placeDock d .unstamp [] (.manifestUnit b) (s.setVanUnstamp d (some b))
  if s.worksManifest n then matchDrop d b s else s

/-- There is a DROP move still to do (R173). -/
def State.dropToDo (s : State) : Bool :=
  s.manifestLive && s.moves.any (fun m => decide (m.kind = .drop) &&
    (decide (m.state = .opened) || decide (m.state = .reserved) || decide (m.state = .short)))

/-- A van UNSTAMP has ended (R168). -/
def vanUnstampEnd (d : Dock) (b : Bike) (good : Bool) (s : State) : State :=
  if good then
    let s := reportUnstamped d b s
    if s.manifest.vanUnstamp.get d = some b then s.setVanUnstamp d none else s
  else s

/-- The per-second look at one dock's van_unstamp (R168). -/
def vanTick (d : Dock) (s : State) : State :=
  match s.manifest.vanUnstamp.get d with
  | none => s
  | some b =>
    if (s.dock d).bike ≠ some b then s.setVanUnstamp d none
    else if s.contact d ≠ .lost ∧ s.queuedFor d .unstamp = false then
      placeDock d .unstamp [] (.manifestUnit b) s
    else s

/-- The change of occupancy that the Hire Unit asks for (R35), with its lamp and its report. -/
def setOccupancy (d : Dock) (o : Occupancy) (s : State) : State :=
  tellOccupancy d (selectLamp d (s.setDock d (fun r => { r with occupancy := o })))

/-- The dock becomes EMPTY as R29 states: its bicycle's fields are cleared, a deferred arrival there
leaves the list (R94, log 11), the lamp is selected (R35) and the Manifest Unit is told. -/
def emptyDock (d : Dock) (s : State) : State :=
  tellOccupancy d (selectLamp d
    ((s.setDock d (fun r => { r.forget with occupancy := .empty })).setDeferral d none))

end Sys2Proof.Machine
end

