-- ==== Sys2Proof/Machine/FaultOps.lean ====
section
/-! DEFINITION. The Fault Table's work inside other events (chapter 8): creating, confirming and
retiring records, sensed sets, rider reports, service marks and their MARK calls. -/

namespace Sys2Proof.Machine

open Sys2Proof

/-! ### Service marks (R145) -/

/-- The value of the service mark wanted at a dock: SET is true (R145). -/
def State.markWanted (s : State) (d : Dock) : Option (Bool × Bike) :=
  let r := s.dock d
  match r.bike with
  | some b =>
    if r.occupancy = .occupied ∧ s.contact d ≠ .lost then
      if s.bikeFaultActive b then some (true, b)
      else if (s.faultDock d).unmark = some b then some (false, b)
      else none
    else none
  | none => none

/-- Evaluate the mark wanted at a dock, and place the MARK that it needs (R145). -/
def evalMark (d : Dock) (s : State) : State :=
  match s.markWanted d with
  | some (v, b) =>
    if v ≠ (s.dock d).serviceMark ∧ (s.faultDock d).markPending ≠ some (v, b) then
      placeDock d .mark [if v then 1 else 0] (.faultTable b)
        (s.setFaultDock d (fun f => { f with markPending := some (v, b) }))
    else s
  | none => s

/-- The evaluation for the dock that holds a bicycle (R145). -/
def evalMarkOfBike (b : Bike) (s : State) : State :=
  match s.dockHolding b with
  | some d => evalMark d s
  | none => s

/-- A dock's unmark is set, and the mark wanted is evaluated (R145). -/
def setUnmark (d : Dock) (b : Bike) (s : State) : State :=
  evalMark d (s.setFaultDock d (fun f => { f with unmark := some b }))

/-! ### Telling changes (R135) and their effects -/

/-- Each creation, change and retirement of a dock fault or a bike fault is told to the Dock Monitor
and to the Manifest Unit (R135). `gained` names the dock that has gained a coil fault. -/
def tellChange (subject : Subject) (gained : Option Dock) (s : State) : State :=
  match subject with
  | .dock d => tellFault gained (selectLamp d s)
  | .bike b => tellFault none (selectLampsOfBike b s)
  | .segment _ | .terminal => s

/-- What entering ACTIVE does besides being told: BUTTON_STUCK masks the button (R141); a bike fault
drops the unmark of its bicycle and has the mark wanted evaluated (R145). -/
def activeEffects (subject : Subject) (kind : FaultKind) (s : State) : State :=
  match subject with
  | .dock d =>
    if kind = .buttonStuck then s.setLink (dockNode d) (fun l => { l with buttonMask := true }) else s
  | .bike b =>
    evalMarkOfBike b (s.mapFaultDocks (fun f => if f.unmark = some b then { f with unmark := none } else f))
  | .segment _ | .terminal => s

/-- The dock gains a coil fault (R167): a coil record entered ACTIVE where there was none before. -/
def gainedCoil (before after : State) (subject : Subject) : Option Dock :=
  match subject with
  | .dock d => if before.coilFault d = false ∧ after.coilFault d = true then some d else none
  | .bike _ | .segment _ | .terminal => none

/-- A record enters ACTIVE: seen becomes false, its count 0 (R135, R138), and its effects follow. Its
effects, a MARK among them, come before the change is told and a SHOW placed; R135 and R145 state no
order (the model's choice, log 35). -/
def confirmFault (r : FaultRecord) (s : State) : State :=
  let t := s.setFault r.slot (fun r => { r with state := .active, count := 0, seen := false })
  tellChange r.subject (gainedCoil s t r.subject) (activeEffects r.subject r.kind t)

/-- What retirement does: a BUTTON_STUCK record's mask is emptied (R141), and it is told (R135). -/
def removeFault (r : FaultRecord) (s : State) : State :=
  let s := s.filterFaults (fun x => decide (x.slot ≠ r.slot))
  let s := match r.subject with
    | .dock d =>
      if r.kind = .buttonStuck then s.setLink (dockNode d) (fun l => { l with buttonMask := false })
      else s
    | .bike _ | .segment _ | .terminal => s
  tellChange r.subject none s

/-- Retirement other than by eviction: FAULT_FULL becomes false (R136). -/
def retireFault (r : FaultRecord) (s : State) : State := removeFault r (s.setFaultFull false)

/-! ### Creating records (R136) -/

def newFault (s : State) (subject : Subject) (kind : FaultKind) (state : FaultState) (count : Nat)
    (reporters : List CardNo) : FaultRecord :=
  { slot := 0, subject := subject, kind := kind, state := state, count := count,
    reporters := reporters, firstTime := s.clock.time, seen := false, order := 0 }

/-- A record is created in SUSPECT, or not at all in a full table (R136). -/
def createSuspect (subject : Subject) (kind : FaultKind) (count : Nat) (reporters : List CardNo)
    (s : State) : State :=
  if s.freeFaultSlot.isSome then
    tellChange subject none (s.addFault (newFault s subject kind .suspect count reporters))
  else s

/-- The SUSPECT record of lowest order (R136). -/
def State.oldestSuspect (s : State) : Option FaultRecord :=
  (s.faults.records.filter (fun r => decide (r.state = .suspect))).foldl (fun best r =>
    match best with
    | none => some r
    | some b => if r.order < b.order then some r else some b) none

/-- Make room for a record that is to be created in ACTIVE: none where no slot is free and no record
is SUSPECT (R136). -/
def makeRoom (s : State) : Option State :=
  if s.freeFaultSlot.isSome then some s
  else
    match s.oldestSuspect with
    | some r => some (removeFault r s)
    | none => none

/-- A record is created in ACTIVE where there is room; its effects come before the change is told, as in
`confirmFault` (the model's choice, log 35). -/
def createActiveIn (subject : Subject) (kind : FaultKind) (reporters : List CardNo) (s : State) : State :=
  let t := s.addFault (newFault s subject kind .active 0 reporters)
  tellChange subject (gainedCoil s t subject) (activeEffects subject kind t)

/-- A record is created in ACTIVE, or FAULT_FULL becomes true (R136). -/
def createActive (subject : Subject) (kind : FaultKind) (reporters : List CardNo) (s : State) : State :=
  match makeRoom s with
  | some t => createActiveIn subject kind reporters t
  | none => s.setFaultFull true

/-! ### Sensed sets (R138) and forced removals (R139) -/

/-- Judge one sensed kind at a dock. -/
def judgeKind (d : Dock) (kind : FaultKind) (threshold : Nat) (present : Bool) (s : State) : State :=
  match s.findFault (.dock d) kind with
  | none =>
    if present = true ∧ kind ≠ .forcedRemoval then createSuspect (.dock d) kind 1 [] s else s
  | some r =>
    match r.state with
    | .suspect =>
      if present then
        if r.count + 1 ≥ threshold then confirmFault r s
        else s.setFault r.slot (fun r => { r with count := r.count + 1 })
      else retireFault r s
    | .active => s
    | .clearing =>
      if present then confirmFault r s
      else if r.count + 1 ≥ 4 then retireFault r s
      else s.setFault r.slot (fun r => { r with count := r.count + 1 })

/-- The indications of a sensed set (R33). -/
structure SensedSet where
  button : Bool
  coilOpen : Bool
  coilShort : Bool
  tagErr : Bool
  deriving DecidableEq, Repr

/-- A card reports a bicycle (R143). -/
def riderReport (b : Bike) (c : CardNo) (s : State) : State :=
  match s.findFault (.bike b) .riderReport with
  | none =>
    if s.settings.reportThreshold ≤ 1 then createActive (.bike b) .riderReport [c] s
    else createSuspect (.bike b) .riderReport 0 [c] s
  | some r =>
    let added := if r.reporters.contains c then r.reporters
      else if r.reporters.length < 3 then r.reporters ++ [c] else r.reporters
    let t := s.setFault r.slot (fun r => { r with reporters := added })
    match r.state with
    | .suspect => if added.length ≥ s.settings.reportThreshold then confirmFault r t else t
    | .active | .clearing => t

/-- BUTTON in a sensed set, as a rider report (R143). -/
def pressButton (d : Dock) (s : State) : State :=
  match (s.faultDock d).report with
  | none => s
  | some x =>
    if (s.dock d).bike = some x.bike then riderReport x.bike x.card s
    else s.setFaultDock d (fun f => { f with report := none })

/-- A sensed set of a dock (R138, R143). The five kinds are judged in the order of R138's table: the rule
states none, and the order decides which new condition takes the last free slot (the model's choice,
log 35). -/
def sensedSet (d : Dock) (x : SensedSet) (s : State) : State :=
  let s := judgeKind d .coilOpen 4 x.coilOpen s
  let s := judgeKind d .coilShort 4 x.coilShort s
  let s := judgeKind d .tagUnreadable 4 (x.tagErr || (s.faultDock d).tagFailed) s
  let s := judgeKind d .buttonStuck 8 x.button s
  let s := judgeKind d .forcedRemoval 4 false s
  let s := s.setFaultDock d (fun f => { f with tagFailed := false })
  if x.button then pressButton d s else s

/-- A FORCED_REMOVAL report (R139). -/
def forcedRemoval (d : Dock) (s : State) : State :=
  match s.findFault (.dock d) .forcedRemoval with
  | none => createActive (.dock d) .forcedRemoval [] s
  | some r =>
    match r.state with
    | .clearing => confirmFault r s
    | .active | .suspect => s

/-- A failed tag read is reported (R138), unless the mask in force names TAGERR. -/
def tagFailed (d : Dock) (s : State) : State :=
  if hasTagErr (s.link (dockNode d)).mask then s
  else s.setFaultDock d (fun f => { f with tagFailed := true })

/-! ### Contact and splits (R140) -/

/-- Node 0 is the TERMINAL (R140). -/
def nodeSubject (n : Node) : Subject :=
  match nodeDock n with
  | some d => .dock d
  | none => .terminal

/-- A condition that holds raises its record at once, and one that has gone retires it (R140). -/
def conditionFault (subject : Subject) (kind : FaultKind) (holds : Bool) (s : State) : State :=
  match s.findFault subject kind, holds with
  | none, true => createActive subject kind [] s
  | some r, false => retireFault r s
  | some _, true => s
  | none, false => s

/-! ### Imported marks (R144), report contexts (R142), service clearing (R146) -/

def importMark (d : Dock) (b : Bike) (s : State) : State :=
  if (s.faultDock d).unmark = some b then s
  else if (s.findFault (.bike b) .serviceMark).isSome then s
  else createActive (.bike b) .serviceMark [] s

def openReport (d : Dock) (b : Bike) (c : CardNo) (s : State) : State :=
  s.setFaultDock d (fun f =>
    { f with report := some { bike := b, card := c, remaining := s.settings.reportWindow * 1000 } })

/-- A crew clears the bicycle in a dock (R146): its records are retired, by rising slot (the model's
choice, log 35), and its mark cleared. -/
def serviceClear (d : Dock) (s : State) : State :=
  match (s.dock d).bike with
  | some b =>
    let rs := s.faults.records.filter (fun r => decide (r.subject = .bike b))
    (setUnmark d b (rs.foldl (fun s r => retireFault r s) s)).noteManifest
  | none => s

/-! ### The end of a MARK (R145) and the per-second work -/

def markEnd (d : Dock) (b : Bike) (value good : Bool) (s : State) : State :=
  let s := if good then
      let s := reportMarked d b value s
      if value = false ∧ (s.faultDock d).unmark = some b then
        s.setFaultDock d (fun f => { f with unmark := none })
      else s
    else s
  s.setFaultDock d (fun f =>
    if f.markPending = some (value, b) then { f with markPending := none } else f)

/-- Drop the unmark of a dock that is EMPTY or holds another bike number (R145). -/
def dropStaleUnmark (d : Dock) (s : State) : State :=
  match (s.faultDock d).unmark with
  | none => s
  | some b =>
    let r := s.dock d
    if r.occupancy = .empty ∨ (r.bike.isSome = true ∧ r.bike ≠ some b) then
      s.setFaultDock d (fun f => { f with unmark := none })
    else s

/-- The per-second work (R145), dock by dock in ascending number: the rule states no order, and so none
to the MARK requests that join the queue (the model's choice, log 35). -/
def faultTick (s : State) : State :=
  let s := allDocks.foldl (fun s d => dropStaleUnmark d s) s
  allDocks.foldl (fun s d => evalMark d s) s

end Sys2Proof.Machine
end

