-- ==== Sys2Proof/Machine/FareOps.lean ====
section
/-! DEFINITION. The Fare Unit's selection and computation (R109 to R118), the rotation of the banks
(R108), and the questions about CURRENT (R110). -/

namespace Sys2Proof.Machine

open Sys2Proof

def Bank.plan (b : Bank) (p : Fin 8) : Plan := b.plans.get p

def Plan.defined (p : Plan) : Bool := decide (p.count ≠ 0)

def Bank.anyDefined (b : Bank) : Bool := b.plans.toList.any Plan.defined

def Plan.bands (p : Plan) : List Band := ([p.band0, p.band1, p.band2, p.band3]).take p.count

/-! ### Questions about CURRENT (R110) -/

/-- The unlock fee for a plan: its own U if defined, else plan 0's if defined, else 0. -/
def State.unlockFee (s : State) (p : Fin 8) : Nat :=
  if (s.fare.current.plan p).defined then (s.fare.current.plan p).unlock
  else if (s.fare.current.plan 0).defined then (s.fare.current.plan 0).unlock
  else 0

/-! ### Selection (R109) -/

/-- The bank that prices a stamp of this generation, with GEN_FALLBACK. -/
def FareUnit.selectBank (f : FareUnit) (g : Fin 16) : Option (Bank × Bool) :=
  if f.current.valid = true ∧ f.current.generation = g then some (f.current, false)
  else if f.previous.valid = true ∧ f.previous.generation = g then some (f.previous, false)
  else if f.current.valid then some (f.current, true)
  else none

/-- The plan number used in a bank, with PLAN_FALLBACK. -/
def Bank.selectPlan (b : Bank) (p : Fin 8) : Option (Fin 8 × Bool) :=
  if (b.plan p).defined then some (p, false)
  else if (b.plan 0).defined then some (0, true)
  else none

/-! ### The stages (R111 to R117) -/

def ceilDiv (a b : Nat) : Nat := (a + b - 1) / b

/-- R111: the clamped duration, with SKEW and OVERLONG. -/
def clampDuration (d : Nat) : Nat × Bool × Bool :=
  if 2 ^ 31 ≤ d then (0, true, false)
  else if 604800 < d then (604800, false, true)
  else (d, false, false)

/-- R112: the chargeable time. -/
def chargeable (d g : Nat) : Nat := if g < d then d - g else 0

/-- R113: the walk of the bands in use, with what remains of the minutes and the charge so far. The
last band runs to the end of the trip. -/
def walkBands : List Band → Nat → Nat → Nat
  | [], _, raw => raw
  | [b], left, raw => raw + ceilDiv left b.block * b.rate
  | b :: rest, left, raw =>
    walkBands rest (left - min left b.length) (raw + ceilDiv (min left b.length) b.block * b.rate)

/-- R114: the started days of a trip, at least 1. -/
def startedDays (d : Nat) : Nat := max 1 (ceilDiv d 86400)

/-- What a computation yields: the fare, its flags, and the intermediate values that a quote shows. -/
structure FareResult where
  fare : Nat
  flags : FareFlags
  minutes : Nat
  days : Nat
  raw : Nat
  deriving DecidableEq, Repr

/-- The stages R111 to R117 on a plan, with K of its bank, the unclamped duration, the ceiling,
whether the incentive applies, and the fallback flags of the selection. -/
def computeFare (p : Plan) (k duration ceiling : Nat) (incentive genFallback planFallback : Bool) :
    FareResult :=
  let (d, skew, overlong) := clampDuration duration
  let c := chargeable d p.grace
  let m := ceilDiv c 60
  let raw0 := walkBands p.bands m 0
  let days := if p.cap = 0 then 0 else startedDays d
  let capped := decide (p.cap ≠ 0) && decide (p.cap * days < raw0)
  let raw := if capped then p.cap * days else raw0
  let scaled := (raw * p.factor + 64) / 128
  let sum := scaled + p.unlock
  let sum := if incentive then sum - k else sum
  let saturated := decide (65535 < sum)
  let sum := if saturated then 65535 else sum
  let held := decide (ceiling < sum)
  { fare := if held then ceiling else sum,
    flags :=
      { grace := decide (c = 0), capped := capped, incentive := incentive, ceiling := held,
        saturated := saturated, skew := skew, overlong := overlong, genFallback := genFallback,
        planFallback := planFallback },
    minutes := m, days := days, raw := raw }

/-- The incentive applies (R116). -/
def incentiveApplies (b : Bank) (hireable : Nat) (dropToDo : Bool) : Bool :=
  decide (0 < b.k) && decide (hireable < b.w) && !dropToDo

/-- Price a trip from its stamp, its end time, the count of hireable docks and the manifest answer
(R109): none where no bank can price it. -/
def FareUnit.price (f : FareUnit) (st : StampFields) (endTime : Time) (hireable : Nat)
    (dropToDo : Bool) : Option FareResult :=
  match f.selectBank st.generation with
  | none => none
  | some (b, gen) =>
    match b.selectPlan st.plan with
    | none => none
    | some (p, planFb) =>
      some (computeFare (b.plan p) b.k (timeAgo endTime st.start) st.ceiling
        (incentiveApplies b hireable dropToDo) gen planFb)

/-- The docks other than one that are hireable now (R91). -/
def State.hireableOthers (s : State) (d : Dock) : Nat :=
  (allDocks.filter (fun x => decide (x ≠ d) && s.hireable x)).length

def State.hireableCount (s : State) : Nat := (allDocks.filter (fun x => s.hireable x)).length

/-! ### Activation (R108) -/

/-- The pending activation is reached. -/
def State.activationReached (s : State) (at_ : Time) : Bool :=
  s.clock.isSet && decide (timeAgo s.clock.time at_ < 2 ^ 31)

/-- The banks after a rotation. -/
def FareUnit.rotate (f : FareUnit) (g : Fin 16) : FareUnit :=
  { current := { f.staged with generation := g, valid := true },
    previous := f.current,
    staged := .empty,
    activation := none,
    lastOutcome := .taken }

/-- Test the pending activation (R108). A rotation is followed by the Trip Table's retry pass. -/
def testActivation (s : State) : State :=
  match s.fare.activation with
  | none => s
  | some (g, t) =>
    if s.activationReached t then
      if s.fare.staged.anyDefined then (s.setFare (fun f => f.rotate g)).noteTrips
      else s.setFare (fun f => { f with activation := none, lastOutcome := .withdrawn })
    else s

end Sys2Proof.Machine
end

