-- ==== Sys2Proof/Machine/CardOps.lean ====
section
/-! DEFINITION. The Card Table's answers to the other blocks (R46, R48, R49, R128), loading (R50),
refer slots (R54 to R56), and the exchange with the pay terminal (R123 to R130). -/

namespace Sys2Proof.Machine

open Sys2Proof

/-! ### Expiry (R46) -/

/-- The entry's valid_until has passed. -/
def State.passed (s : State) (e : CardEntry) : Bool :=
  match e.validUntil with
  | none => false
  | some v => s.clock.isSet && decide (1 ≤ timeAgo s.clock.time v) &&
      decide (timeAgo s.clock.time v ≤ 2 ^ 31 - 1)

/-! ### The requests of a release and of a trip (R48, R49) -/

def cardWaiting (c : CardNo) (d : Dock) (s : State) : State :=
  s.setCard c (fun e => { e with queuedDock := some d })

def cardWithdrawn (c : CardNo) (s : State) : State :=
  s.setCard c (fun e => { e with queuedDock := none })

/-- The Link request: taken when the entry is IDLE and its queued_dock is the granted dock. -/
def cardLink (c : CardNo) (d : Dock) (b : Bike) (start : Time) (s : State) : State :=
  match s.findCard c with
  | some e =>
    if e.activity = .idle ∧ e.queuedDock = some d then
      s.setCard c (fun e =>
        { e with queuedDock := none, activity := .pending, link := some (b, start) })
    else s
  | none => s

def cardPulled (c : CardNo) (s : State) : State :=
  s.setCard c (fun e => if e.activity = .pending then { e with activity := .riding } else e)

/-- What a free request with a fare adds to captured (R128). -/
def captureOf (e : CardEntry) (fare : Option Nat) : Nat :=
  match e.guest, fare with
  | some g, some f => min f (g.hold - g.captured)
  | _, _ => 0

/-- The entry after a free request that frees it (R49, R128). -/
def freedEntry (s : State) (fare : Option Nat) (e : CardEntry) : CardEntry :=
  { e with
    link := none,
    activity := if e.cls = .guest ∧ s.passed e = true then .settling else .idle,
    guest := e.guest.map (fun g => { g with captured := g.captured + captureOf e fare }) }

/-- The entry is PENDING or RIDING on the trip that the request names (R49). -/
def linkedTo (e : CardEntry) (b : Bike) (start : Time) : Bool :=
  (decide (e.activity = .pending) || decide (e.activity = .riding)) &&
    decide (e.link = some (b, start))

/-- The free request (R49), with the amount that it added to captured. -/
def cardFree (c : CardNo) (b : Bike) (start : Time) (fare : Option Nat) (s : State) : State × Nat :=
  match s.findCard c with
  | some e =>
    if linkedTo e b start then (s.setCard c (freedEntry s fare), captureOf e fare) else (s, 0)
  | none => (s, 0)

/-- The relink request after a late pull (R49), and whether it was taken. -/
def cardRelink (c : CardNo) (b : Bike) (start : Time) (s : State) : State × Bool :=
  match s.findCard c with
  | some e =>
    if e.activity = .idle ∧ e.link = none ∧ e.queuedDock = none then
      (s.setCard c (fun e => { e with activity := .riding, link := some (b, start) }), true)
    else (s, false)
  | none => (s, false)

/-! ### Loading (R50) -/

/-- Load a record that passed the checks: the result code, and the state. The slot is read from the
table afterwards. -/
def loadRecord (r : CardRecord) (s : State) : ResultCode × State :=
  match s.findCard r.card with
  | some e =>
    if e.cls = .guest then (.state, s)
    else (.ok, s.setCard r.card (fun e =>
      { e with cls := r.cls, plan := r.plan, blocked := r.blocked, validUntil := r.validUntil }))
  | none =>
    if s.freeCardSlot.isSome then
      (.ok, s.addCard
        { slot := 0, card := r.card, cls := r.cls, plan := r.plan, blocked := r.blocked,
          activity := .idle, validUntil := r.validUntil, link := none, queuedDock := none,
          guest := none })
    else (.full, s)

def State.slotOf (s : State) (c : CardNo) : Nat :=
  match s.findCard c with
  | some e => e.slot.val
  | none => 0

/-! ### Refer slots (R55, R56) -/

def State.referMs (s : State) : Nat := s.settings.referTimeout * 1000

/-- The slot of a card is retired, and the Dock Monitor told; nothing where none holds it. -/
def retireRefer (c : CardNo) (s : State) : State :=
  match s.findRefer c with
  | some r => selectLamp r.dock (s.dropRefer c)
  | none => s

/-- A tap that misses (R55, R56). -/
def missTap (c : CardNo) (d : Dock) (s : State) : State :=
  match s.findRefer c with
  | some r =>
    let t := s.setRefer c (fun r =>
      { r with dock := d, tapTime := s.clock.time, remaining := s.referMs, reaimed := true })
    if r.dock = d then t else selectLamp d (selectLamp r.dock t)
  | none =>
    if s.refers.length < 4 then
      selectLamp d (s.addRefer
        { card := c, dock := d, tapTime := s.clock.time, remaining := s.referMs, reaimed := false })
    else showRefusal 4 d s

/-! ### The per-second work (R61) -/

def State.guestEnds (s : State) (e : CardEntry) : Bool :=
  decide (e.cls = .guest) && decide (e.activity = .idle) && e.queuedDock.isNone && s.passed e

def cardTick (s : State) : State :=
  s.mapCards (fun e => if s.guestEnds e then { e with activity := .settling } else e)

/-! ### The pay terminal (chapter 7) -/

def terminalNode : Node := 0

def placeTerminal (v : Verb) (args : List Byte) (s : State) : State :=
  place (request terminalNode v args .cardTable) s

/-- The SETTLING entry at which the search from the cursor, wrapping past slot 255, stops first
(R129). -/
def State.nextSettling (s : State) : Option CardEntry :=
  let xs := s.cards.filter (fun e => decide (e.activity = .settling))
  (xs.find? (fun e => decide (s.terminal.settleCursor.val ≤ e.slot.val))).or xs.head?

def guestHold (e : CardEntry) : Nat := match e.guest with | some g => g.hold | none => 0
def guestCaptured (e : CardEntry) : Nat := match e.guest with | some g => g.captured | none => 0
def guestSale (e : CardEntry) : Nat := match e.guest with | some g => g.saleSequence | none => 0

/-- The settlement step (R129). -/
def settlementStep (s : State) : State :=
  if s.terminal.settleContext.isSome then s
  else
    match s.nextSettling with
    | none => s
    | some e =>
      placeTerminal .settle
        (beBytes 5 e.card.toNat ++ beBytes 2 (guestCaptured e) ++ beBytes 2 (guestHold e))
        (s.setTerminal (fun t =>
          { t with
            settleContext := some { card := e.card, slot := e.slot, saleSequence := guestSale e },
            settleCursor := e.slot + 1 }))

/-- A GOOD answer to a SURVEY of node 0 (R123). -/
def terminalSurvey (condition : Byte) (s : State) : State :=
  let s := if terminalSale condition then placeTerminal .saleread [] s else s
  if terminalReady condition then settlementStep s else s

/-- The checks of a new sale, in order (R125). -/
def decideSale (x : Sale) (s : State) : SaleOutcome :=
  if 7 < x.plan ∨ x.minutes < 1 ∨ 10080 < x.minutes then .invalid
  else if s.clock.isSet = false ∨ s.fare.current.valid = false then .notReady
  else if (s.findCard x.card).isSome then .exists
  else if s.freeCardSlot.isNone then .full
  else if (s.fare.current.plan (Fin.ofNat 8 x.plan)).defined = false then .plan
  else if x.hold < (s.fare.current.plan (Fin.ofNat 8 x.plan)).unlock then .hold
  else .accepted

/-- The GUEST entry of an accepted sale (R126). -/
def guestEntry (x : Sale) (now : Time) : CardEntry :=
  { slot := 0, card := x.card, cls := .guest, plan := Fin.ofNat 8 x.plan, blocked := false,
    activity := .idle, validUntil := some (now + BitVec.ofNat 32 (x.minutes * 60)), link := none,
    queuedDock := none,
    guest := some { hold := x.hold, captured := 0, saleSequence := x.sequence } }

def replySale (sequence : Nat) (o : SaleOutcome) (s : State) : State :=
  placeTerminal .salereply (beBytes 2 sequence ++ [byte o.code]) s

/-- A SALEREAD has ended GOOD (R124). -/
def saleRead (x : Sale) (s : State) : State :=
  if x.card = 0 then s
  else if s.terminal.lastSaleSequence = some x.sequence then
    replySale x.sequence s.terminal.lastSaleOutcome s
  else
    let o := decideSale x s
    let s := if o = .accepted then s.addCard (guestEntry x s.clock.time) else s
    replySale x.sequence o
      (s.setTerminal (fun t => { t with lastSaleSequence := some x.sequence, lastSaleOutcome := o }))

/-- The entry that a SETTLE settled (R130). -/
def settledEntry (x : SettleContext) (e : CardEntry) : Bool :=
  decide (e.slot = x.slot) && decide (e.card = x.card) && decide (e.activity = .settling) &&
    (match e.guest with
     | some g => decide (g.saleSequence = x.saleSequence)
     | none => false)

/-- The SETTLE call has ended (R130). -/
def settleEnd (good : Bool) (s : State) : State :=
  match s.terminal.settleContext with
  | none => s
  | some x =>
    let s := s.setTerminal (fun t => { t with settleContext := none })
    if good = true ∧ s.cards.any (settledEntry x) = true then s.dropCard x.card else s

end Sys2Proof.Machine
end

