-- ==== Sys2Proof/Machine/HireOps.lean ====
section
/-! DEFINITION. The Hire Unit (chapter 4) and the requests it makes of the Trip Table (R85): the tap
decision, the grant pass, grants, the ends of STAMP and RELEASE, pulls, cancels, late pulls, and what a
change of supply does. -/

namespace Sys2Proof.Machine

open Sys2Proof

/-! ### Requests to the Trip Table (R85) -/

/-- A record of this bike number and start time in a given state. -/
def State.tripIn (s : State) (b : Bike) (start : Time) (p : TripState → Bool) : Bool :=
  match s.findTrip b with
  | some r => decide (r.stamp.start = start) && p r.state
  | none => false

def isReleasing (x : TripState) : Bool := decide (x = .releasing)
def isCancelling (x : TripState) : Bool := decide (x = .cancelling)

/-- Make a RELEASING or CANCELLING record OUT; LATE_PULL is added where the request carries it. -/
def tripOut (b : Bike) (late : Bool) (s : State) : State :=
  s.moveTrip b (fun r => { r with state := .out, latePull := r.latePull || late })

/-! ### Tokens and the budget (R67) -/

def Token.isFree (t : Token) : Bool := decide (t = .free)

def State.tokensInUse (s : State) : Nat :=
  (s.hire.tokens.toList.filter (fun t => !t.isFree)).length

def State.budget (s : State) : Nat :=
  match s.supply.state with
  | .normal => s.settings.normalBudget
  | .low => 1
  | .critical => 0

/-- The lowest token with a property (log 19). -/
def State.tokenWith (s : State) (p : Token → Bool) : Option (Fin 3) :=
  (List.finRange 3).find? (fun i => p (s.hire.tokens.get i))

/-! ### Refusal checks (R64, R68, R69) -/

/-- Check 2 of R64: the guest's hold left is below the unlock fee. -/
def State.holdTooLow (s : State) (e : CardEntry) : Bool :=
  match e.guest with
  | some g => decide (g.hold - g.captured < s.unlockFee e.plan)
  | none => false

/-- The refusal code of the tap decision, 0 when every check passes (R64). -/
def tapCode (e : CardEntry) (d : Dock) (s : State) : Nat :=
  if e.blocked = true ∨ s.passed e = true then 1
  else if s.holdTooLow e then 1
  else if e.activity ≠ .idle ∨ e.queuedDock.isSome = true then 2
  else if s.clock.isSet = false ∨ s.fare.current.valid = false ∨ s.settings.stationNumber = 0 then 6
  else if s.supply.state ≠ .normal then 5
  else if s.hireable d = false then 3
  else if 8 ≤ s.hire.queue.length ∨ s.hire.queue.any (fun q => decide (q.dock = d)) = true then 4
  else 0

/-- The grant-time re-check of a member request: 0 when it passes (R68). -/
def memberCode (q : HireRequest) (s : State) : Nat :=
  match s.findCard q.card with
  | none => 1
  | some e =>
    if e.blocked = true ∨ s.passed e = true ∨ s.holdTooLow e = true then 1
    else if s.hireable q.dock = false then 3
    else
      match (s.dock q.dock).bike with
      | none => 3
      | some b => if s.trips.length < 64 ∧ (s.findTrip b).isNone then 0 else 4

/-- The grant-time re-check of a crew request: 0 when it passes (R69). R69 gives refusal 7 where one of its
first two conditions fails and refusal 3 where one of its last two fails, and no order between them:
where both do, 7 is shown (the model's choice, log 38; with the manifest SUSPENDED R170 gives the 7). -/
def crewCode (q : HireRequest) (move : Nat) (s : State) : Nat :=
  let r := s.dock q.dock
  if s.manifestActive = false ∨ r.reservation ≠ .pickup move then 7
  else if r.occupancy = .occupied ∧ r.bike.isSome = true ∧ r.stampSeen = .none ∧ r.unpriced = false ∧
      s.contact q.dock = .reachable then 0
  else 3

/-! ### Grant (R70) -/

/-- The TRIP stamp of a member request (R70, step 2). R70 gives its ceiling for a GUEST and for a MEMBER. An
entry that LOAD_CARD has made CREW while its member request waited (R50 keeps queued_dock) has no hold
either and is stamped 65535, as a MEMBER is (the model's choice, log 37). -/
def memberStamp (e : CardEntry) (s : State) : StampFields :=
  { origin := s.settings.stationNumber, start := s.clock.time, card := e.card, plan := e.plan,
    generation := s.fare.current.generation,
    ceiling := match e.guest with
      | some g => g.hold - g.captured
      | none => 65535 }

/-- Steps 1 and 5 to 7 of R70, around the steps of the kind: a token is lent, the dock becomes
RELEASING, the context is opened, the STAMP queued and an old cancel context removed. -/
def startRelease (d : Dock) (ctx : ReleaseContext) (image : List Byte) (kindSteps : State → State)
    (s : State) : State :=
  let s := match s.tokenWith Token.isFree with
    | some i => s.setToken i (.lent d .stampPending)
    | none => s
  let s := setOccupancy d .releasing (kindSteps s)
  let s := placeDock d .stamp image (.hireUnit ctx.bike) (s.setRelease d (some ctx))
  s.setCancel d none

/-- Grant a member request at a dock holding bicycle `b` (R70). -/
def grantMember (d : Dock) (b : Bike) (e : CardEntry) (s : State) : State :=
  let st := memberStamp e s
  startRelease d
    { kind := .member, card := e.card, bike := b, start := st.start, phase := .stamping,
      seenPresent := false }
    (tripStampImage st)
    (fun s => cardLink e.card d b st.start
      (s.addTrip { bike := b, stamp := st, state := .releasing, releaseDock := some d, foreign := false,
                   latePull := false, orphan := false, unstamped := false, unstampDock := none }))
    s

def State.manifestNumber (s : State) : Nat :=
  match s.manifest.active with
  | some a => a.header.number
  | none => 0

/-- Grant a crew request (R70). -/
def grantCrew (d : Dock) (b : Bike) (card : CardNo) (move : Nat) (s : State) : State :=
  let n := s.manifestNumber
  startRelease d
    { kind := .crew move n, card := card, bike := b, start := s.clock.time, phase := .stamping,
      seenPresent := false }
    (vanStampImage s.settings.stationNumber s.clock.time card n)
    (fun s => crewReport n move .granted d b s)
    s

/-- Drop a request without grant, with its refusal shown (R66, R67, R80). The manifest that a crew
request belongs to is the active one; the move keeps its state (R164). -/
def dropRequest (q : HireRequest) (code : Nat) (s : State) : State :=
  match q.kind with
  | .member => showRefusal code q.dock (cardWithdrawn q.card s)
  | .crew move => showRefusal code q.dock (crewReport s.manifestNumber move .dropped q.dock 0 s)

/-- Re-check a request taken from the head, and grant or drop it (R67). -/
def grantHead (q : HireRequest) (s : State) : State :=
  match q.kind with
  | .member =>
    let code := memberCode q s
    if code = 0 then
      match s.findCard q.card, (s.dock q.dock).bike with
      | some e, some b => grantMember q.dock b e s
      | _, _ => s
    else dropRequest q code s
  | .crew move =>
    let code := crewCode q move s
    if code = 0 then
      match (s.dock q.dock).bike with
      | some b => grantCrew q.dock b q.card move s
      | none => s
    else dropRequest q code s

/-- The grant pass, over at most `n` heads (R67). -/
def grantLoop : Nat → State → State
  | 0, s => s
  | n + 1, s =>
    match s.hire.queue with
    | [] => s
    | q :: _ => if s.tokensInUse < s.budget then grantLoop n (grantHead q s.popHire) else s

/-- A grant pass: a grant adds no request, so the queue's length bounds its steps (R67). -/
def grantPass (s : State) : State := grantLoop s.hire.queue.length s

/-! ### Tap decisions -/

/-- The tap decision (R64), with the refusal code, 0 when the request joined the queue. That it stays 0
where the grant pass of the same event drops the request with a refusal is stated for REMOTE_HIRE
(R65) and the model's choice for ADMIT_CARD (R58, log 33). -/
def decideTap (e : CardEntry) (d : Dock) (s : State) : State × Nat :=
  let code := tapCode e d s
  if code = 0 then
    (grantPass (cardWaiting e.card d (s.joinHire { dock := d, kind := .member, card := e.card })), 0)
  else (showRefusal code d s, code)

/-- A crew request reaches the Hire Unit (R66), with the refusal code, 0 when it joined the queue, whatever
the grant pass of the same event does with it (the model's choice for ADMIT_CARD, log 33). -/
def crewRequest (d : Dock) (card : CardNo) (move : Nat) (s : State) : State × Nat :=
  if s.supply.state = .critical then (showRefusal 5 d s, 5)
  else if 8 ≤ s.hire.queue.length ∨ s.hire.queue.any (fun q => decide (q.dock = d)) = true then
    (showRefusal 4 d s, 4)
  else (grantPass (s.joinHire { dock := d, kind := .crew move, card := card }), 0)

/-- The PICKUP move that a reservation names, with its state. -/
def pickupAt (moves : List Move) : Reservation → Option (Nat × MoveState)
  | .pickup i => (moves[i]?).map (fun m => (i, m.state))
  | .none | .drop _ => none

/-- The crew decision of the Manifest Unit (R163), with the refusal code, 0 when none is shown. -/
def crewTap (card : CardNo) (d : Dock) (s : State) : State × Nat :=
  match s.manifest.active with
  | none => (showRefusal 7 d s, 7)
  | some a =>
    if a.phase ≠ .active ∨ (a.header.crewCard ≠ 0 ∧ a.header.crewCard ≠ card) then
      (showRefusal 7 d s, 7)
    else
      match pickupAt a.moves (s.dock d).reservation with
      | some (_, .releasing) => (s, 0)
      | some (i, .reserved) => crewRequest d card i s
      | _ =>
        if s.dockBikeFaulty d then (serviceClear d s, 0) else (showRefusal 7 d s, 7)

/-- Step 3 of R54: a hit goes on by the entry's class, with the refusal code that was shown. -/
def hitTap (e : CardEntry) (d : Dock) (s : State) : State × Nat :=
  match e.cls with
  | .member | .guest => decideTap e d s
  | .crew =>
    if e.blocked = true ∨ s.passed e = true then (showRefusal 1 d s, 1) else crewTap e.card d s

/-- A tap reaches the Card Table (R54). -/
def takeTap (c : CardNo) (d : Dock) (s : State) : State :=
  match s.findCard c with
  | some e => (hitTap e d (retireRefer c s)).1
  | none => missTap c d s

/-! ### The ends of STAMP and RELEASE (R72, R73) -/

def isStampPending (d : Dock) (t : Token) : Bool := decide (t = .lent d .stampPending)
def isReleasePending (d : Dock) (t : Token) : Bool := decide (t = .lent d .releasePending)

/-- A token becomes FREE, and a grant pass runs (R73). -/
def freeToken (i : Fin 3) (s : State) : State := grantPass (s.setToken i .free)

/-- The stage of the dock's token in STAMP_PENDING moves on (R73). -/
def stampedToken (d : Dock) (goesOn : Bool) (s : State) : State :=
  match s.tokenWith (isStampPending d) with
  | some i => if goesOn then s.setToken i (.lent d .releasePending) else freeToken i s
  | none => s

/-- The STAMP failed: the release is undone (R72). -/
def undoRelease (d : Dock) (x : ReleaseContext) (s : State) : State :=
  let s := s.setRelease d none
  let s := match x.kind with
    | .member =>
      if s.tripIn x.bike x.start isReleasing then
        (cardFree x.card x.bike x.start none (s.dropTrip x.bike)).1
      else s
    | .crew move n => crewReport n move .returned d x.bike s
  showRefusal 3 d (setOccupancy d .occupied s)

/-- The context that a STAMP or RELEASE for bicycle `b` belongs to, if it is still there. -/
def State.releaseOf (s : State) (d : Dock) (b : Bike) (p : ReleasePhase → Bool) :
    Option ReleaseContext :=
  match s.release d with
  | some x => if x.bike = b ∧ p x.phase = true then some x else none
  | none => none

def stampKindOf (k : ReleaseKind) : StampKind :=
  match k with
  | .member => .trip
  | .crew _ _ => .van

/-- The STAMP call of a release has ended (R72). Where it failed, the release is undone, its trip record
retired, before the token becomes FREE and its grant pass runs (R73): the rules give no order, and the
pass then finds a record free (R68, check 3; the model's choice, log 35). -/
def stampEnd (d : Dock) (b : Bike) (good : Bool) (s : State) : State :=
  match s.releaseOf d b (fun p => decide (p = .stamping)) with
  | none => stampedToken d false s
  | some x =>
    if good then
      let s := reportStamped d b (stampKindOf x.kind) s
      let s := s.setRelease d (some { x with phase := .opening })
      placeDock d .release [byte s.settings.coilPeriod] (.hireUnit b) (stampedToken d true s)
    else stampedToken d false (undoRelease d x s)

/-- The RELEASE call has ended, GOOD or failed: the coil count starts with the code sent, and an
OPENING release waits for its pull (R72, R73). -/
def releaseEnd (d : Dock) (b : Bike) (code : Nat) (s : State) : State :=
  let s := match s.tokenWith (isReleasePending d) with
    | some i => s.setToken i (.lent d (.coil (code * 100)))
    | none => s
  match s.releaseOf d b (fun p => decide (p = .opening)) with
  | some x =>
    s.setRelease d (some
      { x with phase := .waiting (s.settings.pullWindow * 1000), seenPresent := false })
  | none => s

/-! ### Cancel (R77, R78) -/

/-- A release is cancelled (R77). -/
def cancelRelease (d : Dock) (x : ReleaseContext) (s : State) : State :=
  let s := placeDock d .relock [] (.hireUnit x.bike) s
  let s := placeDock d .unstamp [] (.hireUnit x.bike) s
  let s := match x.kind with
    | .member =>
      if s.tripIn x.bike x.start isReleasing then
        (cardFree x.card x.bike x.start none
          (s.moveTrip x.bike (fun r => { r with state := .cancelling }))).1
      else s
    | .crew move n => crewReport n move .returned d x.bike s
  let s := showRefusal 3 d (setOccupancy d .occupied s)
  (s.setRelease d none).setCancel d (some
    { kind := x.kind, bike := x.bike, card := x.card, start := x.start, relockDone := false,
      unstampDone := false })

/-- A flag of the cancel context that names the bicycle is set; the context goes when both are
(R78). -/
def cancelFlag (d : Dock) (b : Bike) (f : CancelContext → CancelContext) (s : State) : State :=
  match s.cancel d with
  | some x =>
    if x.bike = b then
      let y := f x
      s.setCancel d (if y.relockDone && y.unstampDone then none else some y)
    else s
  | none => s

def relockEnd (d : Dock) (b : Bike) (good : Bool) (s : State) : State :=
  if good then cancelFlag d b (fun x => { x with relockDone := true }) s else s

/-- The Trip Table retires the CANCELLING record of a cancel context whose stamp is cleared (R78). -/
def retireCancelled (d : Dock) (b : Bike) (s : State) : State :=
  match s.cancel d with
  | some x =>
    if x.bike = b ∧ x.kind = .member ∧ s.tripIn b x.start isCancelling = true then s.dropTrip b else s
  | none => s

/-- An UNSTAMP that the Hire Unit queued has ended (R78). -/
def hireUnstampEnd (d : Dock) (b : Bike) (good : Bool) (s : State) : State :=
  if good then
    cancelFlag d b (fun x => { x with unstampDone := true })
      (retireCancelled d b (reportUnstamped d b s))
  else s

/-- The per-second look at one cancel context (R78): the RELOCK before the UNSTAMP, where both are queued
again, as R77 places them first (the model's choice at the tick, log 35). -/
def cancelTick (d : Dock) (s : State) : State :=
  match s.cancel d with
  | none => s
  | some x =>
    if s.contact d = .lost then s
    else
      let s := if x.relockDone = false ∧ s.queuedFor d .relock = false then
          placeDock d .relock [] (.hireUnit x.bike) s else s
      if x.unstampDone = false ∧ s.queuedFor d .unstamp = false then
        placeDock d .unstamp [] (.hireUnit x.bike) s else s

/-! ### Surveys of a RELEASING dock, pulls and late pulls (R74, R75, R79) -/

/-- A survey finds the bicycle still present (R74). -/
def stillPresent (d : Dock) (s : State) : State :=
  match s.release d with
  | none => s
  | some x =>
    match x.phase with
    | .stamping | .opening => s
    | .waiting _ => s.setRelease d (some { x with seenPresent := true })
    | .overdue => cancelRelease d x s

/-- The release is pulled (R75). -/
def pullRelease (d : Dock) (x : ReleaseContext) (s : State) : State :=
  let late := decide (x.phase = .overdue)
  let s := match x.kind with
    | .member =>
      if s.tripIn x.bike x.start isReleasing then cardPulled x.card (tripOut x.bike late s) else s
    | .crew move n => crewReport n move (.taken late) d x.bike s
  s.setRelease d none

/-- The release is abandoned: the bicycle left during STAMPING (R75). -/
def abandonRelease (d : Dock) (x : ReleaseContext) (s : State) : State :=
  let s := match x.kind with
    | .member =>
      if s.tripIn x.bike x.start isReleasing then
        (cardFree x.card x.bike x.start none (s.dropTrip x.bike)).1
      else s
    | .crew move n => crewReport n move .returned d x.bike s
  (forcedRemoval d s).setRelease d none

/-- A departure from a RELEASING dock (R75). -/
def releaseDeparture (d : Dock) (s : State) : State :=
  match s.release d with
  | none => s
  | some x =>
    match x.phase with
    | .stamping => abandonRelease d x s
    | .opening | .waiting _ | .overdue => pullRelease d x s

/-- The Hire Unit holds a cancel context at a dock that names the bicycle (R87, R95). -/
def State.cancelNames (s : State) (d : Dock) (b : Bike) : Bool :=
  match s.cancel d with
  | some x => decide (x.bike = b)
  | none => false

/-- The cancel context of a crew release at a dock that names the bicycle, as its move and manifest. -/
def State.crewCancelAt (s : State) (b : Bike) (d : Dock) : Option (Dock × Nat × Nat) :=
  match s.cancel d with
  | some x =>
    match x.kind with
    | .crew move n => if x.bike = b then some (d, move, n) else none
    | .member => none
  | none => none

/-- The crew's cancel context that a departure of the bicycle from `d` finds: that of `d`, and else the
one of the lowest dock (R79, log 34). -/
def State.crewCancel (s : State) (d : Dock) (b : Bike) : Option (Dock × Nat × Nat) :=
  (d :: allDocks).findSome? (s.crewCancelAt b)

/-- The bicycle has left: every cancel context that names it is removed (R78, R79, R88). -/
def dropCancelOf (b : Bike) (s : State) : State :=
  allDocks.foldl (fun s d => if s.cancelNames d b then s.setCancel d none else s) s

/-- A member's CANCELLING record becomes OUT with LATE_PULL, and the card is relinked or the record
made ORPHAN (R79, R88). -/
def latePullTrip (r : TripRecord) (s : State) : State :=
  let x := cardRelink r.stamp.card r.bike r.stamp.start (tripOut r.bike true s)
  let s := if x.2 then x.1 else x.1.setTrip r.bike (fun r => { r with orphan := true })
  dropCancelOf r.bike s

/-- No CANCELLING record names the bicycle: a crew's cancel context makes a late pull; a member's
whose record is gone is removed and does not count (R79). -/
def crewDeparture (d : Dock) (b : Bike) (s : State) : State :=
  match s.crewCancel d b with
  | some (c, move, n) => dropCancelOf b (crewReport n move .takenAfterCancel c b s)
  | none => forcedRemoval d (dropCancelOf b s)

/-- A departure from an OCCUPIED dock: a late pull of a cancelled release, or else a forced removal
(R29, R79). Where the dock's bike_number is absent R79 names the FORCED_REMOVAL alone, and R78 removes a
context when its bicycle leaves: a cancel context of the dock stays there (the model's choice, log 39). -/
def occupiedDeparture (d : Dock) (s : State) : State :=
  match (s.dock d).bike with
  | none => forcedRemoval d s
  | some b =>
    match s.findTrip b with
    | some r => if r.state = .cancelling then latePullTrip r s else crewDeparture d b s
    | none => crewDeparture d b s

/-! ### Supply changes (R80) -/

/-- Drop every queued request of a kind that a fall of the supply drops, with refusal 5. The oldest is
dropped first: R80 states no order, and so none to the SHOW requests (the model's choice, log 35). -/
def dropQueued (p : HireRequest → Bool) (s : State) : State :=
  (s.hire.queue.filter p).foldl (fun s q => dropRequest q 5 s) (s.filterHire (fun q => !p q))

def supplyChanged (s : State) : State :=
  let s := match s.supply.state with
    | .critical => dropQueued (fun _ => true) s
    | .low => dropQueued (fun q => decide (q.kind = .member)) s
    | .normal => s
  grantPass s

end Sys2Proof.Machine
end

