-- ==== Sys2Proof/Machine/TripOps.lean ====
section
/-! DEFINITION. The Trip Table's work inside other events (chapter 5): arrivals with a TRIP stamp,
pricing, deferral and the retry pass, the clearing of stamps, and the watch after REINIT. -/

namespace Sys2Proof.Machine

open Sys2Proof

/-! ### Clearing the stamp (R95) -/

/-- The Trip Table queues an UNSTAMP to a dock for the record of a bicycle. -/
def queueUnstamp (d : Dock) (b : Bike) (s : State) : State :=
  placeDock d .unstamp [] (.tripTable b) (s.setTrip b (fun r => { r with unstampDock := some d }))

/-- The Trip Table's UNSTAMP has ended (R95). -/
def tripUnstampEnd (d : Dock) (b : Bike) (good : Bool) (s : State) : State :=
  let s := s.setTrip b (fun r => if r.unstampDock = some d then { r with unstampDock := none } else r)
  if good then
    let holds := decide ((s.dock d).bike = some b)
    let s := reportUnstamped d b s
    if holds then
      match s.findTrip b with
      | some r =>
        match r.state with
        | .priced _ => s.setTrip b (fun r => { r with unstamped := true })
        | .cancelling => s.dropTrip b
        | .releasing | .out => s
      | none => s
    else s
  else s

/-- The dock at which the record's stamp is to be cleared again (R95). -/
def unstampAt (r : TripRecord) : Option Dock :=
  match r.state with
  | .priced p => if r.unstamped then none else some p.returnDock
  | .cancelling => r.releaseDock
  | .releasing | .out => none

/-- The per-second look at one record (R95). -/
def tripTickOne (r : TripRecord) (s : State) : State :=
  match unstampAt r with
  | some d =>
    if r.unstampDock = none ∧ (s.dock d).bike = some r.bike ∧ s.contact d ≠ .lost ∧
        ¬(r.state = .cancelling ∧ s.cancelNames d r.bike = true) then
      queueUnstamp d r.bike s
    else s
  | none => s

/-- The per-second look at every record, by rising bike number: the spec gives no order, and so none to
the UNSTAMP requests that join the queue (R95; the model's choice, log 35). -/
def tripTick (s : State) : State := s.trips.foldl (fun s r => tripTickOne r s) s

/-! ### Deferral and pricing (R90 to R92) -/

/-- The arrival is deferred (R92). -/
def deferArrival (d : Dock) (b : Bike) (st : StampFields) (s : State) : State :=
  reportUnpriced d b true (s.setDeferral d (some { bike := b, stamp := st }))

/-- Steps 6 and 7 of R91: the dock's deferred arrival is priced, and an UNSTAMP is queued. -/
def finishPricing (d : Dock) (b : Bike) (s : State) : State :=
  queueUnstamp d b (reportUnpriced d b false (s.setDeferral d none))

/-- What the Fare Unit answers for an arrival at `d` now: none with the clock unset, or where no bank
can price it (R90, R91). -/
def State.fareNow (s : State) (d : Dock) (st : StampFields) : Option FareResult :=
  if s.clock.isSet then s.fare.price st s.clock.time (s.hireableOthers d) s.dropToDo else none

def pricingOf (d : Dock) (endTime : Time) (x : FareResult) : Pricing :=
  { returnDock := d, endTime := endTime, fare := x.fare, flags := x.flags }

/-- Price the OUT record of a bicycle in place (R91). -/
def priceInPlace (d : Dock) (b : Bike) (st : StampFields) (s : State) : State :=
  match s.fareNow d st, s.findTrip b with
  | some x, some r =>
    let s := s.moveTrip b (fun r => { r with state := .priced (pricingOf d s.clock.time x) })
    let s := if r.foreign = false ∧ r.orphan = false then
        (cardFree r.stamp.card b r.stamp.start (some x.fare) s).1 else s
    finishPricing d b s
  | _, _ => deferArrival d b st s

/-- An arrival with no record for its bicycle (R90). -/
def priceForeign (d : Dock) (b : Bike) (st : StampFields) (s : State) : State :=
  if s.trips.length < 64 then
    match s.fareNow d st with
    | some x =>
      finishPricing d b (s.addTrip
        { bike := b, stamp := st, state := .priced (pricingOf d s.clock.time x), releaseDock := none,
          foreign := true, latePull := false, orphan := false, unstamped := false,
          unstampDock := none })
    | none => deferArrival d b st s
  else deferArrival d b st s

/-! ### Arrivals (R86 to R89) -/

def stampMatches (r : TripRecord) (st : StampFields) : Bool :=
  decide (r.stamp.start = st.start) && decide (r.stamp.origin = st.origin)

/-- The deferred entries that an arrival removes (R86): those of its bicycle at other docks, which
are told as withdrawn, and the one of its own dock, which it replaces. The other docks are taken by
rising number, in which the rule states no order (the model's choice, log 35). -/
def clearDeferred (d : Dock) (b : Bike) (s : State) : State :=
  let s := allDocks.foldl (fun s x =>
    match s.deferred.get x with
    | some e => if x ≠ d ∧ e.bike = b then reportUnpriced x b false (s.setDeferral x none) else s
    | none => s) s
  s.setDeferral d none

/-- The release dock becomes EMPTY where it still shows the bicycle (R88). -/
def emptyReleaseDock (rd : Option Dock) (b : Bike) (s : State) : State :=
  match rd with
  | some x =>
    let r := s.dock x
    if (r.occupancy = .releasing ∨ r.occupancy = .occupied) ∧ r.bike = some b then emptyDock x s else s
  | none => s

/-- A matching RELEASING or CANCELLING record whose bicycle left its release dock unseen (R88). -/
def endByArrival (r : TripRecord) (s : State) : State :=
  let s :=
    if r.state = .cancelling then latePullTrip r s
    else
      match r.releaseDock with
      | some x =>
        match s.releaseOf x r.bike (fun _ => true) with
        | some ctx => pullRelease x ctx s
        | none => tripOut r.bike false s
      | none => tripOut r.bike false s
  emptyReleaseDock r.releaseDock r.bike s

/-- An OUT record of another trip of the bicycle is superseded (R89). -/
def supersede (r : TripRecord) (s : State) : State :=
  let s := if r.orphan then s else (cardFree r.stamp.card r.bike r.stamp.start none s).1
  s.dropTrip r.bike

/-- The rows of R87. -/
def arrivalCases (d : Dock) (b : Bike) (st : StampFields) (s : State) : State :=
  match s.findTrip b with
  | none => priceForeign d b st s
  | some r =>
    if stampMatches r st then
      match r.state with
      | .priced _ =>
        if r.unstamped = false ∧ r.unstampDock = none then queueUnstamp d b s else s
      | .cancelling =>
        if r.releaseDock = some d then
          if s.cancelNames d b = false ∧ r.unstampDock = none then queueUnstamp d b s else s
        else priceInPlace d b st (endByArrival r s)
      | .releasing => priceInPlace d b st (endByArrival r s)
      | .out => priceInPlace d b st s
    else
      match r.state with
      | .out => priceForeign d b st (supersede r s)
      | .releasing | .cancelling | .priced _ => deferArrival d b st s

/-- An arrival is handled (R86, R87). -/
def handleArrival (d : Dock) (b : Bike) (st : StampFields) (s : State) : State :=
  arrivalCases d b st (clearDeferred d b s)

/-- The Dock Monitor hands over an arrival with a TRIP stamp (R30): the Fault Table opens its rider
report context first (R142). -/
def tripArrival (d : Dock) (b : Bike) (st : StampFields) (s : State) : State :=
  handleArrival d b st (openReport d b st.card s)

/-! ### The retry pass (R93) -/

/-- One deferred arrival is handled again; where it is not deferred again, its dock is no longer
unpriced (R34, log 30). -/
def retryDock (d : Dock) (s : State) : State :=
  match s.deferred.get d with
  | none => s
  | some e =>
    let s := handleArrival d e.bike e.stamp (s.setDeferral d none)
    if (s.deferred.get d).isNone = true ∧ (s.dock d).unpriced = true then
      reportUnpriced d e.bike false s
    else s

def retryPass (s : State) : State := allDocks.foldl (fun s d => retryDock d s) s

/-! ### The watch after REINIT (R44, R101) -/

/-- The Dock Monitor reports a dock without a bicycle (`found` none) or with this one. -/
def watchReport (d : Dock) (found : Option Bike) (s : State) : State :=
  if (s.dock d).watch then
    (s.trips.filter (fun r => decide (r.state = .cancelling) && decide (r.releaseDock = some d) &&
        decide (some r.bike ≠ found))).foldl
      (fun s r => s.moveTrip r.bike (fun r =>
        { r with state := .out, latePull := true, orphan := true })) s
  else s

end Sys2Proof.Machine
end

