-- ==== Sys2Proof/Machine/SurveyOps.lean ====
section
/-! DEFINITION. The Dock Monitor's reading of answers (R28 to R33, R198), and the outcome of each verb
handed to the block that asked for it (R17, step 6). -/

namespace Sys2Proof.Machine

open Sys2Proof

/-! ### The first step of a survey answer (R28, R29, R32) -/

def queueTagread (d : Dock) (s : State) : State := placeDock d .tagread [] .dockMonitor s

/-- An arrival (R28): the record starts afresh, a TAGREAD is queued and the Manifest Unit told. An entry
of the deferred list stays until the arrival that the tag read hands over replaces it (R86, R94). -/
def arrival (d : Dock) (s : State) : State :=
  let changed := decide ((s.dock d).occupancy ≠ .occupied)
  let s := s.setDock d (fun r => { r.forget with occupancy := .occupied })
  let s := tellArrival d (queueTagread d s)
  if changed then s.noteManifest else s

/-- A departure (R29): the Hire Unit takes it first, then the dock becomes EMPTY. -/
def departure (d : Dock) (s : State) : State :=
  let s := if (s.dock d).occupancy = .releasing then releaseDeparture d s else occupiedDeparture d s
  emptyDock d s

/-- UNKNOWN becomes EMPTY, and the Manifest Unit is told (R28). -/
def foundEmpty (d : Dock) (s : State) : State :=
  tellOccupancy d (s.setDock d (fun r => { r with occupancy := .empty }))

/-- The presence table of R28, or of R32 for a resynchronization. -/
def presence (d : Dock) (bike resync : Bool) (s : State) : State :=
  match (s.dock d).occupancy, bike with
  | .unknown, true => arrival d s
  | .unknown, false => foundEmpty d s
  | .empty, true => arrival d s
  | .empty, false => s
  | .occupied, true =>
    if resync then arrival d s
    else if (s.dock d).bike.isNone then queueTagread d s else s
  | .occupied, false => departure d s
  | .releasing, true => stillPresent d s
  | .releasing, false => departure d s

/-! ### The survey answer -/

/-- The sensed set (R33): what reads 1 after masking, with a held button added (R29) unless the mask
in force names BUTTON (R26, R141, log 12). -/
def sensedOf (condition mask : Byte) (held : Bool) : SensedSet :=
  { button := hasButton condition || (held && !hasButton mask),
    coilOpen := hasOpen condition, coilShort := hasShort condition, tagErr := hasTagErr condition }

/-- A GOOD SURVEY answer of a dock, in four steps: presence, tap, sensed set, lamp. -/
def surveyAnswer (d : Dock) (condition : Byte) (mark : Bool) (s : State) : State :=
  let resync := mark || (s.dock d).resyncDue
  let s := presence d (hasBike condition) resync s
  let s := s.setDock d (fun r => { r with lastCondition := some condition, resyncDue := false })
  let s := if hasBike condition then s else watchReport d none s
  let s := if hasTap condition then placeDock d .tapread [] .dockMonitor s else s
  let x := sensedOf condition (s.link (dockNode d)).mask (s.dock d).heldButton
  let s := sensedSet d x (s.setDock d (fun r => { r with heldButton := false }))
  selectLamp d s

/-! ### The other dock answers -/

/-- A condition character in an answer to a verb other than SURVEY: only its BUTTON is kept (R29). -/
def noteButton (d : Dock) (condition : Byte) (s : State) : State :=
  if hasButton condition then s.setDock d (fun r => { r with heldButton := true }) else s

/-- A TAPREAD has ended GOOD (R31). -/
def tapAnswer (d : Dock) (bs : List Byte) (s : State) : State :=
  let card : CardNo := BitVec.ofNat 40 (field bs 0 5)
  let sequence := byte (field bs 5 1)
  if card = 0 ∨ (s.dock d).lastTap = some sequence then s
  else takeTap card d (s.setDock d (fun r => { r with lastTap := some sequence }))

/-- A successful tag read is taken, in the order of R30; the report of R101 follows the fields. -/
def takeTag (d : Dock) (t : TagImage) (s : State) : State :=
  let s := s.setDock d (fun r =>
    { r with bike := some t.bike, stampSeen := t.stamp.kind, serviceMark := t.serviceMark })
  let s := watchReport d (some t.bike) s
  let s := s.setDock d (fun r => { r with watch := false })
  let s := if t.serviceMark then importMark d t.bike s else s
  let s := match t.stamp with
    | .none => s
    | .trip f => tripArrival d t.bike f s
    | .van n => vanDrop d t.bike n s
  selectLamp d (tellBikeNumber d s)

/-- A TAGREAD has ended GOOD (R30, R198). -/
def tagAnswer (d : Dock) (bs : List Byte) (s : State) : State :=
  if (s.dock d).occupancy = .occupied ∧ (s.dock d).bike = none then
    match readTag bs with
    | some t => takeTag d t s
    | none => tagFailed d s
  else s

/-- A SHOW to a dock has ended (R39). -/
def showEnd (d : Dock) (args : List Byte) (good : Bool) (s : State) : State :=
  if good then
    if args = [byte (s.dock d).lamp.code] then s.setDock d (fun r => { r with lampShown := true }) else s
  else s.setDock d (fun r => { r with lampShown := false })

/-- A broadcast SHOW is done: every dock whose lamp is the pattern shows it (R39). -/
def broadcastShown (args : List Byte) (s : State) : State :=
  s.mapDocks (fun r => if args = [byte r.lamp.code] then { r with lampShown := true } else r)

/-! ### Handing an outcome to the blocks that asked (R17, step 6) -/

def unstampOutcome (d : Dock) (good : Bool) (o : Originator) (s : State) : State :=
  match o with
  | .hireUnit b => hireUnstampEnd d b good s
  | .tripTable b => tripUnstampEnd d b good s
  | .manifestUnit b => vanUnstampEnd d b good s
  | .stringController | .dockMonitor | .cardTable | .faultTable _ => s

/-- The bicycle that an originator's request names. -/
def Originator.bike : Originator → Bike
  | .hireUnit b | .tripTable b | .faultTable b | .manifestUnit b => b
  | .stringController | .dockMonitor | .cardTable => 0

/-- The outcome of a call to a dock, for one originator: a GOOD answer, or none for a failure. -/
def dockOutcome (d : Dock) (e : QueueEntry) (answer : Option Answer) (mark : Bool) (o : Originator)
    (s : State) : State :=
  let good := answer.isSome
  match e.verb, answer with
  | .survey, some a => surveyAnswer d a.condition mark s
  | .survey, none => s
  | .tapread, some a => tapAnswer d a.data s
  | .tapread, none => s
  | .tagread, some a => tagAnswer d a.data s
  | .tagread, none => s
  | .stamp, _ => stampEnd d o.bike good s
  | .release, _ => releaseEnd d o.bike (field e.args 0 1) s
  | .relock, _ => relockEnd d o.bike good s
  | .unstamp, _ => unstampOutcome d good o s
  | .mark, _ => markEnd d o.bike (decide (field e.args 0 1 = 1)) good s
  | .lampShow, _ => showEnd d e.args good s
  | .saleread, _ => s
  | .salereply, _ => s
  | .settle, _ => s

/-- The outcome of a call to the pay terminal, for the Card Table. -/
def terminalOutcome (e : QueueEntry) (answer : Option Answer) (s : State) : State :=
  match e.verb, answer with
  | .survey, some a => terminalSurvey a.condition s
  | .saleread, some a => saleRead (readSale a.data) s
  | .settle, x => settleEnd x.isSome s
  | _, _ => s

/-- A node's outcome goes to each block that asked for the call, in the order in which their requests
joined the entry (R18; the model's choice, log 35); a dock's condition character in an answer to a
verb other than SURVEY goes on to the Dock Monitor first (R29). -/
def handOutcome (n : Node) (e : QueueEntry) (answer : Option Answer) (mark : Bool) (s : State) : State :=
  match nodeDock n with
  | none => terminalOutcome e answer s
  | some d =>
    let s := match answer with
      | some a => if e.verb = .survey then s else noteButton d a.condition s
      | none => s
    e.originators.foldl (fun s o => dockOutcome d e answer mark o s) s

/-- A refused request's originators are handed a failure (R20). -/
def deliverFailure (e : QueueEntry) (s : State) : State :=
  match e.target with
  | .node n => handOutcome n e none false s
  | .all => s

/-! ### The end of an event (log 7) -/

def Agenda.isEmpty (a : Agenda) : Bool :=
  a.failures.isEmpty && !a.trips && !a.manifest && !a.followOn

def State.anyDeferred (s : State) : Bool := s.deferred.toList.any Option.isSome

/-- One round of what an event leaves to its end: a refused request's failure, step 4 of R171, the
manifest's retry pass, the Trip Table's retry pass; the first of these that is due. -/
def settleStep (s : State) : State :=
  match s.agenda.failures with
  | e :: _ => deliverFailure e s.popFailure
  | [] =>
    if s.agenda.followOn then followOn s.clearFollowOn
    else if s.agenda.manifest then (manifestRetry s).clearManifest
    else if s.agenda.trips then
      let s := s.clearTrips
      if s.anyDeferred then retryPass s else s
    else s

/-- Rounds until nothing is due, at most `n` of them (log 28). -/
def settle : Nat → State → State
  | 0, s => s.clearAgenda
  | n + 1, s => if s.agenda.isEmpty then s else settle n (settleStep s)

/-- An event's own work followed by what it leaves to its end; a free string takes its next call
(R19, log 10). -/
def finishEvent (s : State) : State := takeNext (settle 4096 s)

end Sys2Proof.Machine
end

