-- ==== Sys2Proof/Machine/StringOps.lean ====
section
/-! DEFINITION. The String Controller at work (chapter 1): characters and windows of an attempt, the
end of an attempt and of a call, cross attempts, what is handed on, and survey rounds. -/

namespace Sys2Proof.Machine

open Sys2Proof

/-! ### The end of a call (R9, R11, R13, R14, R17) -/

/-- R11: the failure count and the contact state after a call. -/
def LinkRecord.afterCall (l : LinkRecord) (good : Bool) : LinkRecord :=
  if good then { l with failures := 0, contact := .reachable }
  else
    let n := min (l.failures + 1) 255
    { l with failures := n, contact := if n ≤ 2 then .doubtful else .lost }

/-- Step 5 of R17: the reports of a call, in its order. -/
def sendReports (c : Call) (s : State) : State :=
  let next := (s.link c.node).contact
  let s := if next = .lost ∧ c.contactAtTake ≠ .lost then
      conditionFault (nodeSubject c.node) .noContact true s
    else if next ≠ .lost ∧ c.contactAtTake = .lost then
      conditionFault (nodeSubject c.node) .noContact false s
    else s
  let s := c.splits.foldl (fun s x => conditionFault (.segment x.1) .lineSplit x.2 s) s
  match nodeDock c.node with
  | some d =>
    if next = c.contactAtTake then s
    else
      let s := if next = .lost then s.setDock d (fun r => { r with resyncDue := true }) else s
      tellContact (selectLamp d s)
  | none => s

/-- The condition character that is handed over: the held button is added and the mask applied
(R14, R15). -/
def LinkRecord.handOver (l : LinkRecord) (condition : Byte) : Byte :=
  (if l.heldButton then condition ||| buttonBit else condition) &&& ~~~l.mask

/-- Step 6 of R17: the outcome goes to the blocks that asked. -/
def handOn (c : Call) (result : Option Answer) (s : State) : State :=
  let mark := decide (c.contactAtTake = .unknown) || decide (c.contactAtTake = .lost)
  match result with
  | none => handOutcome c.node c.entry none mark s
  | some a =>
    if (nodeDock c.node).isNone then handOutcome c.node c.entry (some a) mark s
    else
      let a' := { a with condition := (s.link c.node).handOver a.condition }
      handOutcome c.node c.entry (some a') mark
        (s.setLink c.node (fun l => { l with heldButton := false }))

/-- Steps 5 and 6 of R17; then the string is free (R19). -/
def completeCall (c : Call) (result : Option Answer) (s : State) : State :=
  freeString (handOn c result (sendReports c s))

/-! ### Attempts (R8, R13) -/

/-- Send an attempt of the call on an end. -/
def sendAttempt (e : StringEnd) (c : Call) (s : State) : State :=
  sendOn e c.entry (s.setCall { c with on := e, phase := .answering [], remaining := c.window })

/-- The ordinary call has ended (R17, steps 2 to 4): a cross attempt may follow. -/
def ordinaryEnd (c : Call) (result : Option Answer) (s : State) : State :=
  let moved := result.isSome && c.flip && decide (c.on ≠ c.noted)
  let s := s.setLink c.node (fun l =>
    (if moved then { l with preferred := c.on } else l).afterCall result.isSome)
  let l := s.link c.node
  if c.entry.verb = .survey ∧ c.entry.cross = true ∧
      (l.contact = .reachable ∨ l.contact = .doubtful) then
    sendAttempt (otherEnd l.preferred) { c with crossOf := some result } s
  else completeCall c result s

/-- The cross attempt has ended (R13, R14). -/
def crossEnd (c : Call) (o : AttemptOutcome) (result : Option Answer) (s : State) : State :=
  let s := match o with
    | .good a =>
      s.setLink c.node (fun l =>
        { l with
          preferred := if c.on = homeEnd c.node then homeEnd c.node else l.preferred,
          heldButton := l.heldButton || ((nodeDock c.node).isSome && hasButton a.condition) })
    | .silent | .garbled | .mismatch => s
  completeCall c result s

/-- An attempt has ended with an outcome: reach is updated (R10), and the call goes on to its next
attempt or to its end (R8). -/
def attemptEnd (o : AttemptOutcome) (c : Call) (s : State) : State :=
  let (c, s) := updateReach o c s
  match c.crossOf with
  | some result => crossEnd c o result s
  | none =>
    match o with
    | .good a => ordinaryEnd c (some a) s
    | .silent | .garbled | .mismatch =>
      let c := { c with ended := c.ended + 1 }
      if c.ended < 1 + c.retries then
        sendAttempt (if c.retryOther then otherEnd c.noted else c.noted) c s
      else ordinaryEnd c none s

/-! ### Characters and windows (R3, R4) -/

def QuietFinding.outcome : QuietFinding → AttemptOutcome
  | .garbled => .garbled
  | .mismatch => .mismatch

/-- After a GARBLED or MISMATCH finding: wait for quiet (R4). -/
def waitQuiet (finding : QuietFinding) (c : Call) (s : State) : State :=
  s.setCall { c with phase := .quiet finding, remaining := c.window }

/-- A complete answer is judged by its check (R4). -/
def judgeAnswer (got : List Byte) (c : Call) (s : State) : State :=
  if sum8 got = 0 then
    attemptEnd (.good { condition := byte (field got 1 1), data := (got.drop 2).take c.entry.verb.answerData })
      c s
  else waitQuiet .garbled c s

/-- A character on the end in use (R1, R3, R4). -/
def receiveChar (data : Byte) (mark : Bool) (c : Call) (s : State) : State :=
  match c.phase with
  | .quiet _ => s.setCall { c with remaining := c.window }
  | .answering got =>
    if mark then waitQuiet .garbled c s
    else if got = [] ∧ data ≠ c.entry.target.address then waitQuiet .mismatch c s
    else
      let got := got ++ [data]
      if got.length = c.entry.verb.answerData + 3 then judgeAnswer got c s
      else s.setCall { c with phase := .answering got, remaining := c.window }

/-- A string character arrives (R1, R6): outside an attempt, during a broadcast's wait, or on the
other end it is discarded. -/
def stringChar (on : StringEnd) (data : Byte) (mark : Bool) (s : State) : State :=
  match s.string.flight with
  | some (.call c) => if c.on = on then receiveChar data mark c s else s
  | some (.broadcast _ _) | none => s

/-- A broadcast is done, and the block that asked is told (R6). -/
def broadcastDone (e : QueueEntry) (s : State) : State :=
  freeString (match e.verb with
    | .lampShow => broadcastShown e.args s
    | .survey | .tapread | .tagread | .stamp | .unstamp | .mark | .release | .relock | .saleread
    | .salereply | .settle => s)

/-- The running window runs out (R3, R4, R6). -/
def windowEnd (s : State) : State :=
  match s.string.flight with
  | none => s
  | some (.broadcast e _) => broadcastDone e s
  | some (.call c) =>
    match c.phase with
    | .quiet finding => attemptEnd finding.outcome c s
    | .answering [] => attemptEnd .silent c s
    | .answering (_ :: _) => attemptEnd .garbled c s

/-! ### Rounds (R21) -/

/-- Who asks for a SURVEY: the Card Table for node 0, the Dock Monitor for a dock (R17, R21). -/
def surveyRequest (n : Node) (cross : Bool) : QueueEntry :=
  { target := .node n, verb := .survey, args := [], cross := cross,
    originators := [if n = terminalNode then .cardTable else .dockMonitor] }

/-- A round places its requests in ascending node order; a LOST node only in a cross round. -/
def placeRound (cross : Bool) (s : State) : State :=
  (List.finRange 31).foldl (fun s n =>
    if (s.link n).contact = .lost ∧ cross = false then s else place (surveyRequest n cross) s) s

/-- The round timer expires (R21). -/
def roundExpiry (s : State) : State :=
  let period := s.settings.roundPeriod * 100
  if s.string.queue.any (fun e => decide (e.verb = .survey)) then s.setRound s.string.round period
  else
    let n := s.string.round + 1
    placeRound (decide (n % 8 = 0)) (s.setRound n period)

end Sys2Proof.Machine
end

