-- ==== Sys2Proof/Machine/Frames.lean ====
section
/-! DEFINITION. What holds for every host frame (R183 to R187): the bytes sent back, read commands,
change commands, and results. -/

namespace Sys2Proof.Machine

open Sys2Proof

abbrev StepOutcome := Host.Outcome State Fault Refusal

/-! ### Results -/

def Result.plain (c : ResultCode) : Result := { code := c, data := [] }

def Result.ok (data : List Byte) : Result := { code := .ok, data := data }

def ResultCode.value : ResultCode → Nat
  | .ok => 0
  | .clamped => 1
  | .notFound => 2
  | .exists => 3
  | .full => 4
  | .state => 5
  | .badArg => 6
  | .length => 7
  | .unknown => 8
  | .busy => 9

/-- A result block that takes a result, not yet fetched. -/
def ResultBlock.holding (r : Result) : ResultBlock := { content := some r, fetched := false }

/-! ### Frames -/

/-- The status byte at the newest `n` periods of a trail, the newest first; fewer where it is shorter. -/
def recentStatus : Nat → List (Byte × Nat) → List Byte
  | _, [] => []
  | n, (b, k) :: rest => List.replicate (min n k) b ++ recentStatus (n - k) rest

/-- The status bytes that a frame of `n` bytes shows, each as it stands when that byte begins (R183): the
bytes before the last begin in the clock periods before now, one in each, back to the end of the last
frame, and the bytes left over begin now (log 4). -/
def State.frameStatus (n : Nat) (s : State) : List Byte :=
  let before := (recentStatus (n - 1) s.port.trail).reverse
  before ++ List.replicate (n - before.length) s.statusByte

/-- A frame of `n` bytes in which the part sends nothing but status bytes (R183). -/
def sendStatus (n : Nat) (s : State) : State :=
  s.setPort (fun p => { p with sent := s.frameStatus n, trail := [] })

/-- A period of the reference clock in which the status byte stands at `b` joins the trail. -/
def noteStatus (b : Byte) : List (Byte × Nat) → List (Byte × Nat)
  | (x, n) :: rest => if x = b then (x, n + 1) :: rest else (b, 1) :: (x, n) :: rest
  | [] => [(b, 1)]

/-- A frame of whole bytes and `extra` bits more reaches the port: what it is taken on as (R183, R184)
joins the waiting commands; a frame with no bits at all is disregarded. -/
def State.receiveFrame (bytes : List Byte) (extra : Nat) (s : State) : State :=
  match frameCommand bytes extra with
  | some c => { s with pending := s.pending ++ [c] }
  | none => s

/-- An executed command clears DISCARDED and FRAME (R188). -/
def Port.executed (p : Port) : Port := { p with discarded := false, frame := false }

/-- A read command (R184, R186): with the wrong number of argument bytes the read result block takes
LENGTH; otherwise it takes the result of the owner, and only the owner's defined effect is made. -/
def readCommand (n : Nat) (args : List Byte) (run : List Byte → State → Result × State) (s : State) :
    StepOutcome :=
  let s := sendStatus (args.length + 1) s
  if args.length ≠ n then
    .next (s.setPort (fun p => { p with read := .holding (.plain .length) }))
  else
    let x := run args (s.setPort Port.executed)
    .next (x.2.setPort (fun p => { p with read := .holding x.1 }))

/-- A read command that changes no record. -/
def pureRead (n : Nat) (args : List Byte) (answer : List Byte → State → Result) (s : State) :
    StepOutcome :=
  readCommand n args (fun a s => (answer a s, s)) s

/-- A change command (R184, R185): discarded while another is BUSY; LENGTH at once for a wrong number
of argument bytes; otherwise taken, carried out by its owner as one event, with the result waiting for
CHANGE_COMMAND_FINISHED (log 5). -/
def changeCommand (n : Nat) (args : List Byte) (run : List Byte → State → Result × State) (s : State) :
    StepOutcome :=
  let s := sendStatus (args.length + 1) s
  if s.busy then .next (s.setPort (fun p => { p with discarded := true }))
  else if args.length ≠ n then
    .next (s.setPort (fun p => { p with command := .holding (.plain .length) }))
  else
    let s := s.setPort (fun p =>
      { p.executed with command := { content := none, fetched := false },
                        running := some (.plain .busy) })
    let x := run args s
    .next (finishEvent (x.2.setPort (fun p => { p with running := some x.1 })))

/-- A change command whose argument bytes are judged in `run` and refused leave the records alone. -/
def refuse (c : ResultCode) (s : State) : Result × State := (.plain c, s)

/-! ### The numbered docks and tokens of events -/

/-- An event at dock 1..30 (log 24). -/
def dockEvent (n : Nat) (run : Dock → State → State) (s : State) : StepOutcome :=
  match dockOfNumber n with
  | some d => .next (finishEvent (run d s))
  | none => .refused .illFormed

/-- An event of the part's own or of the string. -/
def event (run : State → State) (s : State) : StepOutcome := .next (finishEvent (run s))

end Sys2Proof.Machine
end

