-- ==== Sys2Proof/Machine/Images.lean ====
section
/-! DEFINITION. The result images (section 12.5). -/

namespace Sys2Proof.Machine

open Sys2Proof

/-! ### Optional fields: 0 where absent (R196) -/

def optDock (d : Option Dock) : Byte :=
  match d with
  | some d => byte (dockNumber d)
  | none => 0

def optBike (b : Option Bike) : List Byte := beBytes 2 ((b.getD 0).toNat)

def optByte (b : Option Byte) : Byte := b.getD 0

def bits (bs : List Bool) : Byte := byte (bitsValue bs)

/-! ### READ_DOCK: 18 bytes -/

def Occupancy.code : Occupancy → Nat
  | .unknown => 0
  | .empty => 1
  | .occupied => 2
  | .releasing => 3

def StampKind.code : StampKind → Nat
  | .none => 0
  | .trip => 1
  | .van => 2

def Reservation.code : Reservation → Nat
  | .none => 0
  | .pickup _ => 1
  | .drop _ => 2

def Reservation.move : Reservation → Nat
  | .none => 0
  | .pickup i => i
  | .drop i => i

def Contact.code : Contact → Nat
  | .unknown => 0
  | .reachable => 1
  | .doubtful => 2
  | .lost => 3

def StringEnd.code : StringEnd → Nat
  | .A => 0
  | .B => 1

def flashCode (f : Option RefusalFlash) : Nat := match f with | some x => x.code | none => 0

/-- Remaining time in tenths of a second, rounded down (R57, log 22). -/
def tenths (ms : Nat) : Nat := ms / 100

/-- The remaining time of a refusal flash in tenths of a second (R41). Neither R41 nor section 12.5 says
how it is rounded: the model's choice is down, as R57 has it for a refer slot (log 22). -/
def flashTenths (f : Option RefusalFlash) : Nat := match f with | some x => tenths x.remaining | none => 0

def dockImage (d : Dock) (s : State) : List Byte :=
  let r := s.dock d
  let l := s.link (dockNode d)
  [byte (dockNumber d), byte r.occupancy.code] ++ optBike r.bike ++
  [byte r.stampSeen.code,
   bits [r.unpriced, r.serviceMark, r.lastCondition.isSome, r.lastTap.isSome, r.lampShown, r.resyncDue,
         r.heldButton, s.closed d],
   optByte r.lastCondition, optByte r.lastTap, byte r.reservation.code, byte r.reservation.move,
   byte r.lamp.code, byte (flashCode r.flash), byte (flashTenths r.flash),
   byte l.contact.code, byte (StringEnd.code l.preferred), byte l.failures, l.mask,
   bits [s.hireable d]]

/-! ### The card entry image: 28 bytes -/

def CardClass.code : CardClass → Nat
  | .member => 0
  | .guest => 1
  | .crew => 2

def Activity.code : Activity → Nat
  | .idle => 0
  | .pending => 1
  | .riding => 2
  | .settling => 3

def optTime (t : Option Time) : List Byte := beBytes 4 ((t.getD 0).toNat)

def cardImage (e : CardEntry) (s : State) : List Byte :=
  [byte e.slot.val] ++ beBytes 5 e.card.toNat ++
  [byte e.cls.code, byte e.plan.val, bits [e.blocked], byte e.activity.code,
   bits [e.validUntil.isSome, e.link.isSome, e.queuedDock.isSome, e.guest.isSome,
         (s.findRefer e.card).isSome]] ++
  optTime e.validUntil ++ optBike (e.link.map Prod.fst) ++ optTime (e.link.map Prod.snd) ++
  [optDock e.queuedDock] ++ beBytes 2 (guestHold e) ++ beBytes 2 (guestCaptured e) ++
  beBytes 2 (guestSale e)

/-! ### The trip record image: 31 bytes -/

def TripState.code : TripState → Nat
  | .releasing => 0
  | .out => 1
  | .cancelling => 2
  | .priced _ => 3

def pricing (r : TripRecord) : Option Pricing :=
  match r.state with
  | .priced p => some p
  | .releasing | .out | .cancelling => none

def tripImage (r : TripRecord) : List Byte :=
  let p := pricing r
  beBytes 2 r.bike.toNat ++ beBytes 4 r.stamp.start.toNat ++ beBytes 5 r.stamp.card.toNat ++
  [byte r.stamp.plan.val, byte r.stamp.generation.val] ++ beBytes 2 r.stamp.ceiling ++
  beBytes 2 r.stamp.origin ++
  [byte r.state.code,
   bits [r.releaseDock.isSome, p.isSome, p.isSome, p.isSome, p.isSome, r.unstampDock.isSome],
   optDock r.releaseDock, optDock (p.map Pricing.returnDock)] ++
  optTime (p.map Pricing.endTime) ++ beBytes 2 ((p.map Pricing.fare).getD 0) ++
  beBytes 2 ((p.map (fun x => fareFlagBits x.flags)).getD 0) ++
  [byte (tripFlagBits r), optDock r.unstampDock]

/-! ### READ_PLAN: 32 bytes -/

def ActivationOutcome.code : ActivationOutcome → Nat
  | .none => 0
  | .taken => 1
  | .withdrawn => 2

/-- The band shape field: three lengths of 11 bits, four blocks of 6 bits. -/
def bandShape (p : Plan) : Nat :=
  p.band0.length + p.band1.length * 2 ^ 11 + p.band2.length * 2 ^ 22 + p.band0.block * 2 ^ 33 +
    p.band1.block * 2 ^ 39 + p.band2.block * 2 ^ 45 + p.band3.block * 2 ^ 51

def planImage (role : Nat) (b : Bank) (p : Plan) (f : FareUnit) : List Byte :=
  let g := match f.activation with | some (g, _) => g.val | none => 0
  let t := f.activation.map Prod.snd
  [byte (role + flagBit b.valid 4 + flagBit f.activation.isSome 8 + 16 * f.lastOutcome.code),
   byte (b.generation.val + 16 * g), byte (b.w + 32 * p.count)] ++
  beBytes 2 b.k ++ optTime t ++ beBytes 2 p.unlock ++ beBytes 2 p.grace ++ [byte p.factor] ++
  beBytes 2 p.cap ++ beBytes 8 (bandShape p) ++ beBytes 2 p.band0.rate ++ beBytes 2 p.band1.rate ++
  beBytes 2 p.band2.rate ++ beBytes 2 p.band3.rate

def quoteImage (x : FareResult) (generation plan : Nat) : List Byte :=
  beBytes 2 x.fare ++ beBytes 2 (fareFlagBits x.flags) ++ [byte generation, byte plan] ++
  beBytes 2 x.minutes ++ [byte x.days] ++ beBytes 4 x.raw

/-! ### The fault record image: 29 bytes -/

def Subject.type : Subject → Nat
  | .dock _ => 0
  | .bike _ => 1
  | .segment _ => 2
  | .terminal => 3

def Subject.number : Subject → Nat
  | .dock d => dockNumber d
  | .bike b => b.toNat
  | .segment k => k.val
  | .terminal => 0

def FaultState.code : FaultState → Nat
  | .suspect => 0
  | .active => 1
  | .clearing => 2

/-- The origin that a kind fixes (R134): 0 SENSED, 1 RIDER, 2 IMPORTED, 3 HOST. -/
def FaultKind.origin : FaultKind → Nat
  | .coilOpen | .coilShort | .tagUnreadable | .buttonStuck | .forcedRemoval | .noContact
  | .lineSplit => 0
  | .riderReport => 1
  | .serviceMark => 2
  | .hostReported => 3

def reporterPlace (r : FaultRecord) (i : Nat) : List Byte := beBytes 5 ((r.reporters.getD i 0).toNat)

def faultImage (r : FaultRecord) : List Byte :=
  [byte r.slot.val, byte r.subject.type] ++ beBytes 2 r.subject.number ++
  [byte r.kind.code, byte r.state.code, byte r.kind.origin, byte r.count, byte r.reporters.length] ++
  reporterPlace r 0 ++ reporterPlace r 1 ++ reporterPlace r 2 ++ beBytes 4 r.firstTime.toNat ++
  [bits [r.seen]]

/-! ### READ_MANIFEST: 32 bytes -/

def ManifestOutcome.code : ManifestOutcome → Nat
  | .complete => 0
  | .expired => 1
  | .cancelled => 2

def MoveKind.code : MoveKind → Nat
  | .pickup => 0
  | .drop => 1

def MoveState.code : MoveState → Nat
  | .opened => 0
  | .reserved => 1
  | .releasing => 2
  | .done => 3
  | .short => 4

def headerImage (h : Option ManifestHeader) : List Byte :=
  match h with
  | some h =>
    beBytes 2 h.number ++ beBytes 5 h.crewCard.toNat ++
    [byte h.expiryMinutes, bits [h.followOn], byte h.moveCount]
  | none => List.replicate 10 0

def moveImage (m : Option Move) : List Byte :=
  match m with
  | some m =>
    [1, byte m.kind.code, optDock m.dock] ++ optBike m.bike ++
    [byte m.state.code, optDock m.heldDock, optDock m.landedDock, optDock m.doneDock] ++
    optBike m.doneBike ++ [bits [m.latePull]]
  | none => List.replicate 12 0

def previousImage (e : Option PreviousEnd) : List Byte :=
  match e with
  | some e => beBytes 2 e.number ++ [byte e.outcome.code, byte e.doneCount]
  | none => List.replicate 4 0

def ManifestPhase.code : ManifestPhase → Nat
  | .active => 1
  | .suspended => 2
  | .ended _ => 3

def ManifestPhase.outcomeCode : ManifestPhase → Nat
  | .active | .suspended => 0
  | .ended o => o.code

/-- The active buffer; an IDLE buffer holds no manifest, so its places read 0 (R196, log 18). -/
def activeImage (m : ManifestUnit) (i : Nat) : List Byte :=
  (match m.active with
   | some a => [byte a.phase.code, byte a.phase.outcomeCode] ++ headerImage (some a.header)
   | none => [0, 0] ++ headerImage none) ++
  beBytes 2 m.counter ++ beBytes 2 m.reload ++ previousImage m.previousEnd ++
  moveImage (match m.active with | some a => a.moves[i]? | none => none)

/-- The move of an index in the staged buffer, where it is below move_count and written. -/
def StagedManifest.move? (g : StagedManifest) (i : Nat) : Option Move :=
  if i < g.header.moveCount then (g.moves.toList[i]?).getD none else none

def stagedImage (m : ManifestUnit) (i : Nat) : List Byte :=
  (match m.staged with
   | some g => [1, bits [g.held]] ++ headerImage (some g.header)
   | none => [0, 0] ++ headerImage none) ++
  beBytes 2 0 ++ beBytes 2 0 ++ previousImage m.previousEnd ++
  moveImage (match m.staged with | some g => g.move? i | none => none)

/-! ### READ_TIME and NEXT_REFER -/

def SupplyState.code : SupplyState → Nat
  | .normal => 0
  | .low => 1
  | .critical => 2

def timeImage (s : State) : List Byte :=
  beBytes 4 s.clock.time.toNat ++
  [bits [s.clock.isSet, s.supply.reading.isSome], byte s.supply.state.code, optByte s.supply.reading]

def referImage (r : ReferSlot) (count : Nat) : List Byte :=
  beBytes 5 r.card.toNat ++ [byte (dockNumber r.dock)] ++ beBytes 4 r.tapTime.toNat ++
  beBytes 2 (tenths r.remaining) ++ [byte count]

end Sys2Proof.Machine
end

