-- ==== Sys2Proof/Machine/CardCommands.lean ====
section
/-! DEFINITION. The commands of chapter 3: the card table and the refer slots. -/

namespace Sys2Proof.Machine

open Sys2Proof

def cardArg (a : List Byte) : CardNo := BitVec.ofNat 40 (field a 0 5)

/-- FIND_CARD (R52). -/
def execFindCard (args : List Byte) (s : State) : StepOutcome :=
  pureRead 5 args (fun a s =>
    match s.findCard (cardArg a) with
    | some e => .ok (cardImage e s)
    | none => .plain .notFound) s

/-- The entry in the lowest occupied slot at or above an index (R53). -/
def State.scanFrom (s : State) (i : Nat) : Option CardEntry :=
  s.cards.find? (fun e => decide (i ≤ e.slot.val))

/-- SCAN_CARDS (R53). -/
def execScanCards (args : List Byte) (s : State) : StepOutcome :=
  pureRead 1 args (fun a s =>
    match s.scanFrom (field a 0 1) with
    | some e => .ok (cardImage e s)
    | none => .plain .notFound) s

/-- R50. -/
def loadCard (a : List Byte) (s : State) : Result × State :=
  match readCardRecord a with
  | none => refuse .badArg s
  | some r =>
    let x := loadRecord r s
    if x.1 = .ok then (.ok [byte (x.2.slotOf r.card)], x.2) else (.plain x.1, s)

/-- LOAD_CARD (R50). -/
def execLoadCard (args : List Byte) (s : State) : StepOutcome := changeCommand 13 args loadCard s

/-- R51. -/
def retireCard (c : CardNo) (s : State) : Result × State :=
  match s.findCard c with
  | none => refuse .notFound s
  | some e =>
    if (e.activity = .idle ∨ e.activity = .settling) ∧ e.queuedDock = none then (.ok [], s.dropCard c)
    else refuse .state s

/-- RETIRE_CARD (R51). -/
def execRetireCard (args : List Byte) (s : State) : StepOutcome :=
  changeCommand 5 args (fun a => retireCard (cardArg a)) s

/-- NEXT_REFER (R57). -/
def execNextRefer (args : List Byte) (s : State) : StepOutcome :=
  pureRead 0 args (fun _ s =>
    match s.refers.head? with
    | some r => .ok (referImage r s.refers.length)
    | none => .plain .notFound) s

/-- The admission of a loaded card (R58): a held tap is decided as a hit at the slot's dock. The data
give the slot of the entry, the replayed flag and the refusal code shown. -/
def replayTap (c : CardNo) (s : State) : Result × State :=
  match s.findRefer c, s.findCard c with
  | some r, some e =>
    let x := hitTap e r.dock (retireRefer c s)
    (.ok [byte e.slot.val, 1, byte x.2], x.1)
  | _, _ => (.ok [byte (s.slotOf c), 0, 0], s)

/-- The cases of R58. -/
def admitRecord (r : CardRecord) (s : State) : Result × State :=
  let x := loadRecord r s
  match x.1 with
  | .ok => replayTap r.card x.2
  | .full =>
    match s.findRefer r.card with
    | some f => (.plain .full, showRefusal 4 f.dock (retireRefer r.card s))
    | none => refuse .full s
  | c => refuse c s

/-- ADMIT_CARD (R58). -/
def execAdmitCard (args : List Byte) (s : State) : StepOutcome :=
  changeCommand 13 args (fun a s =>
    match readCardRecord a with
    | none => refuse .badArg s
    | some r => admitRecord r s) s

/-- R59. -/
def refuseCard (c : CardNo) (s : State) : Result × State :=
  match s.findRefer c with
  | some r => (.ok [], showRefusal 1 r.dock (retireRefer c s))
  | none => refuse .notFound s

/-- REFUSE_CARD (R59). -/
def execRefuseCard (args : List Byte) (s : State) : StepOutcome :=
  changeCommand 5 args (fun a => refuseCard (cardArg a)) s

/-- The countdown of a refer slot runs out (R60): the slot is retired and refusal 1 shown at its dock as
it stands. A slot that has gone has no expiry, and none follows the restart of the countdown that a
further tap made in the same instant (log 2). -/
def referEnd (c : CardNo) (s : State) : State :=
  match s.findRefer c with
  | some r => if r.reaimed then s else showRefusal 1 r.dock (retireRefer c s)
  | none => s

/-- REFER_TIMEOUT (R60). -/
def execReferTimeout (card : CardNo) (s : State) : StepOutcome := event (referEnd card) s

end Sys2Proof.Machine
end

