-- ==== Sys2Proof/Machine/ClockCommands.lean ====
section
/-! DEFINITION. The commands of chapter 10: SET_TIME, READ_TIME and the seconds tick. -/

namespace Sys2Proof.Machine

open Sys2Proof

/-- R177, in its order. -/
def setTime (v : Time) (s : State) : Result × State :=
  let was := s.clock.isSet
  let data := beBytes 4 s.clock.time.toNat ++ [bits [was]]
  let s := testActivation (s.setClock (fun c => { c with time := v, isSet := true }))
  (.ok data, if was then s else s.noteTrips)

/-- SET_TIME (R177). -/
def execSetTime (args : List Byte) (s : State) : StepOutcome :=
  changeCommand 4 args (fun a => setTime (BitVec.ofNat 32 (field a 0 4))) s

/-- READ_TIME (R178). -/
def execReadTime (args : List Byte) (s : State) : StepOutcome :=
  pureRead 0 args (fun _ s => .ok (timeImage s)) s

/-! ### The seconds tick (R175) -/

/-- The supply state after a reading (R180). -/
def supplyAfter (c : Settings) (before : SupplyState) (reading : Nat) : SupplyState :=
  match before with
  | .normal => if reading < c.critEnter then .critical else if reading < c.lowEnter then .low else .normal
  | .low => if reading < c.critEnter then .critical else if c.lowExit < reading then .normal else .low
  | .critical => if c.critExit < reading then .low else .critical

/-- The supply reading; a change of state is told to the Hire Unit (R180). -/
def supplyTick (reading : Byte) (s : State) : State :=
  let next := supplyAfter s.settings s.supply.state reading.toNat
  let t := s.setSupply (fun _ => { state := next, reading := some reading })
  if next = s.supply.state then t else supplyChanged t

/-- The expiry counter counts down while ACTIVE; at 0 the manifest ends EXPIRED (R169). -/
def counterTick (s : State) : State :=
  if s.manifestActive then
    let s := s.setManifest (fun m => { m with counter := m.counter - 1 })
    if s.manifest.counter = 0 then endManifest .expired s else s
  else s

/-- The Manifest Unit's work at a tick (R168, R169): the expiry counter first, with the end that it may
make, and then each dock's van_unstamp, by rising number. The rules order neither the two works nor the
docks, and so none of the SHOW and UNSTAMP requests (the model's choice, log 35). -/
def manifestTick (s : State) : State := allDocks.foldl (fun s d => vanTick d s) (counterTick s)

/-- The Hire Unit's work at a tick (R78), by rising dock number: the rule says only "every cancel context",
and so orders none of the RELOCK and UNSTAMP requests (the model's choice, log 35). -/
def hireTick (s : State) : State := allDocks.foldl (fun s d => cancelTick d s) s

/-- Station time advances by 1 at each tick (R175). A refer timeout is at least 2 s (R55), so a tick comes
between a re-aim and the expiry of the time that it restarted: a slot re-aimed before the tick can run
out again (R60, log 2). -/
def advanceClock (s : State) : State :=
  (s.setClock (fun c => { c with time := c.time + 1, divider := 0 })).endInstant

/-- SECONDS_TICK (R175): station time advances by 1, and each block takes the tick as its own event, in
the order of R175's table (log 6). -/
def execSecondsTick (reading : Byte) (s : State) : StepOutcome :=
  let s := advanceClock s
  let s := finishEvent (supplyTick reading s)
  let s := finishEvent (if s.clock.isSet then cardTick s else s)
  let s := finishEvent (hireTick s)
  let s := finishEvent (tripTick s)
  let s := finishEvent (faultTick s)
  let s := finishEvent (manifestTick s)
  .next (finishEvent (testActivation s))

end Sys2Proof.Machine
end

