-- ==== Sys2Proof/Machine/DockCommands.lean ====
section
/-! DEFINITION. The commands of chapter 2: READ_DOCK, SET_MASK and the end of a refusal flash. -/

namespace Sys2Proof.Machine

open Sys2Proof

/-- READ_DOCK (R41). -/
def execReadDock (args : List Byte) (s : State) : StepOutcome :=
  pureRead 1 args (fun a s =>
    match dockOfNumber (field a 0 1) with
    | some d => .ok (dockImage d s)
    | none => .plain .badArg) s

/-- The mask names BIKE, LOCKED or COIL (R26). -/
def maskRefused (m : Nat) : Bool := decide (m % 8 ≠ 0)

/-- R26. -/
def setMask (dock m : Nat) (s : State) : Result × State :=
  match dockOfNumber dock with
  | none => refuse .badArg s
  | some d =>
    if maskRefused m then refuse .badArg s
    else (.ok [], s.setLink (dockNode d) (fun l => { l with hostMask := byte m }))

/-- SET_MASK (R26). -/
def execSetMask (args : List Byte) (s : State) : StepOutcome :=
  changeCommand 2 args (fun a => setMask (field a 0 1) (field a 1 1)) s

/-- REFUSAL_FLASH_EXPIRY (R40): the flash is absent, and the lamp is selected again. -/
def execRefusalFlashExpiry (dock : Nat) (s : State) : StepOutcome :=
  dockEvent dock (fun d s =>
    if (s.dock d).flash.isSome then selectLamp d (s.setDock d (fun r => { r with flash := none }))
    else s) s

end Sys2Proof.Machine
end

