-- ==== Sys2Proof/Machine/FaultCommands.lean ====
section
/-! DEFINITION. The commands and the event of chapter 8: READ_FAULT, NEXT_FAULT, RAISE_FAULT,
CLEAR_FAULT and the end of a rider report window. -/

namespace Sys2Proof.Machine

open Sys2Proof

/-! ### READ_FAULT and NEXT_FAULT (R147) -/

/-- The record is returned as it stands, and its seen becomes true (R147). -/
def seenRecord (r : FaultRecord) (more : List Byte) (s : State) : Result × State :=
  (.ok (faultImage r ++ more), s.setFault r.slot (fun r => { r with seen := true }))

/-- READ_FAULT's answer (R147). -/
def readFault (slot : Nat) (s : State) : Result × State :=
  if 31 < slot then refuse .badArg s
  else
    match s.faults.records.find? (fun r => decide (r.slot.val = slot)) with
    | some r => seenRecord r [] s
    | none => refuse .notFound s

/-- READ_FAULT (R147). -/
def execReadFault (args : List Byte) (s : State) : StepOutcome :=
  readCommand 1 args (fun a => readFault (field a 0 1)) s

/-- The ACTIVE records not yet seen. -/
def State.unseenFaults (s : State) : List FaultRecord :=
  s.faults.records.filter (fun r => decide (r.state = .active) && !r.seen)

/-- The unseen record of oldest first_time; records ascend by slot, so the lower slot is kept among
equals (R147). -/
def State.oldestUnseen (s : State) : Option FaultRecord :=
  s.unseenFaults.foldl (fun best r =>
    match best with
    | none => some r
    | some b =>
      if timeAgo s.clock.time b.firstTime < timeAgo s.clock.time r.firstTime then some r else some b) none

/-- NEXT_FAULT's answer (R147). -/
def nextFault (s : State) : Result × State :=
  match s.oldestUnseen with
  | some r => seenRecord r [byte s.unseenFaults.length] s
  | none => refuse .notFound s

/-- NEXT_FAULT (R147). -/
def execNextFault (args : List Byte) (s : State) : StepOutcome :=
  readCommand 0 args (fun _ => nextFault) s

/-! ### RAISE_FAULT (R148) -/

def State.faultSlot (s : State) (subject : Subject) (kind : FaultKind) : Nat :=
  match s.findFault subject kind with
  | some r => r.slot.val
  | none => 0

/-- R148. -/
def raiseFault (type number : Nat) (s : State) : Result × State :=
  match readSubject type number with
  | none => refuse .badArg s
  | some subject =>
    if (s.findFault subject .hostReported).isSome then refuse .exists s
    else
      match makeRoom s with
      | none => refuse .full s
      | some t =>
        let t := createActiveIn subject .hostReported [] t
        (.ok [byte (t.faultSlot subject .hostReported)], t)

/-- RAISE_FAULT (R148). -/
def execRaiseFault (args : List Byte) (s : State) : StepOutcome :=
  changeCommand 3 args (fun a => raiseFault (field a 0 1) (field a 1 2)) s

/-! ### CLEAR_FAULT (R149) -/

/-- After a bike fault is retired: where no bike fault for the bicycle remains ACTIVE, the unmark of the
dock that holds it names it (R149). -/
def unmarkAfter (subject : Subject) (s : State) : State :=
  match subject with
  | .bike b =>
    if s.bikeFaultActive b then s
    else
      match s.dockHolding b with
      | some d => setUnmark d b s
      | none => s
  | .dock _ | .segment _ | .terminal => s

/-- The record is retired by the host; the data say 255 (section 12.5). -/
def clearRetire (r : FaultRecord) (s : State) : Result × State :=
  (.ok [255], unmarkAfter r.subject (retireFault r s))

/-- An ACTIVE sensed record becomes CLEARING with count 0 (R149), which is told (R135). -/
def startClearing (r : FaultRecord) (s : State) : Result × State :=
  (.ok [2], tellChange r.subject none
    (s.setFault r.slot (fun r => { r with state := .clearing, count := 0 })))

/-- The table of R149. -/
def clearRecord (r : FaultRecord) (s : State) : Result × State :=
  match r.kind with
  | .noContact | .lineSplit => refuse .state s
  | .riderReport | .serviceMark | .hostReported => clearRetire r s
  | .coilOpen | .coilShort | .tagUnreadable | .buttonStuck | .forcedRemoval =>
    match r.state with
    | .suspect => clearRetire r s
    | .active => startClearing r s
    | .clearing => refuse .state s

/-- R149. A number outside the range of its subject names no record. -/
def clearFault (type number kind : Nat) (s : State) : Result × State :=
  if 3 < type then refuse .badArg s
  else
    match faultKindOf kind with
    | none => refuse .badArg s
    | some k =>
      match (readSubject type number).bind (fun subject => s.findFault subject k) with
      | some r => clearRecord r s
      | none => refuse .notFound s

/-- CLEAR_FAULT (R149). -/
def execClearFault (args : List Byte) (s : State) : StepOutcome :=
  changeCommand 4 args (fun a => clearFault (field a 0 1) (field a 1 2) (field a 3 1)) s

/-- REPORT_WINDOW_EXPIRY (R142): the rider report context becomes absent. -/
def execReportWindowExpiry (dock : Nat) (s : State) : StepOutcome :=
  dockEvent dock (fun d => State.setFaultDock d (fun f => { f with report := none })) s

end Sys2Proof.Machine
end

