-- ==== Sys2Proof/Machine/HireCommands.lean ====
section
/-! DEFINITION. The commands and events of chapter 4: REMOTE_HIRE, the end of a coil count and the end
of a pull window. -/

namespace Sys2Proof.Machine

open Sys2Proof

/-- R65. -/
def remoteHire (card dock : Nat) (s : State) : Result × State :=
  match dockOfNumber dock with
  | none => refuse .badArg s
  | some d =>
    if card = 0 then refuse .badArg s
    else
      match s.findCard (BitVec.ofNat 40 card) with
      | none => refuse .notFound s
      | some e =>
        if e.cls = .crew then refuse .state s
        else
          let x := decideTap e d (retireRefer e.card s)
          (.ok [byte x.2], x.1)

/-- REMOTE_HIRE (R65). -/
def execRemoteHire (args : List Byte) (s : State) : StepOutcome :=
  changeCommand 6 args (fun a => remoteHire (field a 0 5) (field a 5 1)) s

/-- The token is in COIL. -/
def Token.inCoil (t : Token) : Bool :=
  match t with
  | .lent _ (.coil _) => true
  | .lent _ .stampPending | .lent _ .releasePending | .free => false

/-- COIL_COUNT_EXPIRY (R73): the token becomes FREE and a grant pass runs. A token that is not in COIL
has no count to run out (log 2). -/
def execCoilCountExpiry (token : Nat) (s : State) : StepOutcome :=
  if h : token < 3 then
    .next (finishEvent
      (if (s.hire.tokens.get ⟨token, h⟩).inCoil then freeToken ⟨token, h⟩ s else s))
  else .refused .illFormed

/-- The pull window of a WAITING release runs out (R76). -/
def pullWindowEnd (d : Dock) (s : State) : State :=
  match s.release d with
  | none => s
  | some x =>
    match x.phase with
    | .waiting _ =>
      if x.seenPresent = true ∧ s.contact d = .reachable then cancelRelease d x s
      else s.setRelease d (some { x with phase := .overdue })
    | .stamping | .opening | .overdue => s

/-- PULL_WINDOW_EXPIRY (R76). -/
def execPullWindowExpiry (dock : Nat) (s : State) : StepOutcome := dockEvent dock pullWindowEnd s

end Sys2Proof.Machine
end

