-- ==== Sys2Proof/Machine/ManifestCommands.lean ====
section
/-! DEFINITION. The commands and the event of chapter 9: staging, commit, the host's steering of the
active manifest, READ_MANIFEST, ACK_MANIFEST and the expiry. -/

namespace Sys2Proof.Machine

open Sys2Proof

/-! ### Staging (R155) -/

/-- The header that passes the checks of R155. -/
def headerArg (a : List Byte) : Option ManifestHeader :=
  let number := field a 0 2
  let minutes := field a 7 1
  let follow := field a 8 1
  let count := field a 9 1
  if number = 0 ∨ minutes < 1 ∨ 240 < minutes ∨ 1 < follow ∨ count < 1 ∨ 16 < count then none
  else some
    { number := number, crewCard := BitVec.ofNat 40 (field a 2 5), expiryMinutes := minutes,
      followOn := decide (follow = 1), moveCount := count }

/-- The staged buffer is held. -/
def State.stagedHeld (s : State) : Bool :=
  match s.manifest.staged with
  | some g => g.held
  | none => false

/-- R155. -/
def stageHeader (a : List Byte) (s : State) : Result × State :=
  match headerArg a with
  | none => refuse .badArg s
  | some h =>
    if s.stagedHeld then refuse .state s
    else (.ok [], s.setManifest (fun m =>
      { m with staged := some { header := h, moves := Vector.replicate 16 none, held := false } }))

/-- STAGE_HEADER (R155). -/
def execStageHeader (args : List Byte) (s : State) : StepOutcome := changeCommand 10 args stageHeader s

/-- The move that passes the checks of R155 that concern it alone. -/
def moveArg (kind dock bike : Nat) : Option Move :=
  if 1 < kind ∨ 30 < dock ∨ (kind = 1 ∧ bike ≠ 0) then none
  else some
    { kind := if kind = 0 then .pickup else .drop,
      dock := dockOfNumber dock,
      bike := if bike = 0 then none else some (BitVec.ofNat 16 bike),
      state := .opened, heldDock := none, landedDock := none, doneDock := none, doneBike := none,
      latePull := false }

/-- Two moves name the same dock, or the same bicycle. -/
def sameNamed (x y : Move) : Bool :=
  (x.dock.isSome && decide (x.dock = y.dock)) || (x.bike.isSome && decide (x.bike = y.bike))

/-- Another index of the buffer names the same dock or bicycle (R155). -/
def StagedManifest.namesAlready (g : StagedManifest) (i : Nat) (x : Move) : Bool :=
  (List.finRange 16).any (fun j =>
    decide (j.val ≠ i) && (match g.moves.get j with
      | some y => sameNamed x y
      | none => false))

/-- R155. -/
def stageMove (i kind dock bike : Nat) (s : State) : Result × State :=
  match s.manifest.staged with
  | none => refuse .state s
  | some g =>
    if g.held then refuse .state s
    else if g.header.moveCount ≤ i then refuse .badArg s
    else
      match moveArg kind dock bike with
      | none => refuse .badArg s
      | some x =>
        if g.namesAlready i x then refuse .exists s
        else (.ok [], s.setManifest (fun m =>
          { m with staged := some { g with moves := g.moves.set (i % 16) (some x) } }))

/-- STAGE_MOVE (R155). -/
def execStageMove (args : List Byte) (s : State) : StepOutcome :=
  changeCommand 5 args (fun a => stageMove (field a 0 1) (field a 1 1) (field a 2 1) (field a 3 2)) s

/-! ### COMMIT_MANIFEST (R157) -/

/-- Every index below move_count is written. -/
def StagedManifest.complete (g : StagedManifest) : Bool :=
  (g.moves.toList.take g.header.moveCount).all Option.isSome

/-- The active buffer is not IDLE and its number equals the staged one. -/
def State.sameNumber (s : State) (g : StagedManifest) : Bool :=
  match s.manifest.active with
  | some a => decide (a.header.number = g.header.number)
  | none => false

/-- R157, its checks in order. -/
def commitManifest (s : State) : Result × State :=
  match s.manifest.staged with
  | none => refuse .state s
  | some g =>
    if g.held = true ∨ g.complete = false then refuse .state s
    else if s.sameNumber g then refuse .exists s
    else if s.canFollow then
      let t := activate g s
      (.ok [0, byte (countMoves .reserved t.moves), byte (countMoves .short t.moves)], t)
    else if g.header.followOn then
      (.ok [1, 0, 0], s.setManifest (fun m => { m with staged := some { g with held := true } }))
    else refuse .state s

/-- COMMIT_MANIFEST (R157). -/
def execCommitManifest (args : List Byte) (s : State) : StepOutcome :=
  changeCommand 0 args (fun _ => commitManifest) s

/-! ### Steering (R170) -/

/-- The active buffer is in a phase. -/
def State.manifestIn (s : State) (p : ManifestPhase) : Bool :=
  match s.manifest.active with
  | some a => decide (a.phase = p)
  | none => false

def setPhase (p : ManifestPhase) (s : State) : State :=
  s.setManifest (fun m => { m with active := m.active.map (fun a => { a with phase := p }) })

def suspendManifest (s : State) : Result × State :=
  if s.manifestIn .active then (.ok [], setPhase .suspended s) else refuse .state s

/-- SUSPEND_MANIFEST (R170). -/
def execSuspendManifest (args : List Byte) (s : State) : StepOutcome :=
  changeCommand 0 args (fun _ => suspendManifest) s

/-- A retry pass follows (R162). -/
def resumeManifest (s : State) : Result × State :=
  if s.manifestIn .suspended then (.ok [], (setPhase .active s).noteManifest) else refuse .state s

/-- RESUME_MANIFEST (R170). -/
def execResumeManifest (args : List Byte) (s : State) : StepOutcome :=
  changeCommand 0 args (fun _ => resumeManifest) s

def cancelManifest (target : Nat) (s : State) : Result × State :=
  match target with
  | 0 => if s.manifestLive then (.ok [], endManifest .cancelled s) else refuse .state s
  | 1 =>
    if s.manifest.staged.isSome then (.ok [], s.setManifest (fun m => { m with staged := none }))
    else refuse .state s
  | _ => refuse .badArg s

/-- CANCEL_MANIFEST (R170). -/
def execCancelManifest (args : List Byte) (s : State) : StepOutcome :=
  changeCommand 1 args (fun a => cancelManifest (field a 0 1)) s

def setExpiry (minutes : Nat) (s : State) : Result × State :=
  if minutes < 1 ∨ 240 < minutes then refuse .badArg s
  else if s.manifestLive then (.ok [], s.setManifest (fun m => { m with reload := minutes * 60 }))
  else refuse .state s

/-- SET_EXPIRY (R170). -/
def execSetExpiry (args : List Byte) (s : State) : StepOutcome :=
  changeCommand 1 args (fun a => setExpiry (field a 0 1)) s

/-! ### READ_MANIFEST and ACK_MANIFEST (R172) -/

/-- READ_MANIFEST's answer (R172). -/
def readManifest (buffer i : Nat) (s : State) : Result :=
  if 1 < buffer ∨ 15 < i then .plain .badArg
  else .ok (if buffer = 0 then activeImage s.manifest i else stagedImage s.manifest i)

/-- READ_MANIFEST (R172). -/
def execReadManifest (args : List Byte) (s : State) : StepOutcome :=
  pureRead 2 args (fun a s => readManifest (field a 0 1) (field a 1 1) s) s

/-- previous_end is present with this number. -/
def State.previousIs (s : State) (n : Nat) : Bool :=
  match s.manifest.previousEnd with
  | some e => decide (e.number = n)
  | none => false

/-- The active buffer, where it is ENDED with this number. -/
def State.endedWith (s : State) (n : Nat) : Option ActiveManifest :=
  match s.manifest.active with
  | some a =>
    match a.phase with
    | .ended _ => if a.header.number = n then some a else none
    | .active | .suspended => none
  | none => none

/-- ACK_MANIFEST's cases (R172); step 4 of R171 is taken again at its end. -/
def ackManifest (n : Nat) (s : State) : Result × State :=
  if s.previousIs n then
    (.ok [], (s.setManifest (fun m => { m with previousEnd := none })).noteFollowOn)
  else
    match s.endedWith n with
    | some a =>
      if anyReleasing a.moves then refuse .state s
      else (.ok [], (s.setManifest (fun m => { m with active := none })).noteFollowOn)
    | none => refuse .notFound s

/-- ACK_MANIFEST (R172). -/
def execAckManifest (args : List Byte) (s : State) : StepOutcome :=
  changeCommand 2 args (fun a => ackManifest (field a 0 2)) s

/-- MANIFEST_EXPIRY (R169): the counter of an ACTIVE manifest has reached 0, and it ends EXPIRED
(log 13). -/
def execManifestExpiry (s : State) : StepOutcome :=
  event (fun s =>
    if s.manifestActive then
      endManifest .expired (s.setManifest (fun m => { m with counter := 0 }))
    else s) s

end Sys2Proof.Machine
end

