-- ==== Sys2Proof/Machine/PortCommands.lean ====
section
/-! DEFINITION. The commands of chapter 11: the reset pin, the frames that are no command, READ_STATUS,
FETCH_RESULT, READ_NOTICES, SET_CONFIG, READ_CONFIG, REINIT and the end of a change command. -/

namespace Sys2Proof.Machine

open Sys2Proof

/-- RESET_PIN (R195): every block in its reset state. The queue of waiting commands is the model's, and
so is the counter of free readings, which goes on (log 21). -/
def execResetPin (s : State) : StepOutcome :=
  .next { State.reset with pending := s.pending, senseCount := s.senseCount }

/-! ### Fetching -/

/-- The result that a fetch of a block sends (R187): BUSY for the command block while a change command
is in progress, BAD_ARG for a selector other than 0 or 1. -/
def fetchedResult (selector : Nat) (p : Port) : Result :=
  if selector = 0 then
    (if p.running.isSome then Result.plain .busy else p.command.content.getD (.plain .busy))
  else if selector = 1 then p.read.content.getD (.plain .busy)
  else .plain .badArg

/-- The bytes of a result as they are clocked (R187): code, count, data, then 00h. -/
def resultBytes (r : Result) (n : Nat) : List Byte :=
  (([byte r.code.value, byte r.data.length] ++ r.data) ++ List.replicate n 0).take n

/-- The fetched flag becomes set once the code byte of a block's own result has been sent (R187). -/
def markFetched (selector : Nat) (p : Port) : Port :=
  if selector = 0 then
    (if p.running.isSome then p else { p with command := { p.command with fetched := true } })
  else if selector = 1 then { p with read := { p.read with fetched := true } }
  else p

/-- What clocking a frame of whole bytes, the first its opcode, sends and fetches: the status byte for
each byte, but for the result bytes of FETCH_RESULT, which are those of the result as it stands when
the frame ends (R183, R187, log 4). `extra` says that one more byte has begun. -/
def clockFrame (bytes : List Byte) (extra : Bool) (s : State) : State :=
  let n := bytes.length + (if extra then 1 else 0)
  match bytes with
  | 0x02 :: sel :: rest =>
    let clocks := rest.length + (if extra then 1 else 0)
    let sent := (s.frameStatus (clocks + 2)).take 2 ++ resultBytes (fetchedResult sel.toNat s.port) clocks
    let s := s.setPort (fun p => { p with sent := sent, trail := [] })
    if rest = [] then s else s.setPort (markFetched sel.toNat)
  | _ => sendStatus n s

/-- FRAME_BIT_COUNT_ERROR (R183): discarded whole, and FRAME becomes set. The bytes that a FETCH_RESULT
had already sent leave the fetched flag as they left it (R187, log 27). -/
def execFrameBitCountError (bytes : List Byte) (extra : Nat) (s : State) : StepOutcome :=
  if 1 ≤ extra ∧ extra ≤ 7 then
    .next ((clockFrame bytes true s).setPort (fun p => { p with frame := true }))
  else .refused .illFormed

/-- UNKNOWN_OPCODE (R184): UNKNOWN at once in the command result block, or discarded while BUSY. -/
def execUnknownOpcode (opcode : Byte) (args : List Byte) (s : State) : StepOutcome :=
  if knownOpcodes.contains opcode.toNat then .refused .illFormed
  else
    let s := sendStatus (args.length + 1) s
    if s.busy then .next (s.setPort (fun p => { p with discarded := true }))
    else .next (s.setPort (fun p => { p with command := .holding (.plain .unknown) }))

/-- READ_STATUS (R188): the status byte during each byte, the opcode byte included. -/
def execReadStatus (args : List Byte) (s : State) : StepOutcome :=
  .next (clockFrame (0x01 :: args) false s)

/-- FETCH_RESULT (R187). -/
def execFetchResult (args : List Byte) (s : State) : StepOutcome :=
  .next (clockFrame (0x02 :: args) false s)

/-! ### Notices and settings -/

/-- READ_NOTICES (R192). -/
def execReadNotices (args : List Byte) (s : State) : StepOutcome :=
  pureRead 0 args (fun _ s => .ok (beBytes 2 s.noticeSet ++ beBytes 2 s.settings.attentionMask)) s

/-- What an item's owner does when it is told of the new value (R189): the Dock Monitor selects every
lamp for items 6 to 8, the Hire Unit runs a grant pass for item 10. The attention line follows item 20
of itself; the other items act at their owner's next use. -/
def tellOwner (item : Nat) (s : State) : State :=
  if item = 6 ∨ item = 7 ∨ item = 8 then selectAllLamps s
  else if item = 10 then grantPass s
  else s

/-- R189 and R191. -/
def setConfig (item v : Nat) (s : State) : Result × State :=
  if item < 1 ∨ 20 < item then refuse .badArg s
  else if item = 19 ∧ s.trips ≠ [] then refuse .state s
  else
    let stored := s.settings.clamp item v
    ({ code := if stored = v then .ok else .clamped, data := beBytes 2 stored },
     tellOwner item (s.setSettings (fun c => c.setItem item stored)))

/-- SET_CONFIG (R189). -/
def execSetConfig (args : List Byte) (s : State) : StepOutcome :=
  changeCommand 3 args (fun a => setConfig (field a 0 1) (field a 1 2)) s

/-- READ_CONFIG (R190). -/
def execReadConfig (args : List Byte) (s : State) : StepOutcome :=
  pureRead 1 args (fun a s =>
    if field a 0 1 < 1 ∨ 20 < field a 0 1 then .plain .badArg
    else .ok (beBytes 2 (s.settings.item (field a 0 1)))) s

/-! ### REINIT (R194) -/

/-- R23: the String Controller in the state of R22, with preferred ends and masks kept. -/
def reinitString (s : State) : State :=
  { s with
    string :=
      { s.string with
        links := mapTable (fun l =>
          { l with reachA := .untried, reachB := .untried, failures := 0, contact := .unknown,
                   heldButton := false }) s.string.links,
        queue := [resetRelock],
        flight := none,
        splits := Vector.replicate 30 false,
        round := 0,
        roundTimer := 500 },
    settings :=
      { s.settings with
        answerWindow := 2,
        retryCount := 1,
        retryEnd := 1,
        flip := 1,
        roundPeriod := 5 } }

/-- R82: queue, contexts and tokens cleared; a broadcast RELOCK is placed, which merges. -/
def reinitHire (s : State) : State :=
  place { resetRelock with originators := [.hireUnit 0] } { s with hire := .reset }

/-- R101: RELEASING records retired, unstamp_dock absent, the deferred list emptied. -/
def reinitTrips (s : State) : State :=
  { (s.filterTrips (fun r => !isReleasing r.state)).mapTrips (fun r => { r with unstampDock := none })
    with deferred := Vector.replicate 30 none }

/-- R63 and R133. -/
def reinitCards (s : State) : State :=
  let s := s.mapCards (fun e =>
    let e := { e with queuedDock := none }
    if e.activity = .pending then { e with activity := .idle, link := none } else e)
  { s with refers := [] }.setTerminal (fun t => { t with settleContext := none })

/-- R152. -/
def reinitFaults (s : State) : State :=
  let gone := fun (r : FaultRecord) => decide (r.kind = .noContact) || decide (r.kind = .lineSplit)
  let s := if s.faults.records.any gone then s.setFaultFull false else s
  (s.filterFaults (fun r => !gone r)).mapFaultDocks (fun f =>
    { f with report := none, tagFailed := false, markPending := none })

/-- R174: the Manifest Unit's reset state, each reservation told as cleared. -/
def reinitManifest (s : State) : State :=
  dropReservations { s with manifest := .reset }

/-- R44: every dock record in the state of R43, its reservation as the Manifest Unit left it, with the
watch of R101, and the broadcast SHOW with pattern OFF. -/
def reinitDocks (s : State) : State :=
  place resetShow (s.mapDocks (fun r =>
    { DockRecord.reset with reservation := r.reservation, watch := true }))

/-- REINIT's work, the String Controller first (R23); it takes no call until all of it is done, so
that one broadcast RELOCK is sent (log 9). -/
def reinitWork (s : State) : State :=
  let s := reinitString (s.setHold true)
  let s := reinitCards (reinitTrips (reinitHire s))
  let s := reinitDocks (reinitManifest (reinitFaults s))
  takeNext (s.clearAgenda.setHold false)

/-- REINIT (R194). -/
def execReinit (args : List Byte) (s : State) : StepOutcome :=
  changeCommand 0 args (fun _ s => (.ok [], reinitWork s)) s

/-- CHANGE_COMMAND_FINISHED (R185): the result is placed, BUSY clears and READY becomes set. With no
change command in progress there is none to finish (log 2). -/
def execChangeCommandFinished (s : State) : StepOutcome :=
  match s.port.running with
  | some r => .next (s.setPort (fun p => { p with running := none, command := .holding r }))
  | none => .next s

end Sys2Proof.Machine
end

