-- ==== Sys2Proof/Machine/StringCommands.lean ====
section
/-! DEFINITION. The events of chapter 1: the round timer, a character received, the end of an answer
window. -/

namespace Sys2Proof.Machine

open Sys2Proof

/-- ROUND_TIMER_EXPIRY (R21). -/
def execRoundTimerExpiry (s : State) : StepOutcome := event roundExpiry s

/-- STRING_CHARACTER_RECEIVED (R1, R3, R4). -/
def execStringCharacterReceived (on : StringEnd) (data : Byte) (mark : Bool) (s : State) : StepOutcome :=
  event (stringChar on data mark) s

/-- ANSWER_WINDOW_EXPIRY (R3, R4, R6): with no call in flight there is no window to run out (log 2). -/
def execAnswerWindowExpiry (s : State) : StepOutcome := event windowEnd s

end Sys2Proof.Machine
end

