-- ==== Sys2Proof/Machine/TariffCommands.lean ====
section
/-! DEFINITION. The commands of chapter 6: writing the staged bank, activation, READ_PLAN and
QUOTE_FARE. -/

namespace Sys2Proof.Machine

open Sys2Proof

/-! ### WRITE_PLAN (R104) -/

/-- Band i of the arguments: length, block and rate (section 12.5). -/
def bandArg (a : List Byte) (i : Nat) : Band :=
  { length := field a (9 + 5 * i) 2, block := field a (11 + 5 * i) 1, rate := field a (12 + 5 * i) 2 }

/-- Band i of a plan of `n` bands passes its checks (R104). -/
def bandArgOk (a : List Byte) (n i : Nat) : Bool :=
  let b := bandArg a i
  (decide (n ≤ i + 1) || (decide (1 ≤ b.length) && decide (b.length ≤ 1440))) &&
    (decide (n ≤ i) || (decide (1 ≤ b.block) && decide (b.block ≤ 60)))

/-- The checks of R104. -/
def planArgOk (a : List Byte) : Bool :=
  let n := field a 8 1
  decide (field a 0 1 ≤ 7) && decide (field a 3 2 ≤ 3600) && decide (n ≤ 4) &&
    (List.range 4).all (bandArgOk a n)

/-- Band i as stored in a plan of `n` bands: the last length, and every band at n or above, 0. -/
def storedBand (a : List Byte) (n i : Nat) : Band :=
  let b := bandArg a i
  if n ≤ i then .zero else if i + 1 = n then { b with length := 0 } else b

/-- The plan that the arguments spell (R104); undefined where n is 0. -/
def planArg (a : List Byte) : Plan :=
  let n := field a 8 1
  if n = 0 then .undefined
  else
    { unlock := field a 1 2, grace := field a 3 2, factor := field a 5 1, cap := field a 6 2, count := n,
      band0 := storedBand a n 0, band1 := storedBand a n 1, band2 := storedBand a n 2,
      band3 := storedBand a n 3 }

/-- A change of the STAGED bank (R102). -/
def setStaged (f : Bank → Bank) (s : State) : State :=
  s.setFare (fun u => { u with staged := f u.staged })

/-- R104. -/
def writePlan (a : List Byte) (s : State) : Result × State :=
  if planArgOk a then
    (.ok [], setStaged (fun b => { b with plans := b.plans.set (field a 0 1 % 8) (planArg a) }) s)
  else refuse .badArg s

/-- WRITE_PLAN (R104). -/
def execWritePlan (args : List Byte) (s : State) : StepOutcome := changeCommand 29 args writePlan s

/-- R105. -/
def writeTerms (k w : Nat) (s : State) : Result × State :=
  if 30 < w then refuse .badArg s else (.ok [], setStaged (fun b => { b with k := k, w := w }) s)

/-- WRITE_STATION_TERMS (R105). -/
def execWriteStationTerms (args : List Byte) (s : State) : StepOutcome :=
  changeCommand 3 args (fun a => writeTerms (field a 0 2) (field a 2 1)) s

/-! ### ACTIVATE_TARIFF (R107) and the test of the pending activation (R108) -/

/-- R107, its checks in order; the new activation is tested at once. -/
def activateTariff (g : Nat) (t : Time) (s : State) : Result × State :=
  if h : g < 16 then
    if s.fare.staged.anyDefined = false then refuse .state s
    else if s.fare.current.valid = true ∧ s.fare.current.generation.val = g then refuse .badArg s
    else (.ok [], testActivation (s.setFare (fun u => { u with activation := some (⟨g, h⟩, t) })))
  else refuse .badArg s

/-- ACTIVATE_TARIFF (R107). -/
def execActivateTariff (args : List Byte) (s : State) : StepOutcome :=
  changeCommand 5 args (fun a => activateTariff (field a 0 1) (BitVec.ofNat 32 (field a 1 4))) s

/-- ACTIVATION_REACHED (R108): the pending activation is tested (log 13). -/
def execActivationReached (s : State) : StepOutcome := event testActivation s

/-! ### READ_PLAN (R106) -/

/-- The bank of a role number (R106). -/
def FareUnit.bankOf (f : FareUnit) (role : Nat) : Option Bank :=
  match role with
  | 0 => some f.current
  | 1 => some f.previous
  | 2 => some f.staged
  | _ => none

/-- R106. -/
def readPlan (role plan : Nat) (s : State) : Result :=
  match s.fare.bankOf role with
  | none => .plain .badArg
  | some b =>
    if h : plan < 8 then .ok (planImage role b (b.plan ⟨plan, h⟩) s.fare) else .plain .badArg

/-- READ_PLAN (R106). -/
def execReadPlan (args : List Byte) (s : State) : StepOutcome :=
  pureRead 2 args (fun a s => readPlan (field a 0 1) (field a 1 1) s) s

/-! ### QUOTE_FARE (R119) -/

/-- Whether the incentive is taken in a quote of this mode (R119). -/
def quoteIncentive (mode : Nat) (s : State) : Bool :=
  match mode with
  | 0 => false
  | 1 => incentiveApplies s.fare.current s.hireableCount s.dropToDo
  | _ => decide (0 < s.fare.current.k)

/-- R119. -/
def quoteFare (duration plan ceiling mode : Nat) (s : State) : Result :=
  if h : plan < 8 then
    if 2 < mode then .plain .badArg
    else if s.fare.current.valid = false then .plain .state
    else
      match s.fare.current.selectPlan ⟨plan, h⟩ with
      | none => .plain .notFound
      | some (p, planFb) =>
        let x := computeFare (s.fare.current.plan p) s.fare.current.k duration ceiling
          (quoteIncentive mode s) false planFb
        .ok (quoteImage x s.fare.current.generation.val p.val)
  else .plain .badArg

/-- QUOTE_FARE (R119). -/
def execQuoteFare (args : List Byte) (s : State) : StepOutcome :=
  pureRead 8 args (fun a s => quoteFare (field a 0 4) (field a 4 1) (field a 5 2) (field a 7 1) s) s

end Sys2Proof.Machine
end

