-- ==== Sys2Proof/Machine/TripCommands.lean ====
section
/-! DEFINITION. The commands of chapter 5: CLOSE_REMOTE, READ_TRIP, NEXT_PRICED and COLLECT_TRIP. -/

namespace Sys2Proof.Machine

open Sys2Proof

/-- READ_TRIP (R96). -/
def execReadTrip (args : List Byte) (s : State) : StepOutcome :=
  pureRead 2 args (fun a s =>
    if field a 0 2 = 0 then .plain .badArg
    else
      match s.findTrip (BitVec.ofNat 16 (field a 0 2)) with
      | some r => .ok (tripImage r)
      | none => .plain .notFound) s

/-- The age of a record's end_time (R97). -/
def endAge (now : Time) (r : TripRecord) : Nat :=
  match r.state with
  | .priced p => timeAgo now p.endTime
  | .releasing | .out | .cancelling => 0

/-- The PRICED record of oldest end_time; records ascend by bike number, so the lower one is kept among
equals (R97). -/
def State.oldestPriced (s : State) : Option TripRecord :=
  (s.trips.filter Trip.isPriced).foldl (fun best r =>
    match best with
    | none => some r
    | some b => if endAge s.clock.time b < endAge s.clock.time r then some r else some b) none

/-- NEXT_PRICED (R97). -/
def execNextPriced (args : List Byte) (s : State) : StepOutcome :=
  pureRead 0 args (fun _ s =>
    match s.oldestPriced with
    | some r => .ok (tripImage r ++ [byte (s.trips.filter Trip.isPriced).length])
    | none => .plain .notFound) s

/-- A record may be collected (R98): PRICED, no UNSTAMP outstanding, and the stamp cleared or the
bicycle gone from its return dock. -/
def State.collectable (s : State) (r : TripRecord) : Bool :=
  match r.state with
  | .priced p =>
    r.unstampDock.isNone && (r.unstamped || decide ((s.dock p.returnDock).bike ≠ some r.bike))
  | .releasing | .out | .cancelling => false

/-- R98. -/
def collectTrip (bike : Nat) (start : Time) (s : State) : Result × State :=
  if bike = 0 then refuse .badArg s
  else
    match s.findTrip (BitVec.ofNat 16 bike) with
    | none => refuse .notFound s
    | some r =>
      if r.stamp.start ≠ start then refuse .notFound s
      else if s.collectable r then (.ok (tripImage r), s.dropTrip r.bike)
      else refuse .state s

/-- COLLECT_TRIP (R98). -/
def execCollectTrip (args : List Byte) (s : State) : StepOutcome :=
  changeCommand 6 args (fun a => collectTrip (field a 0 2) (BitVec.ofNat 32 (field a 2 4))) s

/-- The activity byte of CLOSE_REMOTE's result: 255 where the table holds no entry (section 12.5). -/
def activityByte (c : CardNo) (s : State) : Byte :=
  match s.findCard c with
  | some e => byte e.activity.code
  | none => 255

/-- The record that CLOSE_REMOTE retires: OUT, not FOREIGN, of the card (R99). -/
def closable (r : TripRecord) (c : CardNo) : Bool :=
  decide (r.state = .out) && !r.foreign && decide (r.stamp.card = c)

/-- R99. -/
def closeRemote (card bike : Nat) (start : Time) (fare : Nat) (s : State) : Result × State :=
  let c : CardNo := BitVec.ofNat 40 card
  let b : Bike := BitVec.ofNat 16 bike
  if card = 0 ∨ bike = 0 then refuse .badArg s
  else
    match (s.findTrip b).filter (fun r => decide (r.stamp.start = start)) with
    | some r =>
      if closable r c then
        let t := s.dropTrip b
        let x := if r.orphan then (t, 0) else cardFree c b start (some fare) t
        (.ok (beBytes 2 x.2 ++ [activityByte c x.1]), x.1)
      else refuse .state s
    | none => (.plain .notFound, (cardFree c b start none s).1)

/-- CLOSE_REMOTE (R99). -/
def execCloseRemote (args : List Byte) (s : State) : StepOutcome :=
  changeCommand 13 args (fun a =>
    closeRemote (field a 0 5) (field a 5 2) (BitVec.ofNat 32 (field a 7 4)) (field a 11 2)) s

end Sys2Proof.Machine
end

