-- ==== Sys2Proof/Machine/Dispatch.lean ====
section
/-! DEFINITION. One arm for each command: the meaning that carries it out. -/

namespace Sys2Proof.Machine

open Sys2Proof

def exec (i : Instr) (s : State) : Host.Outcome State Fault Refusal :=
  match i with
  | .resetPin => Sys2Proof.Machine.execResetPin s
  | .frameBitCountError bytes extra => Sys2Proof.Machine.execFrameBitCountError bytes extra s
  | .unknownOpcode opcode args => Sys2Proof.Machine.execUnknownOpcode opcode args s
  | .readStatus args => Sys2Proof.Machine.execReadStatus args s
  | .fetchResult args => Sys2Proof.Machine.execFetchResult args s
  | .readNotices args => Sys2Proof.Machine.execReadNotices args s
  | .setConfig args => Sys2Proof.Machine.execSetConfig args s
  | .readConfig args => Sys2Proof.Machine.execReadConfig args s
  | .setTime args => Sys2Proof.Machine.execSetTime args s
  | .readTime args => Sys2Proof.Machine.execReadTime args s
  | .reinit args => Sys2Proof.Machine.execReinit args s
  | .readDock args => Sys2Proof.Machine.execReadDock args s
  | .setMask args => Sys2Proof.Machine.execSetMask args s
  | .findCard args => Sys2Proof.Machine.execFindCard args s
  | .scanCards args => Sys2Proof.Machine.execScanCards args s
  | .loadCard args => Sys2Proof.Machine.execLoadCard args s
  | .retireCard args => Sys2Proof.Machine.execRetireCard args s
  | .nextRefer args => Sys2Proof.Machine.execNextRefer args s
  | .admitCard args => Sys2Proof.Machine.execAdmitCard args s
  | .refuseCard args => Sys2Proof.Machine.execRefuseCard args s
  | .remoteHire args => Sys2Proof.Machine.execRemoteHire args s
  | .closeRemote args => Sys2Proof.Machine.execCloseRemote args s
  | .readTrip args => Sys2Proof.Machine.execReadTrip args s
  | .nextPriced args => Sys2Proof.Machine.execNextPriced args s
  | .collectTrip args => Sys2Proof.Machine.execCollectTrip args s
  | .writePlan args => Sys2Proof.Machine.execWritePlan args s
  | .writeStationTerms args => Sys2Proof.Machine.execWriteStationTerms args s
  | .activateTariff args => Sys2Proof.Machine.execActivateTariff args s
  | .readPlan args => Sys2Proof.Machine.execReadPlan args s
  | .quoteFare args => Sys2Proof.Machine.execQuoteFare args s
  | .readFault args => Sys2Proof.Machine.execReadFault args s
  | .nextFault args => Sys2Proof.Machine.execNextFault args s
  | .raiseFault args => Sys2Proof.Machine.execRaiseFault args s
  | .clearFault args => Sys2Proof.Machine.execClearFault args s
  | .stageHeader args => Sys2Proof.Machine.execStageHeader args s
  | .stageMove args => Sys2Proof.Machine.execStageMove args s
  | .commitManifest args => Sys2Proof.Machine.execCommitManifest args s
  | .suspendManifest args => Sys2Proof.Machine.execSuspendManifest args s
  | .resumeManifest args => Sys2Proof.Machine.execResumeManifest args s
  | .cancelManifest args => Sys2Proof.Machine.execCancelManifest args s
  | .setExpiry args => Sys2Proof.Machine.execSetExpiry args s
  | .readManifest args => Sys2Proof.Machine.execReadManifest args s
  | .ackManifest args => Sys2Proof.Machine.execAckManifest args s
  | .secondsTick reading => Sys2Proof.Machine.execSecondsTick reading s
  | .roundTimerExpiry => Sys2Proof.Machine.execRoundTimerExpiry s
  | .stringCharacterReceived on data mark => Sys2Proof.Machine.execStringCharacterReceived on data mark s
  | .answerWindowExpiry => Sys2Proof.Machine.execAnswerWindowExpiry s
  | .coilCountExpiry token => Sys2Proof.Machine.execCoilCountExpiry token s
  | .pullWindowExpiry dock => Sys2Proof.Machine.execPullWindowExpiry dock s
  | .referTimeout card => Sys2Proof.Machine.execReferTimeout card s
  | .refusalFlashExpiry dock => Sys2Proof.Machine.execRefusalFlashExpiry dock s
  | .reportWindowExpiry dock => Sys2Proof.Machine.execReportWindowExpiry dock s
  | .manifestExpiry => Sys2Proof.Machine.execManifestExpiry s
  | .activationReached => Sys2Proof.Machine.execActivationReached s
  | .changeCommandFinished => Sys2Proof.Machine.execChangeCommandFinished s

end Sys2Proof.Machine
end

