-- ==== Sys2Proof/Machine/Timers.lean ====
section
/-! DEFINITION. One period of the reference clock, which the step takes on an empty queue (R175, log 1):
the divider counts, the short timers count whole milliseconds, and what has run out joins the queue
of commands, one expiry at a time. -/

namespace Sys2Proof.Machine

open Sys2Proof

/-! ### The timers that have run out (log 26) -/

/-- A countdown that stands at 0 has run out. -/
def runsOut (ms : Nat) : Bool := decide (ms = 0)

def dueIf (b : Bool) (c : Instr) : List Instr := if b then [c] else []

def dueWindow (s : State) : List Instr :=
  match s.string.flight with
  | some (.broadcast _ ms) => dueIf (runsOut ms) .answerWindowExpiry
  | some (.call c) => dueIf (runsOut c.remaining) .answerWindowExpiry
  | none => []

def dueCoil (s : State) (i : Fin 3) : List Instr :=
  match s.hire.tokens.get i with
  | .lent _ (.coil ms) => dueIf (runsOut ms) (.coilCountExpiry i.val)
  | .lent _ .stampPending | .lent _ .releasePending | .free => []

def duePull (s : State) (d : Dock) : List Instr :=
  match s.release d with
  | some x =>
    match x.phase with
    | .waiting ms => dueIf (runsOut ms) (.pullWindowExpiry (dockNumber d))
    | .stamping | .opening | .overdue => []
  | none => []

def dueFlash (s : State) (d : Dock) : List Instr :=
  match (s.dock d).flash with
  | some f => dueIf (runsOut f.remaining) (.refusalFlashExpiry (dockNumber d))
  | none => []

def dueReport (s : State) (d : Dock) : List Instr :=
  match (s.faultDock d).report with
  | some x => dueIf (runsOut x.remaining) (.reportWindowExpiry (dockNumber d))
  | none => []

/-- The events of the timers that have run out, in the order of log 26. -/
def State.dueTimers (s : State) : List Instr :=
  dueWindow s ++ dueIf (runsOut s.string.roundTimer) .roundTimerExpiry ++
    (List.finRange 3).flatMap (dueCoil s) ++ allDocks.flatMap (duePull s) ++
    s.refers.flatMap (fun r => dueIf (runsOut r.remaining) (.referTimeout r.card)) ++
    allDocks.flatMap (dueFlash s) ++ allDocks.flatMap (dueReport s)

/-! ### Counting down one millisecond -/

def Flight.countDown : Flight → Flight
  | .broadcast e ms => .broadcast e (ms - 1)
  | .call c => .call { c with remaining := c.remaining - 1 }

def Token.countDown : Token → Token
  | .lent d (.coil ms) => .lent d (.coil (ms - 1))
  | t => t

def ReleaseContext.countDown (x : ReleaseContext) : ReleaseContext :=
  match x.phase with
  | .waiting ms => { x with phase := .waiting (ms - 1) }
  | .stamping | .opening | .overdue => x

def DockRecord.countDown (r : DockRecord) : DockRecord :=
  { r with flash := r.flash.map (fun f => { f with remaining := f.remaining - 1 }) }

def FaultDock.countDown (f : FaultDock) : FaultDock :=
  { f with report := f.report.map (fun x => { x with remaining := x.remaining - 1 }) }

def ReferSlot.countDown (r : ReferSlot) : ReferSlot := { r with remaining := r.remaining - 1 }

/-- Every running countdown falls by one millisecond. -/
def countDown (s : State) : State :=
  { s with
    string :=
      { s.string with
        flight := s.string.flight.map Flight.countDown,
        roundTimer := s.string.roundTimer - 1 },
    hire :=
      { s.hire with
        tokens := mapTable Token.countDown s.hire.tokens,
        releases := mapTable (fun x => x.map ReleaseContext.countDown) s.hire.releases },
    refers := s.refers.map ReferSlot.countDown,
    docks := mapTable DockRecord.countDown s.docks,
    faults := { s.faults with docks := mapTable FaultDock.countDown s.faults.docks } }

/-! ### One period of the reference clock -/

/-- A whole millisecond ends with period `n + 1` of a second of 32,768 periods. -/
def endsMillisecond (n : Nat) : Bool := decide (n * 1000 / 32768 < (n + 1) * 1000 / 32768)

/-- The 32,768th period makes a seconds tick (R175); its supply reading is a free value (log 21). -/
def countPeriod (s : State) : State :=
  if s.clock.divider + 1 < 32768 then s.setClock (fun c => { c with divider := c.divider + 1 })
  else
    { s.setClock (fun c => { c with divider := 0 }) with
      pending := s.pending ++ [.secondsTick (Config.supplySense s.senseCount)],
      senseCount := s.senseCount + 1 }

/-- A period begins: a byte of a frame that begins in it shows the status byte as it stands (R183), and
a refer slot re-aimed before it is no longer in the instant of its restart (R60). -/
def beginPeriod (s : State) : State :=
  (s.setPort (fun p => { p with trail := noteStatus s.statusByte p.trail })).endInstant

/-- One expiry of a timer that has run out joins the queue. A timer that the events before it have
restarted or stopped no longer stands at 0, and no expiry of it follows (R40, R42, R60). -/
def queueExpiry (s : State) : State := { s with pending := s.pending ++ s.dueTimers.take 1 }

/-- One period of the reference clock (R175); a free string has taken its next call before it
(R19, log 10). -/
def clockPeriod (s : State) : State :=
  let s := beginPeriod (takeNext s)
  countPeriod (queueExpiry (if endsMillisecond s.clock.divider then countDown s else s))

end Sys2Proof.Machine
end

