-- ==== Sys2Proof/Machine/Step.lean ====
section
/-! DEFINITION. One step of the part: the command at the front of the queue, or one period of the
reference clock where none waits (log 1). -/

namespace Sys2Proof.Machine

open Sys2Proof

/-- Take the command at the front and carry it out on the rest; with none waiting, one period of the
reference clock passes (log 1). -/
def step (s : State) : Host.Outcome State Fault Refusal :=
  match s.pending with
  | c :: rest => exec c { s with pending := rest }
  | [] => .next (clockPeriod s)

/-- The command that a word of opcode_table.json spells, put at the front of the queue; no row gives
bits, so no word spells one and the state is unchanged. -/
def State.withFetchWord (s : State) (nbits w : Nat) : State :=
  match decodeTableWord nbits w with
  | some c => { s with pending := c :: s.pending }
  | none => s

end Sys2Proof.Machine
end

