-- ==== Sys2Proof/WellFormed.lean ====
section
/-! DEFINITION. Which terms of Instr are events that can happen at the part: a bit count that is not
a multiple of 8 (R183), an opcode in no row of the table (R184), and the numbers of docks and latch
tokens (00_scope.md section 4.1, R67). Every other term is well formed. -/

namespace Sys2Proof

/-- A dock number is 1..30 (00_scope.md section 4.1). -/
def dockNumberOk (n : Nat) : Bool := decide (1 ≤ n) && decide (n ≤ 30)

/-- The command is one that its row of opcode_table.json describes. -/
def Instr.wellFormed : Instr → Bool
  | .frameBitCountError _ extra => decide (1 ≤ extra) && decide (extra ≤ 7)
  | .unknownOpcode opcode _ => !knownOpcodes.contains opcode.toNat
  | .coilCountExpiry token => decide (token < 3)
  | .pullWindowExpiry dock => dockNumberOk dock
  | .refusalFlashExpiry dock => dockNumberOk dock
  | .reportWindowExpiry dock => dockNumberOk dock
  | _ => true

end Sys2Proof
end

