-- ==== Sys2Proof/Safety.lean ====
section
/-! DEFINITION. The terms that claims about the part are stated in: runs that do not stop, what a frame
does at the command port whatever its command (R183 to R186), what a refusal, an answer or an activation
leaves, and the invariants of the tables. -/

namespace Sys2Proof.Machine

open Sys2Proof

/-! ### Runs -/

/-- Every command that waits is one that can happen at the part. -/
def State.pendingOk (s : State) : Bool := s.pending.all Instr.wellFormed

/-- The step answers a next state. -/
def stepsOn (s : State) : Prop := ∃ t, step s = .next t

/-- Nothing is left over from an earlier event (log 7). -/
def State.quiet (s : State) : Prop := s.agenda = .empty

/-! ### Frames at the command port -/

/-- The status bytes of a trail, one for each period of the reference clock, the newest first. -/
def trailBytes (l : List (Byte × Nat)) : List Byte := l.flatMap (fun x => List.replicate x.2 x.1)

/-- The port after a frame of `n` argument bytes, each byte answered with the status byte as it stands
when that byte begins (R183, log 4). -/
def State.framed (n : Nat) (s : State) : Port :=
  { s.port with sent := s.frameStatus (n + 1), trail := [] }

/-- A read command with `n` argument bytes has been answered with `r` (R186, R188), and nothing but the
port has changed. -/
def State.readAnswered (n : Nat) (r : Result) (s : State) : State :=
  { s with port := { s.framed n with
      read := { content := some r, fetched := false }, discarded := false, frame := false } }

/-- A change command with `n` argument bytes has been taken and its owner has the result `r` (R185,
R188): BUSY is set and the command result block emptied; nothing but the port has changed. -/
def State.changeTaken (n : Nat) (r : Result) (s : State) : State :=
  { s with port := { s.framed n with
      running := some r, command := { content := none, fetched := false },
      discarded := false, frame := false } }

/-- The state in which the owner of a change command of `n` argument bytes works: BUSY is set, and the
command result block is empty (R185, R188). -/
def State.taking (n : Nat) (s : State) : State :=
  { s with port := { s.framed n with
      running := some (.plain .busy), command := { content := none, fetched := false },
      discarded := false, frame := false } }

/-- The command result block takes a result at once, and BUSY is not set (R184). -/
def State.changeRefused (n : Nat) (c : ResultCode) (s : State) : State :=
  { s with port := { s.framed n with
      command := { content := some { code := c, data := [] }, fetched := false } } }

/-- A change command of `n` argument bytes was discarded (R185). -/
def State.changeDiscarded (n : Nat) (s : State) : State :=
  { s with port := { s.framed n with discarded := true } }

/-- A read command with a wrong number of argument bytes (R184). -/
def State.readLength (n : Nat) (s : State) : State :=
  { s with port := { s.framed n with
      read := { content := some { code := .length, data := [] }, fetched := false } } }

/-- How a read command of `n` argument bytes meets a wrong number of them (R184). -/
def readsLength (mk : List Byte → Instr) (n : Nat) : Prop :=
  ∀ (s : State) (args : List Byte), args.length ≠ n →
    exec (mk args) s = .next (s.readLength args.length)

/-- How a change command of `n` argument bytes meets BUSY and a wrong number of them (R184, R185). -/
def changesGated (mk : List Byte → Instr) (n : Nat) : Prop :=
  ∀ (s : State) (args : List Byte),
    (s.busy = true → exec (mk args) s = .next (s.changeDiscarded args.length)) ∧
    (s.busy = false → args.length ≠ n → exec (mk args) s = .next (s.changeRefused args.length .length))

/-- A change command that is taken, with the result `r` ready, and whose own work leaves the records as
in `u`; the event then ends (log 7). The owner's work is done in the command's own step, and its result
waits, with BUSY set, for CHANGE_COMMAND_FINISHED (log 5). -/
def changes (c : Instr) (n : Nat) (r : Result) (u s : State) : Prop :=
  exec c s = .next (finishEvent { u with port := (s.changeTaken n r).port })

/-! ### Refusals, answers and activations -/

/-- Refusal `n` is shown for 3 s at dock `d` and no refer slot of card `c` is left; no other record, and
of the dock's own only the lamp, has changed (R40, R58 to R60). -/
def referRefused (n : Nat) (c : CardNo) (d : Dock) (u s : State) : Prop :=
  u.refers = s.refers.filter (fun r => decide (r.card ≠ c)) ∧
  u.dock d = { s.dock d with
    flash := some { code := n, remaining := 3000 }, lamp := .redFlash n, lampShown := (u.dock d).lampShown } ∧
  (∀ e, e ≠ d → u.dock e = s.dock e) ∧
  u = { s with
    refers := u.refers, docks := u.docks, port := u.port,
    string := { s.string with
      queue := u.string.queue, flight := u.string.flight, lastSent := u.string.lastSent } }

/-- The split indication of segment `k` once an attempt of call `c` has ended and its end has reach `r`: where
that changes the reach of the segment's near or far node, a clear one becomes set by R16's three
conditions, and a set one clear by reach YES on A of the far node; else it stays (R10, R16). -/
def State.splitNext (c : Call) (r : Reach) (s : State) (k : Fin 30) : Bool :=
  let reached : Node → LinkRecord := fun n => if n = c.node then (s.link n).setReach c.on r else s.link n
  let near := reached ⟨k.val, by omega⟩
  let far := reached ⟨k.val + 1, by omega⟩
  if (s.link c.node).reach c.on ≠ r ∧ (c.node.val = k.val ∨ c.node.val = k.val + 1) then
    if s.string.splits.get k then decide (far.reachA ≠ .yes)
    else decide (near.reachA = .yes ∧ far.reachA = .no ∧ far.reachB = .yes)
  else s.string.splits.get k

/-- The changes of split indications that such an attempt makes, the lower segment first (R16, log 35). -/
def State.splitChanges (c : Call) (r : Reach) (s : State) : List (Fin 30 × Bool) :=
  ((List.finRange 30).filter (fun k => decide (s.splitNext c r k ≠ s.string.splits.get k))).map
    (fun k => (k, s.splitNext c r k))

/-- A dock record but for its lamp, a refusal shown there and its reservation: what survey, tap and tag
answers give it (R28 to R33). -/
def DockRecord.known (r : DockRecord) : DockRecord :=
  { r with lamp := .off, lampShown := false, flash := none, reservation := .none }

/-- The record of a sensed kind after it has been judged, none where it is retired (R138). -/
def FaultRecord.judged (threshold : Nat) (present : Bool) (r : FaultRecord) : Option FaultRecord :=
  match r.state, present with
  | .suspect, true =>
    if threshold ≤ r.count + 1 then some { r with state := .active, count := 0, seen := false }
    else some { r with count := r.count + 1 }
  | .suspect, false => none
  | .active, _ => some r
  | .clearing, true => some { r with state := .active, count := 0, seen := false }
  | .clearing, false => if 4 ≤ r.count + 1 then none else some { r with count := r.count + 1 }

/-- A move is written at every index below the staged move count (R157). -/
def StagedManifest.written (g : StagedManifest) : Prop :=
  g.header.moveCount ≤ 16 ∧ ∀ i, i < g.header.moveCount → g.moves.toList[i]? ≠ some none

/-- The staged manifest `g` has been activated, and each of its moves is SHORT or holds a dock that is
reserved for it (R158, R161). -/
def State.activated (g : StagedManifest) (u : State) : Prop :=
  u.manifest.staged = none ∧ u.manifest.counter = g.header.expiryMinutes * 60 ∧
  u.manifest.reload = g.header.expiryMinutes * 60 ∧
  ∃ a, u.manifest.active = some a ∧ a.phase = .active ∧ a.header = g.header ∧
    a.moves.length = g.header.moveCount ∧
    ∀ (i : Nat) (m : Move), a.moves[i]? = some m →
      m.state = .short ∨ (m.state = .reserved ∧ ∃ d, m.heldDock = some d ∧
        (u.dock d).reservation = (match m.kind with | .pickup => .pickup i | .drop => .drop i))

/-! ### Invariants -/

/-- The call queue holds at most 40 entries, and no two share a key (R18, R20). -/
def State.queueOk (s : State) : Prop :=
  s.string.queue.length ≤ 40 ∧ s.string.queue.Pairwise (fun a b => sameKey a b = false)

/-- The card table is ordered by slot with no slot and no card held twice, and at most 4 refer slots are
occupied, no two by one card (R45, R55). -/
def State.cardsOk (s : State) : Prop :=
  s.cards.Pairwise (fun a b => a.slot.val < b.slot.val ∧ a.card ≠ b.card) ∧
  s.refers.length ≤ 4 ∧ s.refers.Pairwise (fun a b => a.card ≠ b.card)

/-- The release queue holds at most 8 requests, no two for one dock (R66). -/
def State.hireOk (s : State) : Prop :=
  s.hire.queue.length ≤ 8 ∧ s.hire.queue.Pairwise (fun a b => a.dock ≠ b.dock)

/-- The trip table holds at most 64 records, no two of one bicycle (R83). -/
def State.tripsOk (s : State) : Prop :=
  s.trips.length ≤ 64 ∧ s.trips.Pairwise (fun a b => a.bike.toNat < b.bike.toNat)

/-- The fault table is ordered by slot, and no two records share a subject and a kind (R134). -/
def State.faultsOk (s : State) : Prop :=
  s.faults.records.Pairwise (fun a b =>
    a.slot.val < b.slot.val ∧ ¬(a.subject = b.subject ∧ a.kind = b.kind))

/-- Every table keeps its size and its keys. -/
def State.tablesOk (s : State) : Prop := s.cardsOk ∧ s.hireOk ∧ s.tripsOk ∧ s.faultsOk

/-- Every item lies in its range, the thresholds in their order, and the station number is 0 or in its
writable range (R181, R189, R191). -/
def Settings.ok (c : Settings) : Prop :=
  c.answerWindow ≤ 3 ∧ c.retryCount ≤ 2 ∧ c.retryEnd ≤ 1 ∧ c.flip ≤ 1 ∧
  (1 ≤ c.roundPeriod ∧ c.roundPeriod ≤ 20) ∧ c.closedSide ≤ 1 ∧ c.closedCount ≤ 30 ∧
  c.closedComplement ≤ 1 ∧ (2 ≤ c.referTimeout ∧ c.referTimeout ≤ 30) ∧
  (1 ≤ c.normalBudget ∧ c.normalBudget ≤ 3) ∧ (2 ≤ c.coilPeriod ∧ c.coilPeriod ≤ 20) ∧
  (10 ≤ c.pullWindow ∧ c.pullWindow ≤ 60) ∧ (30 ≤ c.reportWindow ∧ c.reportWindow ≤ 300) ∧
  (1 ≤ c.reportThreshold ∧ c.reportThreshold ≤ 3) ∧
  (c.critEnter < c.critExit ∧ c.critExit ≤ c.lowEnter ∧ c.lowEnter < c.lowExit ∧ c.lowExit ≤ 255) ∧
  c.stationNumber ≤ 4095 ∧ c.attentionMask ≤ 511

/-- The command result block holds no result exactly while a change command is in progress (R185, R187),
and a held result is waiting or has been fetched. -/
def Port.ok (p : Port) : Prop :=
  (p.command.content = none ↔ p.running.isSome = true) ∧ p.read.content.isSome = true

/-- STAGED is never valid and carries generation 0 (R102). -/
def FareUnit.ok (f : FareUnit) : Prop := f.staged.valid = false ∧ f.staged.generation = 0

end Sys2Proof.Machine
end

