-- ==== Sys2Proof/Certificates/Slice0/Obligations.lean ====
section
/-! DEFINITION. The statements for the provers, rule by rule of the spec. -/

open Sys2Proof Sys2Proof.Machine

/-- For every command c and state s, a step of s with c put at the front of its queue is exec of c at s,
whose queue is the rest. With an empty queue a step is one period of the reference clock, which is
the choice of log 1. -/
def Obligations.StepRunsFront : Prop :=
  (∀ (c : Instr) (s : State), step { s with pending := c :: s.pending } = exec c s) ∧
  (∀ s : State, s.pending = [] → step s = .next (clockPeriod s))

/-- With an empty queue the step counts one period of the reference clock (the choice of log 1): below
the 32,768th period the divider grows by 1 and no seconds tick is made; at the 32,768th the divider
restarts and one SECONDS_TICK is put last in the queue, whose reading is the free value of log 21,
so the statement holds for every reading. In the periods that end a whole millisecond (log 1) the
window of the call in flight (a free string has taken its next call before), the round timer, each
coil count, each pull window, each refer slot, each refusal flash and each rider report window falls
by 1 ms, and in the others none does. Of the timers that stand at 0 the first puts its expiry in the
queue, one in each period, in the order that log 26 chose: the answer window, the round timer, the
coil counts by token, the pull windows by dock, the refers oldest first, the flashes by dock, the
report windows by dock. The status byte joins the port’s trail (log 4). Station time does not change
before the tick is taken, and settings, supply, banks, cards, trips and manifests are unchanged. -/
def Obligations.ClockPeriodCounts : Prop :=
  ∀ s : State, s.pending = [] →
    ∃ t, step s = .next t ∧
      (s.clock.divider + 1 < 32768 →
        t.clock = { s.clock with divider := s.clock.divider + 1 } ∧
        (∀ r, Instr.secondsTick r ∉ t.pending)) ∧
      (32768 ≤ s.clock.divider + 1 →
        t.clock = { s.clock with divider := 0 } ∧
        (∃ r, t.pending.getLast? = some (.secondsTick r))) ∧
      t.settings = s.settings ∧ t.supply = s.supply ∧ t.fare = s.fare ∧ t.cards = s.cards ∧
      t.trips = s.trips ∧ t.manifest = s.manifest ∧
      (let k := if s.clock.divider * 1000 / 32768 < (s.clock.divider + 1) * 1000 / 32768 then 1 else 0
       t.string.flight = (takeNext s).string.flight.map (fun f => match f with
         | .broadcast e ms => .broadcast e (ms - k)
         | .call c => .call { c with remaining := c.remaining - k }) ∧
       t.string.roundTimer = s.string.roundTimer - k ∧
       (∀ i : Fin 3, t.hire.tokens.get i = match s.hire.tokens.get i with
         | .lent d (.coil ms) => .lent d (.coil (ms - k))
         | x => x) ∧
       (∀ d, t.release d = (s.release d).map (fun x => match x.phase with
         | .waiting ms => { x with phase := .waiting (ms - k) }
         | _ => x)) ∧
       t.refers = s.refers.map (fun r => { r with remaining := r.remaining - k, reaimed := false }) ∧
       (∀ d, t.dock d = { s.dock d with
         flash := (s.dock d).flash.map (fun f => { f with remaining := f.remaining - k }) }) ∧
       (∀ d, t.faultDock d = { s.faultDock d with
         report := (s.faultDock d).report.map (fun x => { x with remaining := x.remaining - k }) })) ∧
      (∃ tick, t.pending = t.dueTimers.take 1 ++ tick ∧ (tick = [] ∨ ∃ r, tick = [.secondsTick r])) ∧
      (∀ c, c ∈ t.dueTimers ↔
        (c = .answerWindowExpiry ∧ ∃ f, t.string.flight = some f ∧
          (match f with | .broadcast _ ms => ms = 0 | .call x => x.remaining = 0)) ∨
        (c = .roundTimerExpiry ∧ t.string.roundTimer = 0) ∨
        (∃ (i : Fin 3) (d : Dock), c = .coilCountExpiry i.val ∧ t.hire.tokens.get i = .lent d (.coil 0)) ∨
        (∃ (d : Dock) (x : ReleaseContext), c = .pullWindowExpiry (dockNumber d) ∧ t.release d = some x ∧
          x.phase = .waiting 0) ∨
        (∃ r ∈ t.refers, c = .referTimeout r.card ∧ r.remaining = 0) ∨
        (∃ (d : Dock) (f : RefusalFlash), c = .refusalFlashExpiry (dockNumber d) ∧
          (t.dock d).flash = some f ∧ f.remaining = 0) ∨
        (∃ (d : Dock) (x : ReportContext), c = .reportWindowExpiry (dockNumber d) ∧
          (t.faultDock d).report = some x ∧ x.remaining = 0)) ∧
      t.dueTimers =
        (match t.string.flight with
         | some (.broadcast _ ms) => if ms = 0 then [.answerWindowExpiry] else []
         | some (.call x) => if x.remaining = 0 then [.answerWindowExpiry] else []
         | none => []) ++
        (if t.string.roundTimer = 0 then [.roundTimerExpiry] else []) ++
        (List.finRange 3).flatMap (fun i => match t.hire.tokens.get i with
          | .lent _ (.coil ms) => if ms = 0 then [.coilCountExpiry i.val] else []
          | _ => []) ++
        (List.finRange 30).flatMap (fun d => match t.release d with
          | some x => if x.phase = .waiting 0 then [.pullWindowExpiry (d.val + 1)] else []
          | none => []) ++
        t.refers.flatMap (fun r => if r.remaining = 0 then [.referTimeout r.card] else []) ++
        (List.finRange 30).flatMap (fun d => match (t.dock d).flash with
          | some f => if f.remaining = 0 then [.refusalFlashExpiry (d.val + 1)] else []
          | none => []) ++
        (List.finRange 30).flatMap (fun d => match (t.faultDock d).report with
          | some x => if x.remaining = 0 then [.reportWindowExpiry (d.val + 1)] else []
          | none => []) ∧
      trailBytes t.port.trail = s.statusByte :: trailBytes s.port.trail

/-- RESET_PIN answers, from every state, the state of R22, R43, R62, R81, R100, R120, R132, R151, R174,
R179, R182 and R195, field by field, with the notice set 384 and the attention line asserted. That
the RELOCK and the SHOW wait with no call in flight, and are taken by the next event or period, is
the choice of log 10. The queue of waiting commands is the model's own and stays (log 31). Each of
the three banks has generation 0, valid false, K and W 0 and every plan undefined with every field
0; the queue holds the String Controller’s broadcast RELOCK and the Dock Monitor’s broadcast SHOW. -/
def Obligations.ResetPinState : Prop :=
  ∀ s : State, ∃ t, exec .resetPin s = .next t ∧ t.pending = s.pending ∧
    t.settings =
      { answerWindow := 2, retryCount := 1, retryEnd := 1, flip := 1, roundPeriod := 5,
        closedSide := 0, closedCount := 0, closedComplement := 0, referTimeout := 8,
        normalBudget := 3, coilPeriod := 8, pullWindow := 20, reportWindow := 120,
        reportThreshold := 2, lowEnter := 150, lowExit := 165, critEnter := 120, critExit := 135,
        stationNumber := 0, attentionMask := 511 } ∧
    t.clock = { time := 0, isSet := false, divider := 0 } ∧
    t.supply = { state := .normal, reading := none } ∧
    t.string.queue =
      [{ target := .all, verb := .relock, args := [], cross := false, originators := [.stringController] },
       { target := .all, verb := .lampShow, args := [0], cross := false, originators := [.dockMonitor] }] ∧
    t.string.flight = none ∧ t.string.round = 0 ∧ t.string.roundTimer = 500 ∧
    (∀ n : Node, t.link n =
      { preferred := homeEnd n, reachA := .untried, reachB := .untried, failures := 0,
        contact := .unknown, hostMask := 0, buttonMask := false, heldButton := false }) ∧
    (∀ k : Fin 30, t.string.splits.get k = false) ∧
    (∀ d : Dock, t.dock d =
      { occupancy := .unknown, bike := none, stampSeen := .none, unpriced := false,
        serviceMark := false, lastCondition := none, lastTap := none, reservation := .none,
        lamp := .off, lampShown := false, flash := none, resyncDue := true, heldButton := false,
        watch := false }) ∧
    t.cards = [] ∧ t.refers = [] ∧
    t.terminal =
      { lastSaleSequence := none, lastSaleOutcome := .accepted, settleCursor := 0,
        settleContext := none } ∧
    t.hire.queue = [] ∧ (∀ i : Fin 3, t.hire.tokens.get i = .free) ∧
    (∀ d, t.release d = none) ∧ (∀ d, t.cancel d = none) ∧
    t.trips = [] ∧ (∀ d : Dock, t.deferred.get d = none) ∧
    (∀ b ∈ [t.fare.current, t.fare.previous, t.fare.staged],
      b.generation = 0 ∧ b.valid = false ∧ b.k = 0 ∧ b.w = 0 ∧
      (∀ p : Fin 8, b.plans.get p =
        { unlock := 0, grace := 0, factor := 0, cap := 0, count := 0,
          band0 := { length := 0, block := 0, rate := 0 }, band1 := { length := 0, block := 0, rate := 0 },
          band2 := { length := 0, block := 0, rate := 0 }, band3 := { length := 0, block := 0, rate := 0 } })) ∧
    t.fare.activation = none ∧ t.fare.lastOutcome = .none ∧
    t.faults.records = [] ∧ t.faults.full = false ∧
    (∀ d, t.faultDock d =
      { report := none, tagFailed := false, unmark := none, markPending := none }) ∧
    t.manifest.staged = none ∧ t.manifest.active = none ∧ t.manifest.counter = 0 ∧
    t.manifest.reload = 60 ∧ t.manifest.previousEnd = none ∧
    (∀ d : Dock, t.manifest.vanUnstamp.get d = none) ∧
    t.busy = false ∧ t.ready = false ∧ t.port.discarded = false ∧ t.port.frame = false ∧
    t.port.command = { content := some { code := .ok, data := [] }, fetched := true } ∧
    t.port.read = { content := some { code := .ok, data := [] }, fetched := true } ∧
    t.noticeSet = 384 ∧ t.attention = true

/-- FRAME_BIT_COUNT_ERROR with 1 to 7 bits beyond its whole bytes answers a state in which FRAME is set
and DISCARDED, the change command in progress and the contents of both result blocks are as before;
every block but the port is unchanged. Outside a FETCH_RESULT the result blocks are wholly unchanged
(the fetched flag of a partial fetch is log 27). For every opcode that is none of the codes of
section 11.2: while no change command is BUSY the command result block takes UNKNOWN with no data
and BUSY is not set; while one is BUSY the frame is discarded and DISCARDED becomes set. Nothing
else changes. A frame of whole bytes puts in the queue the command that section 11.2 gives for its
opcode, with the bytes after it as its arguments, and UNKNOWN_OPCODE for an opcode the section does
not list; a frame with bits over puts FRAME_BIT_COUNT_ERROR; a frame of no bits puts none. -/
def Obligations.FramesRefused : Prop :=
  (∀ (s : State) (bytes : List Byte) (extra : Nat), 1 ≤ extra → extra ≤ 7 →
    ∃ t, exec (.frameBitCountError bytes extra) s = .next t ∧
      t = { s with port := t.port } ∧ t.port.frame = true ∧
      t.port.discarded = s.port.discarded ∧ t.port.running = s.port.running ∧
      t.port.command.content = s.port.command.content ∧ t.port.read.content = s.port.read.content ∧
      (bytes.head? ≠ some 0x02 → t.port.command = s.port.command ∧ t.port.read = s.port.read)) ∧
  (∀ (s : State) (opcode : Byte) (args : List Byte), knownOpcodes.contains opcode.toNat = false →
    (s.busy = false → exec (.unknownOpcode opcode args) s = .next (s.changeRefused args.length .unknown)) ∧
    (s.busy = true → exec (.unknownOpcode opcode args) s = .next (s.changeDiscarded args.length))) ∧
  (∀ (s : State) (args : List Byte), ∀ x ∈ ([
      (0x01, Instr.readStatus), (0x02, .fetchResult), (0x03, .readNotices), (0x04, .setConfig),
      (0x05, .readConfig), (0x0A, .setTime), (0x0B, .readTime), (0x0F, .reinit), (0x20, .readDock),
      (0x21, .setMask), (0x30, .findCard), (0x31, .scanCards), (0x32, .loadCard), (0x33, .retireCard),
      (0x34, .nextRefer), (0x35, .admitCard), (0x36, .refuseCard), (0x37, .remoteHire),
      (0x38, .closeRemote), (0x40, .readTrip), (0x41, .nextPriced), (0x42, .collectTrip),
      (0x50, .writePlan), (0x51, .writeStationTerms), (0x52, .activateTariff), (0x53, .readPlan),
      (0x54, .quoteFare), (0x60, .readFault), (0x61, .nextFault), (0x62, .raiseFault),
      (0x63, .clearFault), (0x70, .stageHeader), (0x71, .stageMove), (0x72, .commitManifest),
      (0x73, .suspendManifest), (0x74, .resumeManifest), (0x75, .cancelManifest), (0x76, .setExpiry),
      (0x77, .readManifest), (0x78, .ackManifest)] : List (Byte × (List Byte → Instr))),
    s.receiveFrame (x.1 :: args) 0 = { s with pending := s.pending ++ [x.2 args] }) ∧
  (∀ (s : State) (opcode : Byte) (args : List Byte), knownOpcodes.contains opcode.toNat = false →
    s.receiveFrame (opcode :: args) 0 = { s with pending := s.pending ++ [.unknownOpcode opcode args] }) ∧
  (∀ (s : State) (bytes : List Byte) (extra : Nat), extra ≠ 0 →
    s.receiveFrame bytes extra = { s with pending := s.pending ++ [.frameBitCountError bytes extra] }) ∧
  (∀ s : State, s.receiveFrame [] 0 = s)

/-- READ_STATUS with any number of further bytes sends during each byte, the opcode byte included, the
status byte as it stands when that byte begins; no record, flag or result block changes (the bytes
last sent are an output, log 25). The bytes before the last began in the clock periods before now,
one in each, back to the end of the last frame, and the rest begin now: the choice of log 4, which
the trail of the port keeps and every frame empties. FETCH_RESULT of selector 0 or 1, clocked for n
result bytes, sends two status bytes and then the first n of: code, count, data, and 00h for as long
as the host clocks. While a change command is BUSY selector 0 sends BUSY with count 0 and leaves the
block. Another selector sends BAD_ARG with count 0. The fetched flag of a sent block becomes set
once one result byte has been clocked. Nothing else changes; a frame with no selector sends one
status byte and changes nothing. -/
def Obligations.StatusAndFetchFrames : Prop :=
  (∀ (s : State) (args : List Byte),
    exec (.readStatus args) s = .next { s with port := s.framed args.length }) ∧
  ((∀ (s : State) (sel : Byte) (clocks : List Byte),
    ∃ t, exec (.fetchResult (sel :: clocks)) s = .next t ∧ t = { s with port := t.port } ∧
      t.port = { s.port with sent := t.port.sent, trail := [], command := t.port.command, read := t.port.read } ∧
      (∀ r : Result,
        ((sel = 0 ∧ s.busy = false ∧ s.port.command.content = some r) ∨
         (sel = 0 ∧ s.busy = true ∧ r = { code := .busy, data := [] }) ∨
         (sel = 1 ∧ s.port.read.content = some r) ∨
         (sel ≠ 0 ∧ sel ≠ 1 ∧ r = { code := .badArg, data := [] })) →
        t.port.sent = (s.frameStatus (clocks.length + 2)).take 2 ++
          (([byte r.code.value, byte r.data.length] ++ r.data) ++
            List.replicate clocks.length 0).take clocks.length) ∧
      (t.port.command =
        if sel = 0 ∧ s.busy = false ∧ clocks ≠ [] then { s.port.command with fetched := true }
        else s.port.command) ∧
      (t.port.read =
        if sel = 1 ∧ clocks ≠ [] then { s.port.read with fetched := true } else s.port.read)) ∧
  (∀ s : State, exec (.fetchResult []) s = .next { s with port := s.framed 0 })) ∧
  (∀ (s : State) (n : Nat), s.frameStatus n =
    ((trailBytes s.port.trail).take (n - 1)).reverse ++
      List.replicate (n - min (n - 1) (trailBytes s.port.trail).length) s.statusByte)

/-- For each of the 14 read commands with its number of argument bytes (section 11.2), any other number
places LENGTH with no data in the read result block, whether or not a change command is BUSY, runs
nothing, and clears neither DISCARDED nor FRAME. For each of the 24 change commands with its number
of argument bytes (section 11.2): while a change command is BUSY the frame is discarded, DISCARDED
becomes set and nothing else changes; otherwise a wrong number of bytes places LENGTH with no data
in the command result block, and BUSY is not set. CHANGE_COMMAND_FINISHED with a change command in
progress places the owner's result in the command result block unfetched, clears BUSY and sets
READY, and changes nothing else. With none in progress nothing happens (log 2). -/
def Obligations.FrameLengthsAndGates : Prop :=
  ((readsLength .readNotices 0 ∧ readsLength .readConfig 1 ∧ readsLength .readTime 0 ∧
  readsLength .readDock 1 ∧ readsLength .findCard 5 ∧ readsLength .scanCards 1 ∧
  readsLength .nextRefer 0 ∧ readsLength .readTrip 2 ∧ readsLength .nextPriced 0 ∧
  readsLength .readPlan 2 ∧ readsLength .quoteFare 8 ∧ readsLength .readFault 1 ∧
  readsLength .nextFault 0 ∧ readsLength .readManifest 2) ∧
  (changesGated .setConfig 3 ∧ changesGated .setTime 4 ∧ changesGated .reinit 0 ∧
  changesGated .setMask 2 ∧ changesGated .loadCard 13 ∧ changesGated .retireCard 5 ∧
  changesGated .admitCard 13 ∧ changesGated .refuseCard 5 ∧ changesGated .remoteHire 6 ∧
  changesGated .closeRemote 13 ∧ changesGated .collectTrip 6 ∧ changesGated .writePlan 29 ∧
  changesGated .writeStationTerms 3 ∧ changesGated .activateTariff 5 ∧ changesGated .raiseFault 3 ∧
  changesGated .clearFault 4 ∧ changesGated .stageHeader 10 ∧ changesGated .stageMove 5 ∧
  changesGated .commitManifest 0 ∧ changesGated .suspendManifest 0 ∧ changesGated .resumeManifest 0 ∧
  changesGated .cancelManifest 1 ∧ changesGated .setExpiry 1 ∧ changesGated .ackManifest 2)) ∧
  (∀ s : State,
    (∀ r, s.port.running = some r →
      ∃ t, exec .changeCommandFinished s = .next t ∧ t.busy = false ∧ t.ready = true ∧
        t = { s with port := { s.port with
                running := none, command := { content := some r, fetched := false } } }) ∧
    (s.port.running = none → exec .changeCommandFinished s = .next s))

/-- The buffer is ACTIVE or SUSPENDED where no other is named. An arrival, found by a SURVEY answer with
BIKE, at a dock that a DROP move holds: the move gives the dock up, reservation NONE, and is OPEN
with landed_dock there; any other reservation stays. A read tag: a VAN stamp makes van_unstamp the
bicycle, with an UNSTAMP queued, in any buffer. Where it names the manifest, and no DROP move is
DONE with that dock and bicycle, the move that landed there, else the lowest DROP move SHORT or
RESERVED with no dock named, is DONE with dock and bicycle, its dock given up and the counter
reloaded; with every move DONE the manifest is ENDED COMPLETE, no dock reserved and no crew request
queued. Any other tag migrates the move that landed there; a PICKUP RESERVED there for another
bicycle gives the dock up and is SHORT; nothing else of the manifest changes. In migration the move
takes the lowest fit dock that is not closed, RESERVED, the dock’s reservation DROP of its index, or
is SHORT. A SURVEY answer without BIKE: a move that landed there with no tag read migrates, the dock
now EMPTY counting too; a PICKUP RESERVED there becomes SHORT, and so does the one whose crew
release is abandoned in STAMPING. A coil record that becomes ACTIVE where the dock had no coil
fault: a DROP RESERVED there gives it up and migrates, a PICKUP becomes SHORT, any other move stays.
In each of these events a retry pass is due. The premises name the move that is first at the dock,
leave out the kinds of move that the same event would change besides it, the coil bits where a
confirmed coil fault would follow in the same answer, trip records that R88 ends at the same
arrival, and a held follow-on (R171). -/
def Obligations.ManifestMovesFollowDocks : Prop :=
  (∀ (s : State) (d : Dock) (x : Byte) (mark : Bool) (a : ActiveManifest),
      s.manifest.active = some a → (a.phase = .active ∨ a.phase = .suspended) → x.getLsbD 0 = true →
      ((s.dock d).occupancy = .unknown ∨ (s.dock d).occupancy = .empty ∨
        ((s.dock d).occupancy = .occupied ∧ (mark || (s.dock d).resyncDue) = true)) →
      let t := surveyAnswer d x mark s
      let w : List Move → ManifestUnit := fun l => { s.manifest with active := some { a with moves := l } }
      ((s.dock d).occupancy ≠ .occupied → t.agenda.manifest = true) ∧
      (∀ i m, (s.dock d).reservation = .drop i → a.moves[i]? = some m → m.heldDock = some d →
        let y := { m with state := .opened, heldDock := none, landedDock := some d }
        (∃ b, t.manifest.active = some b ∧ b.moves[i]? = some y) ∧ (t.dock d).reservation = .none ∧
        t.agenda.manifest = true ∧
        (x.getLsbD 5 = false → x.getLsbD 6 = false → t.manifest = w (a.moves.set i y))) ∧
      ((∀ i, (s.dock d).reservation ≠ .drop i) → x.getLsbD 5 = false → x.getLsbD 6 = false →
        t.manifest = s.manifest ∧ (t.dock d).reservation = (s.dock d).reservation)) ∧
  (∀ (s : State) (d : Dock) (bs : List Byte) (tag : TagImage) (a : ActiveManifest),
      (s.dock d).occupancy = .occupied → (s.dock d).bike = none → readTag bs = some tag →
      (∀ y, s.findTrip tag.bike = some y → y.state ≠ .releasing ∧ y.state ≠ .cancelling) →
      let t := tagAnswer d bs s
      let van : Vector (Option Bike) 30 := match tag.stamp with
        | .van _ => s.manifest.vanUnstamp.set d.val (some tag.bike) d.isLt
        | .trip _ => s.manifest.vanUnstamp
        | .none => s.manifest.vanUnstamp
      let w : List Move → ManifestUnit := fun l =>
        { s.manifest with active := some { a with moves := l }, vanUnstamp := van }
      let landed : Nat → Prop := fun j => ∃ m, a.moves[j]? = some m ∧ m.kind = .drop ∧ m.state = .opened ∧ m.landedDock = some d
      let noCoil : Dock → Prop := fun e => ∀ r ∈ s.faults.records, r.subject = .dock e →
        (r.kind = .coilOpen ∨ r.kind = .coilShort) → r.state = .suspect
      let open_ : Dock → Prop := fun e => (s.dock e).occupancy = .empty ∧ (s.link (dockNode e)).contact = .reachable ∧
        (s.dock e).reservation = .none ∧ noCoil e ∧ s.closed e = false
      let target : Dock → Prop := fun e => open_ e ∧ ∀ f, f < e → ¬open_ f
      let wrong : Nat → Prop := fun j => ∃ m, a.moves[j]? = some m ∧ m.kind = .pickup ∧ m.state = .reserved ∧
        m.heldDock = some d ∧ m.bike ≠ none ∧ m.bike ≠ some tag.bike
      let matched : Nat → Prop := fun j => ∃ m, a.moves[j]? = some m ∧ m.kind = .drop ∧ m.state = .done ∧
        m.doneDock = some d ∧ m.doneBike = some tag.bike
      let waits : Nat → Prop := fun j => ∃ m, a.moves[j]? = some m ∧ m.kind = .drop ∧
        (m.state = .short ∨ (m.state = .reserved ∧ m.dock = none))
      t.agenda.manifest = true ∧
      (∀ n, tag.stamp = .van n → s.string.flight.isSome = true → (s.string.queue.filter (fun q => decide (q.verb ≠ .survey ∧ q.verb ≠ .lampShow))).length ≤ 38 →
        ∃ q ∈ t.string.queue, q.target = .node (dockNode d) ∧ q.verb = .unstamp ∧
          .manifestUnit tag.bike ∈ q.originators) ∧
      ((∀ b, s.manifest.active = some b → b.phase ≠ .active ∧ b.phase ≠ .suspended) →
        t.manifest = { s.manifest with vanUnstamp := van }) ∧
      (s.manifest.active = some a → (a.phase = .active ∨ a.phase = .suspended) →
        (tag.stamp ≠ .van a.header.number ∨ (∃ j, matched j) ∨ ((∀ j, ¬landed j) ∧ ∀ j, ¬waits j) →
          ((∀ j, ¬landed j ∧ ¬wrong j) → t.manifest = w a.moves) ∧
          (∀ i m, (tag.stamp ≠ .van a.header.number ∨ ∃ j, matched j) → landed i → (∀ j, j < i → ¬landed j) →
            (∀ j, ¬wrong j) → a.moves[i]? = some m →
            (∀ e, target e → (t.dock e).reservation = .drop i ∧
              t.manifest = w (a.moves.set i { m with state := .reserved, heldDock := some e, landedDock := none })) ∧
            ((∀ e, ¬target e) →
              t.manifest = w (a.moves.set i { m with state := .short, landedDock := none }))) ∧
          (∀ i m, wrong i → (∀ j, j < i → ¬wrong j) → (∀ j, ¬landed j) → a.moves[i]? = some m →
            (t.dock d).reservation = .none ∧
            t.manifest = w (a.moves.set i { m with state := .short, heldDock := none }))) ∧
        (∀ i m, tag.stamp = .van a.header.number → (∀ j, ¬matched j) → a.moves[i]? = some m →
          ((landed i ∧ ∀ j, j ≠ i → ¬landed j) ∨
            ((∀ j, ¬landed j) ∧ waits i ∧ ∀ j, j < i → ¬waits j)) → (∀ j, ¬wrong j) →
          let y := { m with state := .done, heldDock := none, landedDock := none, doneDock := some d,
                            doneBike := some tag.bike, latePull := false }
          ((∃ j z, j ≠ i ∧ a.moves[j]? = some z ∧ z.state ≠ .done) →
            (∀ e, m.heldDock = some e → (t.dock e).reservation = .none) ∧
            t.manifest = { w (a.moves.set i y) with counter := s.manifest.reload }) ∧
          ((∀ j z, j ≠ i → a.moves[j]? = some z → z.state = .done) →
            (∀ g, s.manifest.staged = some g → g.held = true → s.manifest.previousEnd.isSome = true) →
            (let finished := (a.moves.set i y).map (fun z => { z with landedDock := none })
             t.manifest = { s.manifest with
              counter := s.manifest.reload, vanUnstamp := van,
              active := some { a with phase := .ended .complete, moves := finished } }) ∧
            t.hire.queue = s.hire.queue.filter (fun q => decide (q.kind = .member)) ∧
            (∀ e, (t.dock e).reservation = .none))))) ∧
  (∀ (s : State) (d : Dock) (x : Byte) (mark : Bool) (a : ActiveManifest),
      s.manifest.active = some a → (a.phase = .active ∨ a.phase = .suspended) →
      x.getLsbD 0 = false → x.getLsbD 5 = false → x.getLsbD 6 = false →
      let t := surveyAnswer d x mark s
      let w : List Move → ManifestUnit := fun l => { s.manifest with active := some { a with moves := l } }
      let pickupAt : Nat → Prop := fun j => ∃ m, a.moves[j]? = some m ∧ m.kind = .pickup ∧ m.state = .reserved ∧ m.heldDock = some d
      let landed : Nat → Prop := fun j => ∃ m, a.moves[j]? = some m ∧ m.kind = .drop ∧ m.state = .opened ∧ m.landedDock = some d
      let noCoil : Dock → Prop := fun e => ∀ r ∈ s.faults.records, r.subject = .dock e →
        (r.kind = .coilOpen ∨ r.kind = .coilShort) → r.state = .suspect
      let open_ : Dock → Prop := fun e => ((s.dock e).occupancy = .empty ∨ e = d) ∧ (s.link (dockNode e)).contact = .reachable ∧
        (s.dock e).reservation = .none ∧ noCoil e ∧ s.closed e = false
      let target : Dock → Prop := fun e => open_ e ∧ ∀ f, f < e → ¬open_ f
      ((s.dock d).occupancy ≠ .empty → t.agenda.manifest = true) ∧
      (∀ i m, (s.dock d).occupancy = .occupied → (s.dock d).bike = none → a.moves[i]? = some m →
        landed i → (∀ j, j < i → ¬landed j) → (∀ j, ¬pickupAt j) →
        (∀ e, target e → (t.dock e).reservation = .drop i ∧
          t.manifest = w (a.moves.set i { m with state := .reserved, heldDock := some e, landedDock := none })) ∧
        ((∀ e, ¬target e) → t.manifest = w (a.moves.set i { m with state := .short, landedDock := none }))) ∧
      (∀ i m, (s.dock d).occupancy = .occupied → a.moves[i]? = some m → pickupAt i →
        (∀ j, j < i → ¬pickupAt j) → (∀ j, ¬landed j) →
        (∀ b e y, (s.dock d).bike = some b → s.cancel e = some y → y.bike = b → y.kind = .member) →
        (t.dock d).reservation = .none ∧
        t.manifest = w (a.moves.set i { m with state := .short, heldDock := none })) ∧
      (∀ i m y, (s.dock d).occupancy = .releasing → s.release d = some y → y.phase = .stamping →
        y.kind = .crew i a.header.number → a.moves[i]? = some m → m.kind = .pickup → m.heldDock = some d →
        (∀ j, j < i → ¬pickupAt j) → (∀ j, ¬landed j) →
        (t.dock d).reservation = .none ∧
        t.manifest = w (a.moves.set i { m with state := .short, heldDock := none }))) ∧
  (∀ (s : State) (d : Dock) (x : Byte) (a : ActiveManifest),
      s.manifest.active = some a → (a.phase = .active ∨ a.phase = .suspended) →
      (((s.dock d).occupancy = .empty ∧ x.getLsbD 0 = false) ∨
        ((s.dock d).occupancy = .occupied ∧ x.getLsbD 0 = true ∧ (s.dock d).resyncDue = false) ∨
        ((s.dock d).occupancy = .releasing ∧ x.getLsbD 0 = true ∧
          ∀ y, s.release d = some y → y.phase ≠ .overdue)) →
      let t := surveyAnswer d x false s
      let w : List Move → ManifestUnit := fun l => { s.manifest with active := some { a with moves := l } }
      let dropAt : Nat → Prop := fun j => ∃ m, a.moves[j]? = some m ∧ m.kind = .drop ∧ m.state = .reserved ∧ m.heldDock = some d
      let pickupAt : Nat → Prop := fun j => ∃ m, a.moves[j]? = some m ∧ m.kind = .pickup ∧ m.state = .reserved ∧ m.heldDock = some d
      let noCoil : Dock → Prop := fun e => ∀ r ∈ s.faults.records, r.subject = .dock e →
        (r.kind = .coilOpen ∨ r.kind = .coilShort) → r.state = .suspect
      let open_ : Dock → Prop := fun e => ((s.dock e).occupancy = .empty ∧ e ≠ d) ∧ (s.link (dockNode e)).contact = .reachable ∧
        (s.dock e).reservation = .none ∧ noCoil e ∧ s.closed e = false
      let target : Dock → Prop := fun e => open_ e ∧ ∀ f, f < e → ¬open_ f
      let gains : Prop := noCoil d ∧ ∃ r, r.state = .suspect ∧ 4 ≤ r.count + 1 ∧
        ((s.findFault (.dock d) .coilOpen = some r ∧ x.getLsbD 5 = true) ∨
          (s.findFault (.dock d) .coilShort = some r ∧ x.getLsbD 6 = true))
      (¬gains ∨ (∀ j, ¬dropAt j ∧ ¬pickupAt j) → s.faultsOk → t.manifest = s.manifest) ∧
      (s.faultsOk → gains → t.agenda.manifest = true ∧
        (∀ i m, a.moves[i]? = some m → dropAt i → (∀ j, j < i → ¬dropAt j) → (∀ j, ¬pickupAt j) →
          (∀ e, e ≠ d → target e → (t.dock e).reservation = .drop i ∧ (t.dock d).reservation = .none ∧
            t.manifest = w (a.moves.set i { m with state := .reserved, heldDock := some e, landedDock := none })) ∧
          ((∀ e, e ≠ d → ¬open_ e) → (t.dock d).reservation = .none ∧
            t.manifest = w (a.moves.set i { m with state := .short, heldDock := none, landedDock := none }))) ∧
        (∀ i m, a.moves[i]? = some m → pickupAt i → (∀ j, j < i → ¬pickupAt j) → (∀ j, ¬dropAt j) →
          (t.dock d).reservation = .none ∧
          t.manifest = w (a.moves.set i { m with state := .short, heldDock := none }))))

/-- Where an event's own work leaves nothing to its end (log 7), the event ends with R19: a free string
takes the entry of the lowest class number, the oldest of that class, and removes it from the queue:
that entry’s call is in flight. A broadcast is sent on A and then on B and waits one answer window;
a call to a node notes the preferred end, the contact state and the settings in force, and its first
attempt is sent on that end, whole and with its answer window running (the choice of log 3). Nothing
else changes. A string in use, or an empty queue, changes nothing. The passes that follow an event
(refused requests, step 4 of R171, the manifest's retry pass, the trip table's retry pass, the next
call) leave every setting, the station time and clock-set flag, the supply state, the tariff banks,
the result blocks and flags of the port, and the waiting commands as they were, in whichever of the
orders of log 7 they run. -/
def Obligations.EventEnds : Prop :=
  (∀ s : State, s.quiet →
    (s.string.flight.isSome = true → finishEvent s = s) ∧
    (s.string.queue = [] → finishEvent s = s) ∧
    (s.string.flight = none → ∀ (pre : List QueueEntry) (e : QueueEntry) (post : List QueueEntry),
      s.string.queue = pre ++ e :: post → (∀ x ∈ pre, e.verb.cls < x.verb.cls) →
      (∀ x ∈ post, e.verb.cls ≤ x.verb.cls) → (∀ x ∈ pre ++ post, sameKey x e = false) →
      (let window := match s.settings.answerWindow with | 0 => 1 | 1 => 2 | 2 => 5 | _ => 20
       let chars := callChars e.target e.verb e.args
       (e.target = .all → finishEvent s = { s with string := { s.string with
          queue := pre ++ post, flight := some (.broadcast e window),
          lastSent := chars.map (fun x => (.A, x)) ++ chars.map (fun x => (.B, x)) } }) ∧
       (∀ n, e.target = .node n → finishEvent s = { s with string := { s.string with
          queue := pre ++ post,
          flight := some (.call
            { node := n, entry := e, noted := (s.link n).preferred, window := window,
              retries := s.settings.retryCount, retryOther := decide (s.settings.retryEnd = 1),
              flip := decide (s.settings.flip = 1), contactAtTake := (s.link n).contact, ended := 0,
              on := (s.link n).preferred, crossOf := none, phase := .answering [], remaining := window,
              splits := [] }),
          lastSent := chars.map (fun x => ((s.link n).preferred, x)) } })))) ∧
  (∀ s : State,
    (finishEvent s).settings = s.settings ∧ (finishEvent s).clock = s.clock ∧
    (finishEvent s).supply = s.supply ∧ (finishEvent s).fare = s.fare ∧
    (finishEvent s).port = s.port ∧ (finishEvent s).pending = s.pending ∧
    (finishEvent s).senseCount = s.senseCount)

/-- Whether or not a change command is BUSY: READ_NOTICES answers OK with the notice set, the sum of the
weights 1, 2, 4, .. 256 of the notices whose conditions of R192 hold, and the attention mask;
READ_CONFIG answers OK with the stored value of items 1..20 and BAD_ARG otherwise; READ_TIME answers
OK with station time, the clock-set flag, the flag of a taken reading, the supply state and the last
reading. Nothing but the port changes. The line, and ATTN in the status byte, is asserted exactly
when the notice set and the attention mask have a weight in common; the status byte shows BUSY,
READY, DISCARDED, FRAME, ATTN, SUPPLY_NOT_NORMAL, CLOCK_UNSET and NO_TARIFF in bits 0 to 7. -/
def Obligations.NoticesSettingsTimeRead : Prop :=
  ((∀ s : State, exec (.readNotices []) s =
      .next (s.readAnswered 0 { code := .ok, data := beBytes 2 s.noticeSet ++ beBytes 2 s.settings.attentionMask })) ∧
  (∀ s : State, s.noticeSet =
      (if s.refers ≠ [] then 1 else 0) +
      (if s.trips.any Trip.isPriced then 2 else 0) +
      (if ∃ d : Dock, (s.deferred.get d).isSome then 4 else 0) +
      (if s.faults.full = true ∨ ∃ r ∈ s.faults.records, r.state = .active ∧ r.seen = false then 8 else 0) +
      (if s.manifest.previousEnd.isSome = true ∨
          (match s.manifest.active with
           | some a => (match a.phase with | .ended _ => true | .active | .suspended => false)
           | none => false) = true
        then 16 else 0) +
      (if s.supply.state ≠ .normal then 32 else 0) +
      (if ∃ n : Node, (s.link n).contact = .lost then 64 else 0) +
      (if s.clock.isSet = false then 128 else 0) +
      (if s.fare.current.valid = false then 256 else 0)) ∧
  (∀ (s : State) (item : Byte), exec (.readConfig [item]) s =
      .next (s.readAnswered 1
        (if item.toNat < 1 ∨ 20 < item.toNat then { code := .badArg, data := [] }
         else { code := .ok, data := beBytes 2 (s.settings.item item.toNat) }))) ∧
  (∀ s : State, exec (.readTime []) s =
      .next (s.readAnswered 0 (Result.ok (beBytes 4 s.clock.time.toNat ++
        [byte ((if s.clock.isSet then 1 else 0) + (if s.supply.reading.isSome then 2 else 0)),
         byte (match s.supply.state with | .normal => 0 | .low => 1 | .critical => 2),
         s.supply.reading.getD 0]))))) ∧
  (∀ s : State,
    (s.attention = true ↔ s.noticeSet &&& s.settings.attentionMask ≠ 0) ∧
    (∀ i : Fin 8, s.statusByte.getLsbD i.val =
      [s.port.running.isSome,
       (s.port.command.content.isSome && !s.port.command.fetched) ||
         (s.port.read.content.isSome && !s.port.read.fetched),
       s.port.discarded, s.port.frame, s.attention, decide (s.supply.state ≠ .normal),
       !s.clock.isSet, !s.fare.current.valid].getD i.val false))

/-- READ_DOCK of a dock 1..30 answers OK with the 18 bytes of section 12.5, among them occupancy, bike
number, lamp, contact state and the closed and hireable judgements; a number outside 1..30 gives
BAD_ARG. Nothing but the port changes, whether or not a change command is BUSY. With no slot
occupied NEXT_REFER answers NOT_FOUND with no data. Otherwise it answers OK with the oldest slot:
card, dock, tap_time, remaining time in tenths of a second rounded down (the choice of log 22), and
the count of occupied slots. The slots keep standing: the same command again answers the same slot.
The image is given place by place, an absent field 0; that the tenths of a refusal are rounded down
is the choice of log 22. -/
def Obligations.DocksAndRefersRead : Prop :=
  (((∀ (s : State) (d : Dock), exec (.readDock [byte (dockNumber d)]) s =
      .next (s.readAnswered 1 { code := .ok, data := dockImage d s })) ∧
  (∀ (s : State) (n : Byte), n = 0 ∨ 30 < n.toNat →
      exec (.readDock [n]) s = .next (s.readAnswered 1 { code := .badArg, data := [] })) ∧
  (∀ (s : State) (d : Dock), (dockImage d s).length = 18 ∧
      (dockImage d s).take 4 = [byte (dockNumber d),
        (match (s.dock d).occupancy with | .unknown => 0 | .empty => 1 | .occupied => 2 | .releasing => 3)]
        ++ beBytes 2 (((s.dock d).bike.getD 0).toNat) ∧
      ((dockImage d s).getD 5 0).getLsbD 7 = s.closed d ∧
      (dockImage d s).getD 10 0 = byte (s.dock d).lamp.code ∧
      (dockImage d s).getD 13 0 = (match (s.link (dockNode d)).contact with
        | .unknown => 0 | .reachable => 1 | .doubtful => 2 | .lost => 3) ∧
      (dockImage d s).getD 17 0 = (if s.hireable d then 1 else 0))) ∧
  ((∀ s : State, s.refers = [] → exec (.nextRefer []) s = .next (s.readAnswered 0 { code := .notFound, data := [] })) ∧
  (∀ (s : State) (r : ReferSlot) (rest : List ReferSlot), s.refers = r :: rest →
      exec (.nextRefer []) s = .next (s.readAnswered 0 (Result.ok (beBytes 5 r.card.toNat ++ [byte (dockNumber r.dock)] ++ beBytes 4 r.tapTime.toNat ++
        beBytes 2 (r.remaining / 100) ++ [byte (rest.length + 1)])))))) ∧
  (∀ (s : State) (d : Dock),
      let r := s.dock d
      let l := s.link (dockNode d)
      dockImage d s = [byte (d.val + 1),
        (match r.occupancy with | .unknown => 0 | .empty => 1 | .occupied => 2 | .releasing => 3)] ++
      beBytes 2 (match r.bike with | some b => b.toNat | none => 0) ++
      [(match r.stampSeen with | .none => 0 | .trip => 1 | .van => 2),
       byte ((if r.unpriced then 1 else 0) + (if r.serviceMark then 2 else 0) +
         (if r.lastCondition.isSome then 4 else 0) + (if r.lastTap.isSome then 8 else 0) +
         (if r.lampShown then 16 else 0) + (if r.resyncDue then 32 else 0) +
         (if r.heldButton then 64 else 0) + (if s.closed d then 128 else 0)),
       (match r.lastCondition with | some x => x | none => 0),
       (match r.lastTap with | some x => x | none => 0),
       (match r.reservation with | .none => 0 | .pickup _ => 1 | .drop _ => 2),
       (match r.reservation with | .none => 0 | .pickup i => byte i | .drop i => byte i),
       (match r.lamp with
        | .off => 0 | .green => 1 | .greenBlink => 2 | .amber => 3 | .amberBlink => 4 | .red => 5
        | .redFlash n => byte (8 + n)),
       (match r.flash with | some f => byte f.code | none => 0),
       (match r.flash with | some f => byte (f.remaining / 100) | none => 0),
       (match l.contact with | .unknown => 0 | .reachable => 1 | .doubtful => 2 | .lost => 3),
       (match l.preferred with | .A => 0 | .B => 1),
       byte l.failures,
       (if l.buttonMask then l.hostMask ||| 16 else l.hostMask),
       (if s.hireable d then 1 else 0)])

/-- FIND_CARD answers OK with the card entry image where the table holds an entry with the card number,
and NOT_FOUND with no data otherwise. SCAN_CARDS answers OK with the image, whose first byte is the
slot, of the entry in the lowest occupied slot at or above the index, and NOT_FOUND with no data
where no slot at or above it is occupied. Both read the table as it stands when they run, whether or
not a change command is BUSY, and change nothing but the read result block and the port flags. The
table is one ordered by slot without a card twice, which every step keeps (StepKeepsTables). The
image is the 28 bytes of section 12.5, place by place, an absent field 0. -/
def Obligations.CardsFoundAndScanned : Prop :=
  ((∀ (s : State) (e : CardEntry), s.cardsOk → e ∈ s.cards →
      exec (.findCard (beBytes 5 e.card.toNat)) s =
        .next (s.readAnswered 5 { code := .ok, data := cardImage e s })) ∧
  (∀ (s : State) (args : List Byte), args.length = 5 → (∀ e ∈ s.cards, e.card.toNat ≠ field args 0 5) →
      exec (.findCard args) s = .next (s.readAnswered 5 { code := .notFound, data := [] })) ∧
  (∀ (s : State) (e : CardEntry) (i : Byte), s.cardsOk → e ∈ s.cards → i.toNat ≤ e.slot.val →
      (∀ x ∈ s.cards, i.toNat ≤ x.slot.val → e.slot.val ≤ x.slot.val) →
      exec (.scanCards [i]) s = .next (s.readAnswered 1 { code := .ok, data := cardImage e s })) ∧
  (∀ (s : State) (i : Byte), (∀ x ∈ s.cards, x.slot.val < i.toNat) →
      exec (.scanCards [i]) s = .next (s.readAnswered 1 { code := .notFound, data := [] })) ∧
  (∀ (s : State) (e : CardEntry), (cardImage e s).head? = some (byte e.slot.val))) ∧
  (∀ (s : State) (e : CardEntry), cardImage e s =
      [byte e.slot.val] ++ beBytes 5 e.card.toNat ++
      [(match e.cls with | .member => 0 | .guest => 1 | .crew => 2), byte e.plan.val,
       (if e.blocked then 1 else 0),
       (match e.activity with | .idle => 0 | .pending => 1 | .riding => 2 | .settling => 3),
       byte ((if e.validUntil.isSome then 1 else 0) + (if e.link.isSome then 2 else 0) +
         (if e.queuedDock.isSome then 4 else 0) + (if e.guest.isSome then 8 else 0) +
         (if ∃ r ∈ s.refers, r.card = e.card then 16 else 0))] ++
      beBytes 4 (match e.validUntil with | some v => v.toNat | none => 0) ++
      (match e.link with
       | some x => beBytes 2 x.1.toNat ++ beBytes 4 x.2.toNat
       | none => [0, 0, 0, 0, 0, 0]) ++
      [(match e.queuedDock with | some d => byte (d.val + 1) | none => 0)] ++
      (match e.guest with
       | some g => beBytes 2 g.hold ++ beBytes 2 g.captured ++ beBytes 2 g.saleSequence
       | none => [0, 0, 0, 0, 0, 0]))

/-- READ_TRIP of bike number 0 is refused with BAD_ARG; of a number that keys a record it answers OK
with the image, whatever the state; otherwise NOT_FOUND with no data. NEXT_PRICED answers NOT_FOUND
with no data where no record is PRICED, and otherwise OK with the image of the PRICED record of
oldest end_time, the lower bike number among equals, and the count of PRICED records; the PRICED
notice holds exactly while a record is PRICED. Both are answered whether or not a change command is
BUSY, and leave every record as it is, so the same command again gives the same record. The table is
one of rising bike numbers, which every step keeps (StepKeepsTables). The image is the 31 bytes of
section 12.5, place by place, an absent field 0. -/
def Obligations.TripsRead : Prop :=
  ((∀ s : State, exec (.readTrip [0, 0]) s = .next (s.readAnswered 2 { code := .badArg, data := [] })) ∧
  (∀ (s : State) (r : TripRecord), s.tripsOk → r ∈ s.trips → r.bike ≠ 0 →
      exec (.readTrip (beBytes 2 r.bike.toNat)) s =
        .next (s.readAnswered 2 { code := .ok, data := tripImage r })) ∧
  (∀ (s : State) (b : Bike), b ≠ 0 → (∀ r ∈ s.trips, r.bike ≠ b) →
      exec (.readTrip (beBytes 2 b.toNat)) s = .next (s.readAnswered 2 { code := .notFound, data := [] })) ∧
  (∀ s : State, (∀ r ∈ s.trips, ∀ p, r.state ≠ .priced p) →
      exec (.nextPriced []) s = .next (s.readAnswered 0 { code := .notFound, data := [] })) ∧
  (∀ (s : State) (r : TripRecord) (p : Pricing), s.tripsOk → r ∈ s.trips → r.state = .priced p →
      (∀ x ∈ s.trips, ∀ q, x.state = .priced q →
        timeAgo s.clock.time q.endTime < timeAgo s.clock.time p.endTime ∨
        (q.endTime = p.endTime ∧ r.bike.toNat ≤ x.bike.toNat)) →
      exec (.nextPriced []) s = .next (s.readAnswered 0 (Result.ok (tripImage r ++ [byte (s.trips.filter Trip.isPriced).length])))) ∧
  (∀ s : State, s.pricedNotice = true ↔ ∃ r ∈ s.trips, ∃ p, r.state = .priced p)) ∧
  (∀ r : TripRecord, tripImage r =
      (let has := (if r.releaseDock.isSome then 1 else 0) + (if r.unstampDock.isSome then 32 else 0)
       let dock : Option Dock → Byte := fun x => match x with | some d => byte (d.val + 1) | none => 0
       beBytes 2 r.bike.toNat ++ beBytes 4 r.stamp.start.toNat ++ beBytes 5 r.stamp.card.toNat ++
       [byte r.stamp.plan.val, byte r.stamp.generation.val] ++ beBytes 2 r.stamp.ceiling ++
       beBytes 2 r.stamp.origin ++
       (match r.state with
        | .releasing => [0, byte has, dock r.releaseDock, 0] ++ List.replicate 8 0
        | .out => [1, byte has, dock r.releaseDock, 0] ++ List.replicate 8 0
        | .cancelling => [2, byte has, dock r.releaseDock, 0] ++ List.replicate 8 0
        | .priced p =>
          [3, byte (has + 30), dock r.releaseDock, byte (p.returnDock.val + 1)] ++
          beBytes 4 p.endTime.toNat ++ beBytes 2 p.fare ++
          beBytes 2 ((if p.flags.grace then 1 else 0) + (if p.flags.capped then 2 else 0) +
            (if p.flags.incentive then 4 else 0) + (if p.flags.ceiling then 8 else 0) +
            (if p.flags.saturated then 16 else 0) + (if p.flags.skew then 32 else 0) +
            (if p.flags.overlong then 64 else 0) + (if p.flags.genFallback then 128 else 0) +
            (if p.flags.planFallback then 256 else 0))) ++
       [byte ((if r.foreign then 1 else 0) + (if r.latePull then 2 else 0) + (if r.orphan then 4 else 0) +
          (if r.unstamped then 8 else 0)),
        dock r.unstampDock]))

/-- READ_PLAN of bank 0, 1 or 2 (CURRENT, PREVIOUS, STAGED) and plan 0..7 answers OK with the 32 bytes
of section 12.5; another bank or plan gives BAD_ARG. An invalid bank is read like any other. Nothing
but the port changes. READ_MANIFEST of buffer 0 (active) or 1 (staged) and move index 0..15 answers
OK with the 32 bytes of section 12.5; another buffer or index gives BAD_ARG. Nothing but the port
changes. Each image is given place by place; the places of an IDLE or EMPTY buffer, which section
12.5 leaves without content, read 0 (log 18). -/
def Obligations.TariffsAndManifestsRead : Prop :=
  (((∀ (s : State) (plan : Fin 8),
      exec (.readPlan [0, byte plan.val]) s = .next (s.readAnswered 2
        { code := .ok, data := planImage 0 s.fare.current (s.fare.current.plans.get plan) s.fare }) ∧
      exec (.readPlan [1, byte plan.val]) s = .next (s.readAnswered 2
        { code := .ok, data := planImage 1 s.fare.previous (s.fare.previous.plans.get plan) s.fare }) ∧
      exec (.readPlan [2, byte plan.val]) s = .next (s.readAnswered 2
        { code := .ok, data := planImage 2 s.fare.staged (s.fare.staged.plans.get plan) s.fare })) ∧
  (∀ (s : State) (bank plan : Byte), 2 < bank.toNat ∨ 7 < plan.toNat →
      exec (.readPlan [bank, plan]) s = .next (s.readAnswered 2 { code := .badArg, data := [] })) ∧
  (∀ (role : Nat) (b : Bank) (p : Plan) (f : FareUnit), (planImage role b p f).length = 32)) ∧
  ((∀ (s : State) (i : Byte), i.toNat ≤ 15 →
      exec (.readManifest [0, i]) s = .next (s.readAnswered 2 { code := .ok, data := activeImage s.manifest i.toNat }) ∧
      exec (.readManifest [1, i]) s = .next (s.readAnswered 2 { code := .ok, data := stagedImage s.manifest i.toNat })) ∧
  (∀ (s : State) (b i : Byte), 1 < b.toNat ∨ 15 < i.toNat →
      exec (.readManifest [b, i]) s = .next (s.readAnswered 2 { code := .badArg, data := [] })) ∧
  (∀ (m : ManifestUnit) (i : Nat), (activeImage m i).length = 32 ∧ (stagedImage m i).length = 32))) ∧
  (∀ (role : Nat) (b : Bank) (p : Plan) (f : FareUnit), planImage role b p f =
      [byte (role + (if b.valid then 4 else 0) + (if f.activation.isSome then 8 else 0) +
         (match f.lastOutcome with | .none => 0 | .taken => 16 | .withdrawn => 32)),
       byte (b.generation.val + 16 * (match f.activation with | some x => x.1.val | none => 0)),
       byte (b.w + 32 * p.count)] ++
      beBytes 2 b.k ++ beBytes 4 (match f.activation with | some x => x.2.toNat | none => 0) ++
      beBytes 2 p.unlock ++ beBytes 2 p.grace ++ [byte p.factor] ++ beBytes 2 p.cap ++
      beBytes 8 (p.band0.length + 2 ^ 11 * p.band1.length + 2 ^ 22 * p.band2.length +
        2 ^ 33 * p.band0.block + 2 ^ 39 * p.band1.block + 2 ^ 45 * p.band2.block + 2 ^ 51 * p.band3.block) ++
      beBytes 2 p.band0.rate ++ beBytes 2 p.band1.rate ++ beBytes 2 p.band2.rate ++ beBytes 2 p.band3.rate) ∧
  (∀ (m : ManifestUnit) (i : Nat),
      let head : ManifestHeader → List Byte := fun h =>
        beBytes 2 h.number ++ beBytes 5 h.crewCard.toNat ++
        [byte h.expiryMinutes, (if h.followOn then 1 else 0), byte h.moveCount]
      let before : List Byte := match m.previousEnd with
        | some e => beBytes 2 e.number ++
            [(match e.outcome with | .complete => 0 | .expired => 1 | .cancelled => 2), byte e.doneCount]
        | none => [0, 0, 0, 0]
      let dock : Option Dock → Byte := fun x => match x with | some d => byte (d.val + 1) | none => 0
      let bike : Option Bike → List Byte := fun x => match x with | some b => beBytes 2 b.toNat | none => [0, 0]
      let move : Option Move → List Byte := fun x => match x with
        | some y =>
          [1, (match y.kind with | .pickup => 0 | .drop => 1), dock y.dock] ++ bike y.bike ++
          [(match y.state with | .opened => 0 | .reserved => 1 | .releasing => 2 | .done => 3 | .short => 4),
           dock y.heldDock, dock y.landedDock, dock y.doneDock] ++ bike y.doneBike ++
          [(if y.latePull then 1 else 0)]
        | none => List.replicate 12 0
      activeImage m i =
        (match m.active with
         | some a =>
           (match a.phase with
            | .active => [1, 0]
            | .suspended => [2, 0]
            | .ended .complete => [3, 0]
            | .ended .expired => [3, 1]
            | .ended .cancelled => [3, 2]) ++ head a.header
         | none => List.replicate 12 0) ++
        beBytes 2 m.counter ++ beBytes 2 m.reload ++ before ++
        move (match m.active with | some a => a.moves[i]? | none => none) ∧
      stagedImage m i =
        (match m.staged with
         | some g => [1, (if g.held then 1 else 0)] ++ head g.header
         | none => List.replicate 12 0) ++
        List.replicate 4 (0 : Byte) ++ before ++
        move (match m.staged with
          | some g => if i < g.header.moveCount then (g.moves.toList[i]?).getD none else none
          | none => none))

/-- QUOTE_FARE is refused with BAD_ARG for a plan outside 0..7 or a mode outside 0..2, then with STATE
where CURRENT is not valid; it answers NOT_FOUND with no data where neither the plan nor plan 0 is
defined. Otherwise it answers OK with the fare stages run on the plan, or on plan 0 with
PLAN_FALLBACK, with the duration given, the incentive not applied in mode 0, applied under R116 with
all hireable docks in mode 1, and applied whenever K is above 0 in mode 2. Nothing but the port
changes. -/
def Obligations.FareQuoted : Prop :=
  (∀ (s : State) (d : Time) (plan ceiling mode : Nat), plan < 256 → ceiling < 65536 → mode < 256 →
      (7 < plan ∨ 2 < mode →
        exec (.quoteFare (beBytes 4 d.toNat ++ [byte plan] ++ beBytes 2 ceiling ++ [byte mode])) s =
          .next (s.readAnswered 8 { code := .badArg, data := [] })) ∧
      (plan ≤ 7 → mode ≤ 2 → s.fare.current.valid = false →
        exec (.quoteFare (beBytes 4 d.toNat ++ [byte plan] ++ beBytes 2 ceiling ++ [byte mode])) s =
          .next (s.readAnswered 8 { code := .state, data := [] })) ∧
      (∀ p : Fin 8, p.val = plan → mode ≤ 2 → s.fare.current.valid = true →
        exec (.quoteFare (beBytes 4 d.toNat ++ [byte plan] ++ beBytes 2 ceiling ++ [byte mode])) s =
          .next (s.readAnswered 8
            (let use : Fin 8 := if (s.fare.current.plan p).count ≠ 0 then p else 0
             let incentive : Bool :=
               if mode = 0 then false
               else if mode = 1 then
                 decide (0 < s.fare.current.k ∧ s.hireableCount < s.fare.current.w ∧ s.dropToDo = false)
               else decide (0 < s.fare.current.k)
             let x := computeFare (s.fare.current.plan use) s.fare.current.k d.toNat ceiling incentive false
               (decide ((s.fare.current.plan p).count = 0))
             if (s.fare.current.plan p).count = 0 ∧ (s.fare.current.plan 0).count = 0 then
               { code := .notFound, data := [] }
             else
               (Result.ok (beBytes 2 x.fare ++ beBytes 2 (fareFlagBits x.flags) ++
                   [byte s.fare.current.generation.val, byte use.val] ++ beBytes 2 x.minutes ++
                   [byte x.days] ++ beBytes 4 x.raw))))))

/-- READ_FAULT of a slot above 31 is refused with BAD_ARG and of a free slot with NOT_FOUND; of an
occupied slot it answers OK with the record's image, its seen as before, and the record becomes
seen. NEXT_FAULT answers NOT_FOUND where no record is ACTIVE and unseen; otherwise OK with the image
of the ACTIVE unseen record of oldest first_time, the lower slot among equals, and the count of
ACTIVE unseen records before; that record becomes seen. The table is one of rising slots, which
every step keeps (StepKeepsTables). The image is the 29 bytes of section 12.5, place by place. -/
def Obligations.FaultsRead : Prop :=
  ((∀ (s : State) (n : Byte), 31 < n.toNat →
      exec (.readFault [n]) s = .next (s.readAnswered 1 { code := .badArg, data := [] })) ∧
  (∀ (s : State) (n : Byte), n.toNat ≤ 31 → (∀ r ∈ s.faults.records, r.slot.val ≠ n.toNat) →
      exec (.readFault [n]) s = .next (s.readAnswered 1 { code := .notFound, data := [] })) ∧
  (∀ (s : State) (r : FaultRecord), s.faultsOk → r ∈ s.faults.records →
      exec (.readFault [byte r.slot.val]) s =
        .next { s with
          faults :=
            { s.faults with records := s.faults.records.map (fun x => if x = r then { x with seen := true } else x) },
          port := (s.readAnswered 1 { code := .ok, data := faultImage r }).port }) ∧
  (∀ s : State, (∀ r ∈ s.faults.records, r.state = .active → r.seen = true) →
      exec (.nextFault []) s = .next (s.readAnswered 0 { code := .notFound, data := [] })) ∧
  (∀ (s : State) (r : FaultRecord), s.faultsOk → r ∈ s.faults.records → r.state = .active → r.seen = false →
      (∀ x ∈ s.faults.records, x.state = .active → x.seen = false →
        timeAgo s.clock.time x.firstTime < timeAgo s.clock.time r.firstTime ∨
        (x.firstTime = r.firstTime ∧ r.slot.val ≤ x.slot.val)) →
      exec (.nextFault []) s =
        .next { s with
          faults :=
            { s.faults with records := s.faults.records.map (fun x => if x = r then { x with seen := true } else x) },
          port := (s.readAnswered 0 (Result.ok (faultImage r ++
            [byte (s.faults.records.filter (fun x => decide (x.state = .active) && !x.seen)).length]))).port })) ∧
  (∀ r : FaultRecord, faultImage r =
      [byte r.slot.val, (match r.subject with | .dock _ => 0 | .bike _ => 1 | .segment _ => 2 | .terminal => 3)] ++
      beBytes 2 (match r.subject with
        | .dock d => d.val + 1 | .bike b => b.toNat | .segment k => k.val | .terminal => 0) ++
      [(match r.kind with
        | .coilOpen => 0 | .coilShort => 1 | .tagUnreadable => 2 | .buttonStuck => 3 | .forcedRemoval => 4
        | .noContact => 5 | .lineSplit => 6 | .riderReport => 7 | .serviceMark => 8 | .hostReported => 9),
       (match r.state with | .suspect => 0 | .active => 1 | .clearing => 2),
       (match r.kind with | .riderReport => 1 | .serviceMark => 2 | .hostReported => 3 | _ => 0),
       byte r.count, byte r.reporters.length] ++
      beBytes 5 (r.reporters.getD 0 0).toNat ++ beBytes 5 (r.reporters.getD 1 0).toNat ++
      beBytes 5 (r.reporters.getD 2 0).toNat ++ beBytes 4 r.firstTime.toNat ++ [(if r.seen then 1 else 0)])

/-- An item outside 1..20 is refused with BAD_ARG, and item 19 with STATE while the trip table holds any
record; nothing is then changed. Otherwise the value brought into the item's range is stored, the
data give it, the code is OK where it is the value written and CLAMPED otherwise, and every other
item keeps its value. For items 6 to 8 every lamp is selected again, for item 10 a grant pass runs,
and for the other items nothing else changes. The change command is taken with no other BUSY. Items
1 to 5, 9 to 14, 19 and 20 take the nearer end of the range of section 11.6 (items 6 to 8 and 15 to
18: ClosedRange and SettingRanges). A dock number outside 1..30, or a mask that names BIKE, LOCKED
or COIL, is refused with BAD_ARG and nothing is changed. Otherwise the host mask of that dock
becomes the set named, whole, the result is OK with no data, and nothing else changes: the fault
button mask stays in force. -/
def Obligations.SettingWritten : Prop :=
  ((∀ (s : State) (item : Byte) (v : Nat), v < 65536 → s.busy = false →
    (item.toNat < 1 ∨ 20 < item.toNat →
      changes (.setConfig (item :: beBytes 2 v)) 3 { code := .badArg, data := [] } s s) ∧
    (item = 19 → s.trips ≠ [] →
      changes (.setConfig (item :: beBytes 2 v)) 3 { code := .state, data := [] } s s) ∧
    (1 ≤ item.toNat → item.toNat ≤ 20 → (item = 19 → s.trips = []) →
      ∃ u, changes (.setConfig (item :: beBytes 2 v)) 3
          { code := if s.settings.clamp item.toNat v = v then .ok else .clamped,
            data := beBytes 2 (s.settings.clamp item.toNat v) } u s ∧
        u.settings.item item.toNat = s.settings.clamp item.toNat v ∧
        (∀ k, 1 ≤ k → k ≤ 20 → k ≠ item.toNat → u.settings.item k = s.settings.item k) ∧
        (item = 6 ∨ item = 7 ∨ item = 8 →
          u = selectAllLamps { s.taking 3 with settings := u.settings }) ∧
        (item = 10 → u = grantPass { s.taking 3 with settings := u.settings }) ∧
        (item.toNat ≠ 6 → item.toNat ≠ 7 → item.toNat ≠ 8 → item.toNat ≠ 10 →
          u = { s with settings := u.settings, port := u.port }))) ∧
  (∀ (c : Settings) (v : Nat),
      c.clamp 1 v = min v 3 ∧ c.clamp 2 v = min v 2 ∧ c.clamp 3 v = min v 1 ∧ c.clamp 4 v = min v 1 ∧
      c.clamp 5 v = max 1 (min v 20) ∧ c.clamp 9 v = max 2 (min v 30) ∧ c.clamp 10 v = max 1 (min v 3) ∧
      c.clamp 11 v = max 2 (min v 20) ∧ c.clamp 12 v = max 10 (min v 60) ∧
      c.clamp 13 v = max 30 (min v 300) ∧ c.clamp 14 v = max 1 (min v 3) ∧
      c.clamp 19 v = max 1 (min v 4095) ∧ c.clamp 20 v = min v 511)) ∧
  ((∀ (s : State) (d : Dock) (m : Byte), s.busy = false → m.getLsbD 0 = false → m.getLsbD 1 = false →
      m.getLsbD 2 = false →
      changes (.setMask [byte (dockNumber d), m]) 2 { code := .ok, data := [] }
        (s.setLink (dockNode d) (fun l => { l with hostMask := m })) s) ∧
  (∀ (s : State) (n m : Byte), s.busy = false →
      n = 0 ∨ 30 < n.toNat ∨ m.getLsbD 0 = true ∨ m.getLsbD 1 = true ∨ m.getLsbD 2 = true →
      changes (.setMask [n, m]) 2 { code := .badArg, data := [] } s s))

/-- With the thresholds in order, a value written to one of them is clamped into CRIT_EXIT..LOW_EXIT −
1, LOW_ENTER + 1..255, 0..CRIT_EXIT − 1 or CRIT_ENTER + 1..LOW_ENTER for items 15 to 18: no range is
empty, a value below takes the lower limit and one above the upper, the other three do not move, and
the order CRIT_ENTER < CRIT_EXIT ≤ LOW_ENTER < LOW_EXIT is kept. The reset values are 150, 165, 120
and 135. SET_CONFIG stores the value so obtained, answers CLAMPED where it differs from the value
written and OK where it does not, judges no supply state, and the value is read back with
READ_CONFIG. -/
def Obligations.SettingRanges : Prop :=
  (∀ c : Settings, c.critEnter < c.critExit → c.critExit ≤ c.lowEnter → c.lowEnter < c.lowExit →
      c.lowExit ≤ 255 → ∀ v : Nat,
      (c.clamp 15 v = max c.critExit (min v (c.lowExit - 1))) ∧
      (c.clamp 16 v = max (c.lowEnter + 1) (min v 255)) ∧
      (c.clamp 17 v = min v (c.critExit - 1)) ∧
      (c.clamp 18 v = max (c.critEnter + 1) (min v c.lowEnter)) ∧
      (c.critExit ≤ c.lowExit - 1 ∧ c.lowEnter + 1 ≤ 255 ∧ 0 ≤ c.critExit - 1 ∧ c.critEnter + 1 ≤ c.lowEnter) ∧
      (∀ i ∈ [15, 16, 17, 18],
        (c.setItem i (c.clamp i v)).critEnter < (c.setItem i (c.clamp i v)).critExit ∧
        (c.setItem i (c.clamp i v)).critExit ≤ (c.setItem i (c.clamp i v)).lowEnter ∧
        (c.setItem i (c.clamp i v)).lowEnter < (c.setItem i (c.clamp i v)).lowExit ∧
        (∀ k ∈ [15, 16, 17, 18], k ≠ i → (c.setItem i (c.clamp i v)).item k = c.item k))) ∧
  (State.reset.settings.item 15 = 150 ∧ State.reset.settings.item 16 = 165 ∧
    State.reset.settings.item 17 = 120 ∧ State.reset.settings.item 18 = 135) ∧
  (∀ (s : State) (i : Byte) (v : Nat), i = 15 ∨ i = 16 ∨ i = 17 ∨ i = 18 → v < 65536 → s.busy = false →
      changes (.setConfig (i :: beBytes 2 v)) 3
        { code := if s.settings.clamp i.toNat v = v then .ok else .clamped,
          data := beBytes 2 (s.settings.clamp i.toNat v) }
        { s with settings := s.settings.setItem i.toNat (s.settings.clamp i.toNat v) } s) ∧
  (∀ (s : State) (i : Byte), i = 15 ∨ i = 16 ∨ i = 17 ∨ i = 18 →
      exec (.readConfig [i]) s =
        .next (s.readAnswered 1 { code := .ok, data := beBytes 2 (s.settings.item i.toNat) }))

/-- SET_TIME of any value is taken: its data give station time and the clock-set flag as they stood
before, station time becomes the value and the flag becomes true; the tick keeps its phase; a
pending activation that is then reached is put in force, and otherwise the banks stay. Where the
flag was false before, the Trip Table's retry pass is due at the end of the event. Settings, supply,
cards, trips and every other record are as before the event's end. -/
def Obligations.TimeSet : Prop :=
  ∀ (s : State) (v : Time), s.busy = false →
    ∃ u, changes (.setTime (beBytes 4 v.toNat)) 4
        { code := .ok, data := beBytes 4 s.clock.time.toNat ++ [if s.clock.isSet then 1 else 0] } u s ∧
      u.clock = { time := v, isSet := true, divider := s.clock.divider } ∧
      (s.clock.isSet = false → u.agenda.trips = true) ∧
      (∀ g t, s.fare.activation = some (g, t) → (v - t).toNat < 2 ^ 31 → s.fare.staged.anyDefined = true →
        u.fare = s.fare.rotate g ∧ u.agenda.trips = true) ∧
      (∀ g t, s.fare.activation = some (g, t) → (v - t).toNat < 2 ^ 31 → s.fare.staged.anyDefined = false →
        u.fare = { s.fare with activation := none, lastOutcome := .withdrawn }) ∧
      ((∀ g t, s.fare.activation = some (g, t) → 2 ^ 31 ≤ (v - t).toNat) → u.fare = s.fare) ∧
      u = { s with clock := u.clock, fare := u.fare, agenda := u.agenda, port := u.port }

/-- With no change command BUSY, REINIT answers OK with no data. One broadcast RELOCK is in flight,
taken within the command (log 9), and one broadcast SHOW with pattern OFF waits. Items 1 to 5 take
their reset values, every other setting, the clock, the supply state, the banks and the read result
block are kept. Preferred ends and masks are kept, every other link field is as after the reset pin.
The release queue, tokens, contexts, refer slots, deferred list and manifest buffers are empty;
RELEASING trips are retired and PENDING cards return to IDLE; OUT, CANCELLING and PRICED trips are
kept without an unstamp_dock; NO_CONTACT and LINE_SPLIT records are retired which makes FAULT_FULL
false where there was one, and every other fault record kept; every dock record is that of R43. -/
def Obligations.ReinitWork : Prop :=
  ∀ s : State, s.busy = false → s.quiet →
    ∃ t, exec (.reinit []) s = .next t ∧
      t.port = (s.changeTaken 0 { code := .ok, data := [] }).port ∧
      t.pending = s.pending ∧ t.clock = s.clock ∧ t.supply = s.supply ∧ t.fare = s.fare ∧
      t.settings = { s.settings with answerWindow := 2, retryCount := 1, retryEnd := 1, flip := 1, roundPeriod := 5 } ∧
      (∃ e, t.string.flight = some (.broadcast e 5) ∧ e.target = .all ∧ e.verb = .relock) ∧
      (∀ e ∈ t.string.queue, e.verb = .lampShow) ∧
      (∃ e ∈ t.string.queue, e.target = .all ∧ e.verb = .lampShow ∧ e.args = [0]) ∧
      t.string.round = 0 ∧ t.string.roundTimer = 500 ∧
      (∀ k : Fin 30, t.string.splits.get k = false) ∧
      (∀ n : Node, t.link n = { LinkRecord.reset n with
        preferred := (s.link n).preferred, hostMask := (s.link n).hostMask,
        buttonMask := (s.link n).buttonMask }) ∧
      (∀ d, t.dock d = { DockRecord.reset with watch := true }) ∧
      t.hire = HireUnit.reset ∧ t.refers = [] ∧ t.terminal = { s.terminal with settleContext := none } ∧
      t.cards = s.cards.map (fun e =>
        if e.activity = .pending then { e with queuedDock := none, activity := .idle, link := none }
        else { e with queuedDock := none }) ∧
      t.trips = (s.trips.filter (fun r => decide (r.state ≠ .releasing))).map (fun r => { r with unstampDock := none }) ∧
      (∀ d : Dock, t.deferred.get d = none) ∧
      t.faults.records = s.faults.records.filter (fun r => decide (r.kind ≠ .noContact ∧ r.kind ≠ .lineSplit)) ∧
      t.faults.full = (s.faults.full &&
        s.faults.records.all (fun r => decide (r.kind ≠ .noContact ∧ r.kind ≠ .lineSplit))) ∧
      (∀ d, t.faultDock d = { s.faultDock d with report := none, tagFailed := false, markPending := none }) ∧
      t.manifest = ManifestUnit.reset

/-- A tap of a CREW entry shows refusal 1 where it is blocked or past its valid_until, and else goes to
the crew decision. With the active buffer not ACTIVE, or a crew_card other than 0 and the card,
refusal 7. At a dock PICKUP-reserved by a move in RELEASING nothing; by a move in RESERVED a crew
request: refusal 5 at CRITICAL supply, refusal 4 with 8 requests queued or one for the dock, and
otherwise it joins the release queue and a grant pass follows. At any other dock refusal 7, unless
its bicycle has an ACTIVE bike fault: then every record of the bicycle is retired, FAULT_FULL
becomes false, the dock’s unmark becomes the bicycle, a MARK that clears is queued and pending where
the tag carries the mark (the dock OCCUPIED and not LOST, that value not pending), and the Manifest
Unit is told. The data of ADMIT_CARD give the code shown, 0 where the tap went on (log 33). A crew
request at the head, with fewer tokens lent than the budget, is dropped with refusal 7 where the
manifest is not ACTIVE or the dock’s reservation is not PICKUP of its move, whatever else fails (the
choice of log 38), and else with refusal 3 where the dock is not OCCUPIED with a bike number, no
stamp and not unpriced, or not REACHABLE; the moves keep their states. Otherwise it is granted: the
lowest free token (the choice of log 19) is LENT to the dock, STAMP_PENDING; the move is RELEASING;
the dock is RELEASING; the context is that of the crew, in STAMPING, and no cancel context is left;
and a STAMP with a VAN stamp of the station number, the time now, the card and the manifest number
is queued. Cards and trips stay, and the pass goes on with the rest of the queue. -/
def Obligations.CrewTapDecided : Prop :=
  (∀ (s : State) (e : CardEntry) (d : Dock), e.cls = .crew →
      ((e.blocked = true ∨ s.passed e = true) → hitTap e d s = (showRefusal 1 d s, 1)) ∧
      (e.blocked = false → s.passed e = false → hitTap e d s = crewTap e.card d s)) ∧
  (∀ (s : State) (card : CardNo) (d : Dock),
      let refused : Nat → Prop := fun n => crewTap card d s = (showRefusal n d s, n) ∧
        ((crewTap card d s).1.dock d).flash = some { code := n, remaining := 3000 }
      ((∀ a, s.manifest.active = some a → a.phase ≠ .active ∨ (a.header.crewCard ≠ 0 ∧ a.header.crewCard ≠ card)) →
        refused 7) ∧
      (∀ a, s.manifest.active = some a → a.phase = .active → (a.header.crewCard = 0 ∨ a.header.crewCard = card) →
        (∀ i m, (s.dock d).reservation = .pickup i → a.moves[i]? = some m →
          (m.state = .releasing → crewTap card d s = (s, 0)) ∧
          (m.state = .reserved →
            (s.supply.state = .critical → refused 5) ∧
            (s.supply.state ≠ .critical →
              (8 ≤ s.hire.queue.length ∨ (∃ q ∈ s.hire.queue, q.dock = d) → refused 4) ∧
              (s.hire.queue.length < 8 → (∀ q ∈ s.hire.queue, q.dock ≠ d) →
                crewTap card d s = (grantPass { s with hire := { s.hire with
                  queue := s.hire.queue ++ [{ dock := d, kind := .crew i, card := card }] } }, 0))))) ∧
        ((∀ i m, (s.dock d).reservation = .pickup i → a.moves[i]? = some m →
            m.state ≠ .releasing ∧ m.state ≠ .reserved) →
          ((∀ b, (s.dock d).bike = some b → ∀ r ∈ s.faults.records, r.subject = .bike b → r.state ≠ .active) →
            refused 7) ∧
          (∀ b, (s.dock d).bike = some b → s.faultsOk →
            (∃ r ∈ s.faults.records, r.subject = .bike b ∧ r.state = .active) →
            let t := (crewTap card d s).1
            let f := s.faultDock d
            let marks : Prop := (s.dock d).occupancy = .occupied ∧ (s.link (dockNode d)).contact ≠ .lost ∧
              (s.dock d).serviceMark = true ∧ f.markPending ≠ some (false, b)
            (crewTap card d s).2 = 0 ∧
            t = { s with faults := t.faults, docks := t.docks, string := t.string, agenda := t.agenda } ∧
            t.faults.records = s.faults.records.filter (fun r => decide (r.subject ≠ .bike b)) ∧
            t.faults.full = false ∧ t.agenda.manifest = true ∧
            (∀ e, (t.dock e).known = (s.dock e).known ∧ (e ≠ d → t.faultDock e = s.faultDock e)) ∧
            (marks → t.faultDock d = { f with unmark := some b, markPending := some (false, b) } ∧
              (s.string.flight.isSome = true → (s.string.queue.filter (fun q => decide (q.verb ≠ .survey ∧ q.verb ≠ .lampShow))).length ≤ 39 → ∃ q ∈ t.string.queue,
                q.target = .node (dockNode d) ∧ q.verb = .mark ∧ q.args = [0] ∧ .faultTable b ∈ q.originators)) ∧
            (¬marks → t.faultDock d = { f with unmark := some b }))))) ∧
  (∀ (s : State) (q : HireRequest) (rest : List HireRequest) (k : Nat),
      s.hire.queue = q :: rest → q.kind = .crew k → s.tokensInUse < s.budget →
      let d := q.dock
      let r := s.dock d
      let dropped : Nat → Prop := fun n => ∃ u, grantPass s = grantPass u ∧
        u.hire = { s.hire with queue := rest } ∧ u.manifest = s.manifest ∧ u.cards = s.cards ∧
        u.trips = s.trips ∧ (u.dock d).flash = some { code := n, remaining := 3000 } ∧
        (∀ e, (u.dock e).known = (s.dock e).known)
      let reserved : Prop := (∃ a, s.manifest.active = some a ∧ a.phase = .active) ∧ r.reservation = .pickup k
      let ready : Prop := r.occupancy = .occupied ∧ r.bike ≠ none ∧ r.stampSeen = .none ∧ r.unpriced = false ∧
        (s.link (dockNode d)).contact = .reachable
      (¬reserved → dropped 7) ∧ (reserved → ¬ready → dropped 3) ∧
      (reserved → ready → ∀ a m b i, s.manifest.active = some a → a.moves[k]? = some m → r.bike = some b →
        s.hire.tokens.get i = .free → (∀ j, j < i → s.hire.tokens.get j ≠ .free) →
        ∃ u, grantPass s = grantPass u ∧
          (let ctx : ReleaseContext :=
             { kind := .crew k a.header.number, card := q.card, bike := b,
               start := s.clock.time, phase := .stamping, seenPresent := false }
           u.hire = { s.hire with
            queue := rest,
            tokens := s.hire.tokens.set i.val (.lent d .stampPending) i.isLt,
            releases := s.hire.releases.set d.val (some ctx) d.isLt,
            cancels := s.hire.cancels.set d.val none d.isLt }) ∧
          (let going := a.moves.set k { m with state := .releasing }
           u.manifest = { s.manifest with active := some { a with moves := going } }) ∧
          u.cards = s.cards ∧ u.trips = s.trips ∧
          (u.dock d).known = ({ r with occupancy := .releasing } : DockRecord).known ∧
          (u.dock d).reservation = r.reservation ∧
          (∀ e, e ≠ d → (u.dock e).known = (s.dock e).known) ∧
          (s.string.flight.isSome = true → (s.string.queue.filter (fun q => decide (q.verb ≠ .survey ∧ q.verb ≠ .lampShow))).length ≤ 39 →
            ∃ z ∈ u.string.queue, z.target = .node (dockNode d) ∧ z.verb = .stamp ∧
              z.args = [2] ++ beBytes 2 s.settings.stationNumber ++ beBytes 4 s.clock.time.toNat ++
                beBytes 5 q.card.toNat ++ [0] ++ beBytes 2 a.header.number ∧
              .hireUnit b ∈ z.originators)))

/-- A record that fails a check of R50 is refused with BAD_ARG. A card held as a GUEST is refused with
STATE, and a new card in a full table with FULL; a refused command changes nothing. A held MEMBER or
CREW entry takes class, plan, standing and valid_until and keeps its slot, activity, trip_link and
queued_dock; a new card takes the lowest free slot, IDLE. The data give the slot. No other entry, no
refer slot and no other record changes. The 13 argument bytes of LOAD_CARD and ADMIT_CARD are
refused exactly where the card number is 0, the class is not MEMBER or CREW, the plan is above 7, or
the standing or the flag is above 1; otherwise they give the card number, class, plan, standing and
valid_until, absent where the flag is 0. A card not held is refused with NOT_FOUND, an entry that is
PENDING or RIDING or has a queued_dock with STATE, and nothing is changed. An IDLE or SETTLING entry
with no queued_dock is removed, with OK; every other entry and every other record stays. The slot
taken is free and every lower one is held; none is free where all 256 are held. -/
def Obligations.CardsLoadedAndRetired : Prop :=
  ((∀ (s : State) (args : List Byte), args.length = 13 → s.busy = false →
    (readCardRecord args = none → changes (.loadCard args) 13 { code := .badArg, data := [] } s s) ∧
    (∀ r, readCardRecord args = some r →
      (∀ e, s.findCard r.card = some e → e.cls = .guest →
        changes (.loadCard args) 13 { code := .state, data := [] } s s) ∧
      (∀ e, s.cardsOk → s.findCard r.card = some e → e.cls ≠ .guest →
        changes (.loadCard args) 13 { code := .ok, data := [byte e.slot.val] }
          { s with cards := s.cards.map (fun x => if x = e then
              { e with cls := r.cls, plan := r.plan, blocked := r.blocked, validUntil := r.validUntil }
              else x) } s) ∧
      (s.findCard r.card = none → s.freeCardSlot = none →
        changes (.loadCard args) 13 { code := .full, data := [] } s s) ∧
      (∀ i, s.findCard r.card = none → s.freeCardSlot = some i →
        changes (.loadCard args) 13 { code := .ok, data := [byte i.val] }
          { s with
            cards := insertCard
              { slot := i, card := r.card, cls := r.cls, plan := r.plan, blocked := r.blocked,
                activity := .idle, validUntil := r.validUntil, link := none, queuedDock := none,
                guest := none } s.cards } s))) ∧
  (∀ (card : CardNo) (cls plan standing flag : Byte) (v : Time),
    readCardRecord (beBytes 5 card.toNat ++ [cls, plan, standing, flag] ++ beBytes 4 v.toNat) =
      if card = 0 ∨ (cls ≠ 0 ∧ cls ≠ 2) ∨ 7 < plan.toNat ∨ 1 < standing.toNat ∨ 1 < flag.toNat then none
      else some
        { card := card, cls := if cls = 0 then .member else .crew, plan := Fin.ofNat 8 plan.toNat,
          blocked := decide (standing = 1), validUntil := if flag = 1 then some v else none }) ∧
  (∀ (s : State) (c : CardNo), s.busy = false →
    (s.findCard c = none → changes (.retireCard (beBytes 5 c.toNat)) 5 { code := .notFound, data := [] } s s) ∧
    (∀ e, s.findCard c = some e → (e.activity = .pending ∨ e.activity = .riding ∨ e.queuedDock.isSome = true) →
      changes (.retireCard (beBytes 5 c.toNat)) 5 { code := .state, data := [] } s s) ∧
    (∀ e, s.findCard c = some e → (e.activity = .idle ∨ e.activity = .settling) → e.queuedDock = none →
      changes (.retireCard (beBytes 5 c.toNat)) 5 { code := .ok, data := [] }
        { s with cards := s.cards.filter (fun x => decide (x.card ≠ c)) } s))) ∧
  (∀ s : State,
      (∀ i, s.freeCardSlot = some i → (∀ e ∈ s.cards, e.slot ≠ i) ∧ ∀ j, j < i → ∃ e ∈ s.cards, e.slot = j) ∧
      (s.freeCardSlot = none → ∀ j, ∃ e ∈ s.cards, e.slot = j))

/-- ADMIT_CARD: a record that fails the checks is refused with BAD_ARG and leaves the slot. A card can
be loaded where it is held and no GUEST, or is not held and a slot is free. With no refer slot for
the card, ADMIT_CARD is a plain load: the result is that of R50, with the replayed flag and refusal
code 0 in an OK. With a slot and a card that can be loaded, the entry takes the record’s class,
plan, standing and valid_until and every other entry stays; the refer slot is retired; the tap is
decided as a hit by the entry now in the table, at the slot’s dock: for a MEMBER by the tap decision
of R64, whose code is shown, or whose request joins the release queue with a grant pass after it;
for CREW by refusal 1 where blocked or past its valid_until, and else by the crew decision. The data
give the slot of the entry, the replayed flag 1 and the refusal code that was shown; that the code
stays 0 where the grant pass of the same event drops the request is the choice of log 33. With a
slot and a full table the refer slot is retired, refusal 4 is shown at its dock and the result is
FULL. A GUEST entry gives STATE and changes nothing. REFUSE_CARD of a card that a refer slot holds,
and the expiry of that slot, retire the slot and show refusal 1 for 3 s at the slot’s dock; every
other record, and every field of the dock’s but those of its lamp, stays, and only the call queue
and the call in flight may follow. A slot re-aimed in the same instant has no expiry (R60, log 2).
With no slot for the card REFUSE_CARD answers NOT_FOUND and changes nothing, and no expiry has an
effect (log 2). A TAPREAD answer of card 0, or of the sequence last taken, changes nothing; any
other is kept as last_tap_sequence, and a card held is a hit that retires its refer slot; of a card
not held, the slot is aimed again with its age kept, or a fifth tap shows refusal 4, or a slot is
opened, younger than the others, with the tap’s dock, the time now and the refer timeout. -/
def Obligations.HeldTapsSettled : Prop :=
  (∀ (s : State) (args : List Byte), args.length = 13 → s.busy = false →
    (readCardRecord args = none → changes (.admitCard args) 13 { code := .badArg, data := [] } s s) ∧
    (∀ r, readCardRecord args = some r →
      ((loadRecord r s).1 = .ok ↔ (∃ e, s.findCard r.card = some e ∧ e.cls ≠ .guest) ∨
        (s.findCard r.card = none ∧ s.freeCardSlot.isSome = true)) ∧
      ((loadRecord r s).1 = .full ↔ s.findCard r.card = none ∧ s.freeCardSlot = none) ∧
      (∀ e, s.findCard r.card = some e → e.cls = .guest →
        changes (.admitCard args) 13 { code := .state, data := [] } s s) ∧
      ((loadRecord r s).1 = .ok → s.findRefer r.card = none →
        changes (.admitCard args) 13 { code := .ok, data := [byte ((loadRecord r s).2.slotOf r.card), 0, 0] }
          (loadRecord r s).2 s) ∧
      ((loadRecord r s).1 = .full → s.findRefer r.card = none →
        changes (.admitCard args) 13 { code := .full, data := [] } s s) ∧
      (∀ f, (loadRecord r s).1 = .full → s.findRefer r.card = some f →
        ∃ u, changes (.admitCard args) 13 { code := .full, data := [] } u s ∧
          referRefused 4 r.card f.dock u s) ∧
      (∀ f, (loadRecord r s).1 = .ok → s.findRefer r.card = some f →
        ∃ e, (loadRecord r s).2.findCard r.card = some e ∧ e.cls = r.cls ∧ e.plan = r.plan ∧
          e.blocked = r.blocked ∧ e.validUntil = r.validUntil ∧
          (∀ x ∈ s.cards, x.card ≠ r.card → x ∈ (loadRecord r s).2.cards) ∧
          (let w := retireRefer r.card (loadRecord r (s.taking 13)).2
           let x := hitTap e f.dock w
           w.cards = (loadRecord r s).2.cards ∧
           changes (.admitCard args) 13 { code := .ok, data := [byte e.slot.val, 1, byte x.2] } x.1 s ∧
           x.2 ≤ 7 ∧ x.1.findRefer r.card = none ∧
           (1 ≤ x.2 → (x.1.dock f.dock).flash = some { code := x.2, remaining := 3000 }) ∧
           (r.cls ≠ .crew → x.2 = tapCode e f.dock w ∧
             (x.2 ≠ 0 → x.1 = showRefusal x.2 f.dock w) ∧
             (x.2 = 0 → x.1 = grantPass (cardWaiting r.card f.dock
               (w.joinHire { dock := f.dock, kind := .member, card := r.card })))) ∧
           (r.cls = .crew → (r.blocked = true ∨ w.passed e = true) →
             x.2 = 1 ∧ x.1 = showRefusal 1 f.dock w) ∧
           (r.cls = .crew → r.blocked = false → w.passed e = false → x = crewTap r.card f.dock w))))) ∧
  (∀ (s : State) (c : CardNo),
    (∀ f, s.findRefer c = some f →
      (s.busy = false →
        ∃ u, changes (.refuseCard (beBytes 5 c.toNat)) 5 { code := .ok, data := [] } u s ∧
          referRefused 1 c f.dock u s) ∧
      (f.reaimed = false →
        ∃ u, exec (.referTimeout c) s = .next (finishEvent u) ∧ u.port = s.port ∧
          referRefused 1 c f.dock u s) ∧
      (f.reaimed = true → exec (.referTimeout c) s = .next (finishEvent s))) ∧
    (s.findRefer c = none →
      (s.busy = false → changes (.refuseCard (beBytes 5 c.toNat)) 5 { code := .notFound, data := [] } s s) ∧
      exec (.referTimeout c) s = .next (finishEvent s))) ∧
  (∀ (s : State) (d : Dock) (card : CardNo) (q : Byte),
    (card = 0 ∨ (s.dock d).lastTap = some q → tapAnswer d (beBytes 5 card.toNat ++ [q]) s = s) ∧
    (card ≠ 0 → (s.dock d).lastTap ≠ some q →
      let w := s.setDock d (fun r => { r with lastTap := some q })
      let u := tapAnswer d (beBytes 5 card.toNat ++ [q]) s
      let slot : Bool → ReferSlot := fun again =>
        { card := card, dock := d, tapTime := s.clock.time, remaining := s.settings.referTimeout * 1000,
          reaimed := again }
      (u.dock d).lastTap = some q ∧
      (∀ e, s.findCard card = some e → u = (hitTap e d (retireRefer card w)).1 ∧ u.findRefer card = none) ∧
      (s.findCard card = none →
        ((s.findRefer card).isSome = true →
          u.refers = s.refers.map (fun r => if r.card = card then slot true else r)) ∧
        (s.findRefer card = none → s.refers.length < 4 → u.refers = s.refers ++ [slot false]) ∧
        (s.findRefer card = none → 4 ≤ s.refers.length →
          u = showRefusal 4 d w ∧ u.refers = s.refers))))

/-- A GOOD answer’s last character hands it to the Dock Monitor: a SURVEY with its condition masked and
the node’s held BUTTON, a TAPREAD or TAGREAD with its BUTTON held for the next survey; the end of a
cross attempt hands on the ordinary answer. A SURVEY with BIKE is an arrival at an UNKNOWN or EMPTY
dock, and at an OCCUPIED one in a resynchronization: OCCUPIED with no bike number, stamp, mark or
unpriced flag, and a TAGREAD queued; an OCCUPIED dock stays, and is read again where its bike number
is absent; a RELEASING dock stays, its release seen present, but an OVERDUE release is cancelled.
Without BIKE an UNKNOWN dock becomes EMPTY, an EMPTY one stays, and an OCCUPIED or RELEASING one
becomes EMPTY, its fields cleared and its deferred arrival gone; else the deferred list stays (log
11). TAP queues a TAPREAD whatever the dock is and holds, where the call queue has room or a SURVEY
or SHOW to give up. The condition is kept, the resynchronization and held button are used up, the
lamp is selected, and nothing else of any dock record changes but lamps, flashes and reservations.
With room in the fault table four sensed kinds are judged by R138, FORCED_REMOVAL as absent; a held
BUTTON counts only where the mask in force does not name it (the choice of log 12); tag_failed
becomes false; a departure from an OCCUPIED dock with no cancelled release makes FORCED_REMOVAL
ACTIVE. A full table takes no SUSPECT record. A forced removal creates an ACTIVE record, confirms a
CLEARING one and leaves an ACTIVE one. A TAGREAD at a dock not OCCUPIED, or with a bike number, is
discarded; an unreadable tag sets tag_failed unless TAGERR is masked; a read tag gives bike number,
stamp and mark, ends the watch (log 17) and selects the lamp; a TRIP stamp opens the report context,
a VAN stamp the van’s UNSTAMP, and a mark not being cleared an ACTIVE SERVICE_MARK where a slot is
free. The premise that no RELEASING record names the dock is R35’s: such a dock is RELEASING, not
OCCUPIED. -/
def Obligations.DockAnswersTaken : Prop :=
  (∀ (s : State) (c : Call) (d : Dock) (got : List Byte) (data : Byte),
    s.string.flight = some (.call c) → c.crossOf = none → c.node = dockNode d →
    c.entry.originators = [.dockMonitor] → c.phase = .answering got → (got ≠ [] ∨ data = c.entry.target.address) →
    got.length + 1 = c.entry.verb.answerData + 3 → sum8 (got ++ [data]) = 0 →
    ((c.entry.verb = .survey ∧ c.entry.cross = false) ∨ c.entry.verb = .tapread ∨ c.entry.verb = .tagread) →
    ∃ v, exec (.stringCharacterReceived c.on data false) s = .next (finishEvent (freeString
        (let x := ({ v.link (dockNode d) with heldButton := (s.link (dockNode d)).heldButton }).handOver (got.getD 1 0)
         let bytes := ((got ++ [data]).drop 2).take c.entry.verb.answerData
         if c.entry.verb = .survey then
           surveyAnswer d x (decide (c.contactAtTake = .unknown ∨ c.contactAtTake = .lost)) v
         else if c.entry.verb = .tapread then tapAnswer d bytes (noteButton d x v)
         else tagAnswer d bytes (noteButton d x v)))) ∧
      v = { s with string := v.string, docks := v.docks, faults := v.faults, agenda := v.agenda } ∧
      v.string.flight.isSome = true ∧ ∀ e, (v.dock e).known = (s.dock e).known) ∧
  (∀ (s : State) (c : Call) (d : Dock) (a : Answer),
    s.string.flight = some (.call c) → c.crossOf = some (some a) → c.node = dockNode d →
    c.entry.originators = [.dockMonitor] → c.entry.verb = .survey →
    (∃ v, exec .answerWindowExpiry s = .next (finishEvent (freeString
        (surveyAnswer d (({ v.link (dockNode d) with heldButton := (s.link (dockNode d)).heldButton }).handOver a.condition)
          (decide (c.contactAtTake = .unknown ∨ c.contactAtTake = .lost)) v))) ∧
      v = { s with string := v.string, docks := v.docks, faults := v.faults, agenda := v.agenda } ∧
      v.string.flight.isSome = true ∧ ((s.link (dockNode d)).contact ≠ .lost → ∀ e, (v.dock e).known = (s.dock e).known)) ∧
    (∀ (got : List Byte) (data : Byte), c.phase = .answering got → got.length = 2 → sum8 (got ++ [data]) = 0 →
      ∃ v, exec (.stringCharacterReceived c.on data false) s = .next (finishEvent (freeString
        (surveyAnswer d (({ v.link (dockNode d) with heldButton := (s.link (dockNode d)).heldButton || (got.getD 1 0).getLsbD 4 }).handOver a.condition)
          (decide (c.contactAtTake = .unknown ∨ c.contactAtTake = .lost)) v))) ∧
      v = { s with string := v.string, docks := v.docks, faults := v.faults, agenda := v.agenda } ∧
      v.string.flight.isSome = true ∧ ((s.link (dockNode d)).contact ≠ .lost → ∀ e, (v.dock e).known = (s.dock e).known))) ∧
  (∀ (s : State) (d : Dock) (x : Byte),
    ((noteButton d x s).dock d) = { s.dock d with heldButton := (s.dock d).heldButton || x.getLsbD 4 } ∧
    (∀ e, e ≠ d → (noteButton d x s).dock e = s.dock e) ∧
    noteButton d x s = { s with docks := (noteButton d x s).docks }) ∧
  (∀ (s : State) (d : Dock) (x : Byte) (mark : Bool),
    let r := s.dock d
    let t := surveyAnswer d x mark s
    let here := x.getLsbD 0
    let resync := mark || r.resyncDue
    let kept : DockRecord → Prop := fun y =>
      (t.dock d).known = { y with lastCondition := some x, resyncDue := false, heldButton := false }.known
    let fresh : DockRecord :=
      { r with occupancy := .occupied, bike := none, stampSeen := .none, unpriced := false, serviceMark := false }
    let queued : Verb → Prop := fun v => s.string.flight.isSome = true → s.string.queue.length < 40 →
      ∃ q ∈ t.string.queue, q.target = .node (dockNode d) ∧ q.verb = v
    (∀ e, e ≠ d → (t.dock e).known = (s.dock e).known ∧ t.deferred.get e = s.deferred.get e) ∧
    (t.dock d).lamp = t.lampFor d ∧
    (x.getLsbD 3 = true → s.string.flight.isSome = true →
      (s.string.queue.filter (fun q => decide (q.verb ≠ .survey ∧ q.verb ≠ .lampShow))).length ≤ 37 →
      ∃ q ∈ t.string.queue, q.target = .node (dockNode d) ∧ q.verb = .tapread) ∧
    (here = true →
      (r.occupancy = .unknown ∨ r.occupancy = .empty ∨ (r.occupancy = .occupied ∧ resync = true) →
        kept fresh ∧ t.deferred = s.deferred ∧ queued .tagread) ∧
      (r.occupancy = .occupied → resync = false → kept r ∧ t.deferred = s.deferred ∧
        (r.bike = none → queued .tagread) ∧ (r.bike ≠ none → x.getLsbD 3 = true → queued .tapread)) ∧
      (r.occupancy = .releasing → t.deferred = s.deferred ∧
        ((∀ y, s.release d = some y → y.phase ≠ .overdue) → kept r) ∧
        (∀ y ms, s.release d = some y → y.phase = .waiting ms →
          t.release d = some { y with seenPresent := true }) ∧
        (∀ y, s.release d = some y → y.phase = .overdue →
          kept { r with occupancy := .occupied } ∧ t.release d = none ∧ (t.cancel d).isSome = true))) ∧
    (here = false →
      (r.occupancy = .unknown → kept { r with occupancy := .empty } ∧ t.deferred = s.deferred) ∧
      (r.occupancy = .empty → kept r ∧ t.deferred = s.deferred ∧ (x.getLsbD 3 = true → queued .tapread)) ∧
      (r.occupancy = .occupied ∨ r.occupancy = .releasing →
        kept { fresh with occupancy := .empty } ∧ t.deferred.get d = none))) ∧
  (∀ (s : State) (d : Dock) (x : Byte) (mark : Bool),
    let t := surveyAnswer d x mark s
    (t.faultDock d).tagFailed = false ∧
    (s.faultsOk → s.faults.records.length ≤ 24 →
      (∀ p ∈ ([(.coilOpen, 4, x.getLsbD 5), (.coilShort, 4, x.getLsbD 6),
          (.tagUnreadable, 4, x.getLsbD 7 || (s.faultDock d).tagFailed),
          (.buttonStuck, 8, x.getLsbD 4 ||
            ((s.dock d).heldButton && !(s.link (dockNode d)).mask.getLsbD 4))] :
          List (FaultKind × Nat × Bool)),
        (∀ r, s.findFault (.dock d) p.1 = some r → t.findFault (.dock d) p.1 = r.judged p.2.1 p.2.2) ∧
        (s.findFault (.dock d) p.1 = none →
          (p.2.2 = false → t.findFault (.dock d) p.1 = none) ∧
          (p.2.2 = true → ∃ i o, t.findFault (.dock d) p.1 = some
            { slot := i, subject := .dock d, kind := p.1, state := .suspect, count := 1, reporters := [],
              firstTime := s.clock.time, seen := false, order := o }))) ∧
      (x.getLsbD 0 = false → (s.dock d).occupancy = .occupied →
        (∀ b, (s.dock d).bike = some b → (∀ r, s.findTrip b = some r → r.state ≠ .cancelling) ∧
          (∀ e y, s.cancel e = some y → y.bike = b → y.kind = .member)) →
        (∀ r, s.findFault (.dock d) .forcedRemoval = some r → r.state ≠ .suspect) →
        ∃ r, t.findFault (.dock d) .forcedRemoval = some r ∧ r.state = .active) ∧
      (∀ r, s.findFault (.dock d) .forcedRemoval = some r →
        (x.getLsbD 0 = true ∨ ((s.dock d).occupancy ≠ .occupied ∧ (s.dock d).occupancy ≠ .releasing)) →
        t.findFault (.dock d) .forcedRemoval = r.judged 4 false))) ∧
  (∀ (s : State) (d : Dock),
    (∀ (k : FaultKind) (n : Nat), s.findFault (.dock d) k = none → s.freeFaultSlot = none →
      judgeKind d k n true s = s) ∧
    (s.findFault (.dock d) .forcedRemoval = none → s.freeFaultSlot.isSome = true →
      ∃ i o, (forcedRemoval d s).findFault (.dock d) .forcedRemoval = some
        { slot := i, subject := .dock d, kind := .forcedRemoval, state := .active, count := 0, reporters := [],
          firstTime := s.clock.time, seen := false, order := o }) ∧
    (∀ r, s.findFault (.dock d) .forcedRemoval = some r →
      (r.state = .active → forcedRemoval d s = s) ∧
      (s.faultsOk → r.state = .clearing → (forcedRemoval d s).findFault (.dock d) .forcedRemoval = some
        { r with state := .active, count := 0, seen := false }))) ∧
  (∀ (s : State) (d : Dock) (bs : List Byte),
    let r := s.dock d
    let u := tagAnswer d bs s
    (¬(r.occupancy = .occupied ∧ r.bike = none) → u = s) ∧
    (r.occupancy = .occupied → r.bike = none →
      (readTag bs = none →
        u = if (s.link (dockNode d)).mask.getLsbD 7 then s
          else s.setFaultDock d (fun f => { f with tagFailed := true })) ∧
      (∀ t, readTag bs = some t →
        (∀ y, s.findTrip t.bike = some y → y.state = .releasing → y.releaseDock ≠ some d) →
        (u.dock d).occupancy = .occupied ∧ (u.dock d).bike = some t.bike ∧
        (u.dock d).stampSeen = t.stamp.kind ∧ (u.dock d).serviceMark = t.serviceMark ∧
        (u.dock d).watch = false ∧ (u.dock d).lastTap = r.lastTap ∧
        (u.dock d).lastCondition = r.lastCondition ∧ (u.dock d).lamp = u.lampFor d ∧
        (∀ f, t.stamp = .trip f → (u.faultDock d).report = some
          { bike := t.bike, card := f.card, remaining := s.settings.reportWindow * 1000 }) ∧
        (∀ n, t.stamp = .van n → u.manifest.vanUnstamp.get d = some t.bike) ∧
        (t.serviceMark = true → (s.faultDock d).unmark ≠ some t.bike →
          s.findFault (.bike t.bike) .serviceMark = none → s.freeFaultSlot.isSome = true →
          ∃ y, u.findFault (.bike t.bike) .serviceMark = some y ∧ y.state = .active))))

/-- Card number 0 or a dock outside 1..30 is refused with BAD_ARG, a card not held with NOT_FOUND, a
CREW entry with STATE; nothing is then changed. Otherwise the tap decision runs with no refer slot
of the card left: where a check of R64 fails its code is the data byte and is shown at the dock for
3 s, and the release queue, trips and cards stay; where every check passes the data byte is 0, the
request joins the release queue and the entry waits at the dock (shown where no token can be lent).
The checks in order: a blocked or expired card, or a guest's hold below the unlock fee, 1; an entry
not IDLE or already waiting, 2; clock unset, no tariff or no station number, 6; supply not NORMAL,
5; dock not hireable, 3; release queue full or with a request for the dock, 4. With the release
queue empty, fewer tokens lent than the budget, i the lowest free token (which one is lent is the
choice of log 19), fewer than 64 trips and none of the dock’s bicycle, the request is granted in the
same event: token i is LENT to the dock, STAMP_PENDING, and no other token moves; a RELEASING record
holds the stamp of this hire and the dock, no other record changing; the entry is PENDING, linked to
the bicycle and the time now, with no queued_dock, no other entry changing; the dock is RELEASING
with its bicycle; the release context is that of the member in STAMPING, no cancel context is left
there, and the release queue is empty. With a call in flight and room in the call queue the STAMP
waits there with the stamp’s bytes. A member request at the head of a grant pass is checked again
and dropped with refusal 1, 3 or 4, its entry no longer waiting, and the pass goes on with the rest;
a pass ends with an empty queue or the budget reached. -/
def Obligations.RemoteHireDecided : Prop :=
  ((∀ (s : State) (card : CardNo) (n : Byte), s.busy = false → (card = 0 ∨ n = 0 ∨ 30 < n.toNat) →
      changes (.remoteHire (beBytes 5 card.toNat ++ [n])) 6 { code := .badArg, data := [] } s s) ∧
  (∀ (s : State) (card : CardNo) (d : Dock), s.busy = false → card ≠ 0 →
      (s.findCard card = none →
        changes (.remoteHire (beBytes 5 card.toNat ++ [byte (dockNumber d)])) 6 { code := .notFound, data := [] } s s) ∧
      (∀ e, s.findCard card = some e → e.cls = .crew →
        changes (.remoteHire (beBytes 5 card.toNat ++ [byte (dockNumber d)])) 6 { code := .state, data := [] } s s) ∧
      (∀ e, s.findCard card = some e → e.cls ≠ .crew → tapCode e d s ≠ 0 →
        ∃ u, changes (.remoteHire (beBytes 5 card.toNat ++ [byte (dockNumber d)])) 6
            { code := .ok, data := [byte (tapCode e d s)] } u s ∧
          (u.dock d).flash = some { code := tapCode e d s, remaining := 3000 } ∧
          u.hire = s.hire ∧ u.trips = s.trips ∧ u.cards = s.cards ∧ u.findRefer card = none) ∧
      (∀ e, s.findCard card = some e → e.cls ≠ .crew → tapCode e d s = 0 →
        ∃ u, changes (.remoteHire (beBytes 5 card.toNat ++ [byte (dockNumber d)])) 6
            { code := .ok, data := [0] } u s ∧ u.findRefer card = none ∧
          (s.budget ≤ s.tokensInUse →
            u.hire = { s.hire with queue := s.hire.queue ++ [{ dock := d, kind := .member, card := card }] } ∧
            u.cards = s.cards.map (fun x => if x.card = card then { x with queuedDock := some d } else x)))) ∧
  (∀ (e : CardEntry) (d : Dock) (s : State),
      let refused1 := e.blocked = true ∨
        (∃ v, e.validUntil = some v ∧ s.clock.isSet = true ∧ 1 ≤ (s.clock.time - v).toNat ∧
          (s.clock.time - v).toNat ≤ 2 ^ 31 - 1) ∨
        (∃ g, e.guest = some g ∧ g.hold - g.captured < s.unlockFee e.plan)
      let refused2 := e.activity ≠ .idle ∨ e.queuedDock ≠ none
      let refused6 := s.clock.isSet = false ∨ s.fare.current.valid = false ∨ s.settings.stationNumber = 0
      let refused5 := s.supply.state ≠ .normal
      let refused3 := s.hireable d = false
      let refused4 := 8 ≤ s.hire.queue.length ∨ ∃ q ∈ s.hire.queue, q.dock = d
      (refused1 → tapCode e d s = 1) ∧
      (¬refused1 → (refused2 → tapCode e d s = 2) ∧
      (¬refused2 → (refused6 → tapCode e d s = 6) ∧
      (¬refused6 → (refused5 → tapCode e d s = 5) ∧
      (¬refused5 → (refused3 → tapCode e d s = 3) ∧
      (¬refused3 → (refused4 → tapCode e d s = 4) ∧
      (¬refused4 → tapCode e d s = 0))))))) ∧
  (∀ (s : State) (card : CardNo) (d : Dock) (e : CardEntry) (b : Bike) (i : Fin 3), s.busy = false → card ≠ 0 →
      s.findCard card = some e → e.cls ≠ .crew → tapCode e d s = 0 → (s.dock d).bike = some b →
      s.hire.queue = [] → s.tokensInUse < s.budget → s.hire.tokens.get i = .free →
      (∀ j, j < i → s.hire.tokens.get j ≠ .free) → s.trips.length < 64 → s.findTrip b = none →
      let stamp : StampFields :=
        { origin := s.settings.stationNumber, start := s.clock.time, card := card, plan := e.plan,
          generation := s.fare.current.generation,
          ceiling := match e.guest with | some g => g.hold - g.captured | none => 65535 }
      ∃ u, changes (.remoteHire (beBytes 5 card.toNat ++ [byte (dockNumber d)])) 6
          { code := .ok, data := [0] } u s ∧
        u.hire.tokens.get i = .lent d .stampPending ∧
        (∀ j, j ≠ i → u.hire.tokens.get j = s.hire.tokens.get j) ∧
        u.findTrip b = some
          { bike := b, stamp := stamp, state := .releasing, releaseDock := some d, foreign := false,
            latePull := false, orphan := false, unstamped := false, unstampDock := none } ∧
        (∀ c, c ≠ b → u.findTrip c = s.findTrip c) ∧
        u.findCard card = some { e with queuedDock := none, activity := .pending, link := some (b, s.clock.time) } ∧
        (∀ c, c ≠ card → u.findCard c = s.findCard c) ∧
        (u.dock d).occupancy = .releasing ∧ (u.dock d).bike = some b ∧
        u.release d = some
          { kind := .member, card := card, bike := b, start := s.clock.time, phase := .stamping,
            seenPresent := false } ∧
        u.cancel d = none ∧ u.hire.queue = [] ∧
        (s.string.flight.isSome = true → s.string.queue.length ≤ 37 →
          ∃ q ∈ u.string.queue, q.target = .node (dockNode d) ∧ q.verb = .stamp ∧
            q.args = tripStampImage stamp))) ∧
  (∀ (s : State) (q : HireRequest) (rest : List HireRequest),
      s.hire.queue = q :: rest → q.kind = .member → s.tokensInUse < s.budget →
      let dropped : Nat → Prop := fun n => ∃ u, grantPass s = grantPass u ∧
        u.hire = { s.hire with queue := rest } ∧ u.trips = s.trips ∧
        u.cards = s.cards.map (fun e => if e.card = q.card then { e with queuedDock := none } else e) ∧
        (u.dock q.dock).flash = some { code := n, remaining := 3000 } ∧
        (∀ e, (u.dock e).known = (s.dock e).known)
      let refused1 : Prop := ∀ e, s.findCard q.card = some e → e.blocked = true ∨ s.passed e = true ∨
        ∃ g, e.guest = some g ∧ g.hold - g.captured < s.unlockFee e.plan
      let refused3 : Prop := s.hireable q.dock = false
      let refused4 : Prop := 64 ≤ s.trips.length ∨
        ∃ b r, (s.dock q.dock).bike = some b ∧ s.findTrip b = some r
      (refused1 → dropped 1) ∧ (¬refused1 → refused3 → dropped 3) ∧
      (¬refused1 → ¬refused3 → refused4 → dropped 4)) ∧
  (∀ s : State, s.hire.queue = [] ∨ s.budget ≤ s.tokensInUse → grantPass s = s)

/-- An arrival first takes out of the deferred list the entry of its own dock and every entry of its
bicycle at another dock, which is unpriced no longer where it still shows that bicycle. Of a record
that matches in start time and origin: PRICED is a duplicate, CANCELLING at its own release dock a
bicycle that never left. With no unstamp_dock, the one not UNSTAMPED, the other in no cancel context
of the dock, the UNSTAMP is queued to the dock (a call in flight, room, none queued for it) and
unstamp_dock is the dock, and nothing else changes; otherwise nothing changes at all. A record of
another trip that is RELEASING, CANCELLING or PRICED defers the arrival; an OUT one is retired, the
card linked to it freed with nothing captured unless it is ORPHAN, and the arrival goes on with no
record. With no record: clock set, a record free and a bank that can price it, a FOREIGN record
holds the stamp, PRICED at the dock at the time now with the fare and flags of R109 to R117, its
UNSTAMP queued; no card changes, the dock’s entry leaves the list and unpriced becomes false;
otherwise the arrival is deferred. Deferred: the list holds bicycle and stamp at the dock, whose
unpriced becomes true where it shows the bicycle, and no record and no card changes. The retry pass,
at the end of an event in which a record was created, retired or changed state and with the list not
empty, takes the docks by rising number: the entry leaves the list and its arrival is handled again;
where it is not deferred again the dock is unpriced no longer (log 30). Failures, step 4 of R171 and
the manifest’s pass come first (log 7). -/
def Obligations.ArrivalsJudged : Prop :=
  (∀ (s : State) (d : Dock) (b : Bike) (st : StampFields),
      ∃ u, handleArrival d b st s = arrivalCases d b st u ∧
        u = { s with deferred := u.deferred, docks := u.docks, string := u.string, agenda := u.agenda } ∧
        u.deferred.get d = none ∧
        (∀ x, x ≠ d →
          (∀ e, s.deferred.get x = some e → e.bike = b → u.deferred.get x = none ∧
            ((s.dock x).bike = some b →
              (u.dock x).known = ({ s.dock x with unpriced := false } : DockRecord).known)) ∧
          ((∀ e, s.deferred.get x = some e → e.bike ≠ b) → u.deferred.get x = s.deferred.get x)) ∧
        (∀ x, (x = d ∨ (s.dock x).bike ≠ some b ∨ ∀ e, s.deferred.get x = some e → e.bike ≠ b) →
          (u.dock x).known = (s.dock x).known)) ∧
  (∀ (s : State) (d : Dock) (b : Bike) (st : StampFields) (r : TripRecord), s.findTrip b = some r →
      let t := arrivalCases d b st s
      let matches_ : Prop := r.stamp.start = st.start ∧ r.stamp.origin = st.origin
      let asked : State := { s with
        trips := s.trips.map (fun y => if y.bike = b then { y with unstampDock := some d } else y),
        string := { s.string with queue := s.string.queue ++
          [{ target := .node (dockNode d), verb := .unstamp, args := [], cross := false,
             originators := [.tripTable b] }] } }
      let room : Prop := s.string.flight.isSome = true ∧ s.string.queue.length < 40 ∧
        ∀ q ∈ s.string.queue, q.target = .node (dockNode d) → q.verb ≠ .unstamp
      let deferred : Prop :=
        t = { s with deferred := s.deferred.set d.val (some { bike := b, stamp := st }) d.isLt,
                     docks := t.docks, string := t.string, agenda := t.agenda } ∧
        ((s.dock d).bike = some b →
          (t.dock d).known = ({ s.dock d with unpriced := true } : DockRecord).known) ∧
        ((s.dock d).bike ≠ some b → t.docks = s.docks) ∧
        (∀ e, e ≠ d → (t.dock e).known = (s.dock e).known)
      (∀ p, matches_ → r.state = .priced p →
        (r.unstamped = true ∨ r.unstampDock ≠ none → t = s) ∧
        (r.unstamped = false → r.unstampDock = none → room → t = asked)) ∧
      (matches_ → r.state = .cancelling → r.releaseDock = some d →
        ((∃ y, s.cancel d = some y ∧ y.bike = b) ∨ r.unstampDock ≠ none → t = s) ∧
        ((∀ y, s.cancel d = some y → y.bike ≠ b) → r.unstampDock = none → room → t = asked)) ∧
      (¬matches_ → (r.state = .releasing ∨ r.state = .cancelling ∨ ∃ p, r.state = .priced p) → deferred) ∧
      (¬matches_ → r.state = .out →
        ∃ u, t = arrivalCases d b st u ∧ u.findTrip b = none ∧
          u = { s with trips := s.trips.filter (fun y => decide (y.bike ≠ b)), cards := u.cards,
                       agenda := { s.agenda with trips := true } } ∧
          (r.orphan = true → u.cards = s.cards) ∧
          (r.orphan = false → ∀ e, s.findCard r.stamp.card = some e →
            (e.link = some (b, r.stamp.start) → (e.activity = .pending ∨ e.activity = .riding) →
              u.findCard r.stamp.card = some { e with
                link := none, activity := if e.cls = .guest ∧ s.passed e = true then .settling else .idle }) ∧
            (e.link ≠ some (b, r.stamp.start) ∨ (e.activity ≠ .pending ∧ e.activity ≠ .riding) →
              u.cards = s.cards)))) ∧
  (∀ (s : State) (d : Dock) (b : Bike) (st : StampFields), s.findTrip b = none →
      let t := arrivalCases d b st s
      let deferred : Prop :=
        t = { s with deferred := s.deferred.set d.val (some { bike := b, stamp := st }) d.isLt,
                     docks := t.docks, string := t.string, agenda := t.agenda } ∧
        ((s.dock d).bike = some b →
          (t.dock d).known = ({ s.dock d with unpriced := true } : DockRecord).known) ∧
        ((s.dock d).bike ≠ some b → t.docks = s.docks) ∧
        (∀ e, e ≠ d → (t.dock e).known = (s.dock e).known)
      (∀ x, s.clock.isSet = true → s.trips.length < 64 →
        s.fare.price st s.clock.time (s.hireableOthers d) s.dropToDo = some x →
        t.findTrip b = some
          { bike := b, stamp := st, releaseDock := none, foreign := true, latePull := false, orphan := false,
            unstamped := false, unstampDock := some d,
            state := .priced { returnDock := d, endTime := s.clock.time, fare := x.fare, flags := x.flags } } ∧
        (∀ c, c ≠ b → t.findTrip c = s.findTrip c) ∧ t.cards = s.cards ∧
        t.deferred = s.deferred.set d.val none d.isLt ∧ t.agenda.trips = true ∧
        ((s.dock d).bike = some b →
          (t.dock d).known = ({ s.dock d with unpriced := false } : DockRecord).known) ∧
        (s.string.flight.isSome = true → (s.string.queue.filter (fun q => decide (q.verb ≠ .survey ∧ q.verb ≠ .lampShow))).length ≤ 39 →
          ∃ q ∈ t.string.queue, q.target = .node (dockNode d) ∧ q.verb = .unstamp ∧ .tripTable b ∈ q.originators)) ∧
      ((s.clock.isSet = false ∨ 64 ≤ s.trips.length ∨
          s.fare.price st s.clock.time (s.hireableOthers d) s.dropToDo = none) → deferred)) ∧
  (∀ s : State,
      retryPass s = (List.finRange 30).foldl (fun u d => retryDock d u) s ∧
      (∀ d, s.deferred.get d = none → retryDock d s = s) ∧
      (∀ d e, s.deferred.get d = some e →
        let u := handleArrival d e.bike e.stamp { s with deferred := s.deferred.set d.val none d.isLt }
        ((u.deferred.get d ≠ none ∨ (u.dock d).unpriced = false) → retryDock d s = u) ∧
        (u.deferred.get d = none → (u.dock d).bike = some e.bike →
          ((retryDock d s).dock d).unpriced = false) ∧
        (retryDock d s).trips = u.trips ∧ (retryDock d s).deferred = u.deferred) ∧
      (∀ n, s.agenda.failures = [] → s.agenda.followOn = false → s.agenda.manifest = false →
        s.agenda.trips = true →
        let u := { s with agenda := { s.agenda with trips := false } }
        ((∃ d e, s.deferred.get d = some e) → settle (n + 1) s = settle n (retryPass u)) ∧
        ((∀ d, s.deferred.get d = none) → settle (n + 1) s = settle n u)))

/-- A card number or bike number of 0 is refused with BAD_ARG. With the record of the bicycle and start
time OUT, not FOREIGN and of the card, the record is retired; unless it is ORPHAN the card entry
linked to that trip loses its link and becomes IDLE (SETTLING for a GUEST whose valid_until has
passed), a GUEST's captured grows by min(fare, hold − captured), and that amount is in the data. Any
other record of that start time gives STATE and changes nothing. With no such record the result is
NOT_FOUND, and a card entry still linked to that trip is freed with nothing captured. Bike number 0
is refused with BAD_ARG; a bike number that keys no record, or one of another start time, with
NOT_FOUND; a record that is not PRICED, has an unstamp_dock, or is not UNSTAMPED while its return
dock still holds its bicycle, with STATE. Nothing is then changed. Otherwise the record is retired,
the data are its image before, a retry pass is due at the end of the event, and nothing else
changes. -/
def Obligations.RemoteTripClosed : Prop :=
  (∀ (s : State) (c : CardNo) (b : Bike) (start : Time) (fare : Nat), s.busy = false → fare < 65536 →
    (c = 0 ∨ b = 0 →
      changes (.closeRemote (beBytes 5 c.toNat ++ beBytes 2 b.toNat ++ beBytes 4 start.toNat ++ beBytes 2 fare)) 13
        { code := .badArg, data := [] } s s) ∧
    (c ≠ 0 → b ≠ 0 →
      (∀ r, s.findTrip b = some r → r.stamp.start = start →
        ¬(r.state = .out ∧ r.foreign = false ∧ r.stamp.card = c) →
        changes (.closeRemote (beBytes 5 c.toNat ++ beBytes 2 b.toNat ++ beBytes 4 start.toNat ++ beBytes 2 fare)) 13
          { code := .state, data := [] } s s) ∧
      (∀ r, s.findTrip b = some r → r.stamp.start = start → r.state = .out → r.foreign = false →
        r.stamp.card = c → r.orphan = false → ∀ e, s.findCard c = some e → e.link = some (b, start) →
        (e.activity = .pending ∨ e.activity = .riding) →
        ∃ amount activity,
          amount = (match e.guest with | some g => min fare (g.hold - g.captured) | none => 0) ∧
          activity = (if e.cls = .guest ∧ s.passed e = true then Activity.settling else .idle) ∧
          changes (.closeRemote (beBytes 5 c.toNat ++ beBytes 2 b.toNat ++ beBytes 4 start.toNat ++ beBytes 2 fare)) 13
            { code := .ok, data := beBytes 2 amount ++ [byte activity.code] }
            { s with
              trips := s.trips.filter (fun x => decide (x.bike ≠ b)),
              agenda := { s.agenda with trips := true },
              cards := s.cards.map (fun x => if x.card = c then
                { x with
                  link := none,
                  activity := if x.cls = .guest ∧ s.passed x = true then .settling else .idle,
                  guest := x.guest.map (fun g =>
                    { g with captured := g.captured + min fare (g.hold - g.captured) }) }
                else x) } s) ∧
      (∀ r, s.findTrip b = some r → r.stamp.start = start → r.state = .out → r.foreign = false →
        r.stamp.card = c →
        (r.orphan = true ∨ ∀ e, s.findCard c = some e → e.link ≠ some (b, start)) →
        changes (.closeRemote (beBytes 5 c.toNat ++ beBytes 2 b.toNat ++ beBytes 4 start.toNat ++ beBytes 2 fare)) 13
          (Result.ok ([0, 0] ++
              [match s.findCard c with | some e => byte e.activity.code | none => 255]))
          { s with trips := s.trips.filter (fun x => decide (x.bike ≠ b)),
                   agenda := { s.agenda with trips := true } } s) ∧
      ((∀ r, s.findTrip b = some r → r.stamp.start ≠ start) →
        ∃ u, changes (.closeRemote (beBytes 5 c.toNat ++ beBytes 2 b.toNat ++ beBytes 4 start.toNat ++ beBytes 2 fare)) 13
            { code := .notFound, data := [] } u s ∧
          u = { s with cards := u.cards, port := u.port } ∧
          (∀ e, s.findCard c = some e → e.link = some (b, start) →
            (e.activity = .pending ∨ e.activity = .riding) →
            ∃ e', u.findCard c = some e' ∧ e'.link = none ∧ e'.guest = e.guest ∧ e'.slot = e.slot ∧
              e'.activity = (if e.cls = .guest ∧ s.passed e = true then .settling else .idle)) ∧
          ((∀ e, s.findCard c = some e → e.link ≠ some (b, start)) → u.cards = s.cards)))) ∧
  ((∀ (s : State) (start : Time), s.busy = false →
      changes (.collectTrip (beBytes 2 0 ++ beBytes 4 start.toNat)) 6 { code := .badArg, data := [] } s s) ∧
  (∀ (s : State) (b : Bike) (start : Time), s.busy = false → b ≠ 0 →
      ((∀ r, s.findTrip b = some r → r.stamp.start ≠ start) →
        changes (.collectTrip (beBytes 2 b.toNat ++ beBytes 4 start.toNat)) 6 { code := .notFound, data := [] } s s) ∧
      (∀ r, s.findTrip b = some r → r.stamp.start = start →
        ((∀ p, r.state = .priced p →
            r.unstampDock.isSome = true ∨ (r.unstamped = false ∧ (s.dock p.returnDock).bike = some b)) →
          changes (.collectTrip (beBytes 2 b.toNat ++ beBytes 4 start.toNat)) 6 { code := .state, data := [] } s s) ∧
        (∀ p, r.state = .priced p → r.unstampDock = none →
          (r.unstamped = true ∨ (s.dock p.returnDock).bike ≠ some b) →
          changes (.collectTrip (beBytes 2 b.toNat ++ beBytes 4 start.toNat)) 6
            { code := .ok, data := tripImage r }
            { s with trips := s.trips.filter (fun x => decide (x.bike ≠ b)),
                     agenda := { s.agenda with trips := true } } s))))

/-- Arguments that break a check of R104 are refused with BAD_ARG and change nothing. Otherwise the plan
of that number in STAGED becomes undefined, with every field 0, where the band count is 0, and else
takes U, G, f, D, the band count and the bands below it as written, with the last length and every
band beyond 0. The result is OK with no data; every other plan, the station terms and the other
banks stay. -/
def Obligations.PlanWritten : Prop :=
  ∀ (s : State) (args : List Byte), args.length = 29 → s.busy = false →
    let n := field args 8 1
    let bandOk := fun i : Nat =>
      (i + 1 < n → 1 ≤ field args (9 + 5 * i) 2 ∧ field args (9 + 5 * i) 2 ≤ 1440) ∧
      (i < n → 1 ≤ field args (11 + 5 * i) 1 ∧ field args (11 + 5 * i) 1 ≤ 60)
    let band := fun i : Nat =>
      if i < n then
        { length := if i + 1 < n then field args (9 + 5 * i) 2 else 0, block := field args (11 + 5 * i) 1,
          rate := field args (12 + 5 * i) 2 : Band }
      else { length := 0, block := 0, rate := 0 : Band }
    let plan : Plan :=
      if n = 0 then Plan.undefined
      else
        { unlock := field args 1 2, grace := field args 3 2, factor := field args 5 1,
          cap := field args 6 2, count := n, band0 := band 0, band1 := band 1, band2 := band 2,
          band3 := band 3 }
    (¬(field args 0 1 ≤ 7 ∧ field args 3 2 ≤ 3600 ∧ n ≤ 4 ∧ bandOk 0 ∧ bandOk 1 ∧ bandOk 2 ∧ bandOk 3) →
      changes (.writePlan args) 29 { code := .badArg, data := [] } s s) ∧
    (∀ p : Fin 8, field args 0 1 = p.val → field args 3 2 ≤ 3600 → n ≤ 4 → bandOk 0 → bandOk 1 → bandOk 2 →
      bandOk 3 →
      ∃ u, changes (.writePlan args) 29 { code := .ok, data := [] } u s ∧
        u.fare.staged.plans.get p = plan ∧
        (∀ q : Fin 8, q ≠ p → u.fare.staged.plans.get q = s.fare.staged.plans.get q) ∧
        u.fare = { s.fare with staged := { s.fare.staged with plans := u.fare.staged.plans } } ∧
        u = { s with fare := u.fare, port := u.port })

/-- A W above 30 is refused with BAD_ARG and leaves STAGED as it was; otherwise STAGED's K and W take
the values written and the result is OK with no data, and nothing else changes. It is a change
command, discarded while another is BUSY. The terms go into force with the plans at the next
rotation. -/
def Obligations.StationTermsWritten : Prop :=
  (∀ (s : State) (k : Nat) (w : Byte), k < 65536 → s.busy = false →
      (30 < w.toNat → changes (.writeStationTerms (beBytes 2 k ++ [w])) 3 { code := .badArg, data := [] } s s) ∧
      (w.toNat ≤ 30 → changes (.writeStationTerms (beBytes 2 k ++ [w])) 3 { code := .ok, data := [] }
        { s with fare := { s.fare with staged := { s.fare.staged with k := k, w := w.toNat } } } s)) ∧
  changesGated .writeStationTerms 3 ∧
  (∀ (s : State) (g : Fin 16) (t : Time), s.fare.activation = some (g, t) → s.clock.isSet = true →
      (s.clock.time - t).toNat < 2 ^ 31 → (∃ p, (s.fare.staged.plan p).count ≠ 0) →
      ∃ u, exec .activationReached s = .next (finishEvent u) ∧ u.fare.current.k = s.fare.staged.k ∧
        u.fare.current.w = s.fare.staged.w ∧ u.fare.current.plans = s.fare.staged.plans)

/-- The checks in order: a generation above 15 gives BAD_ARG, STAGED without a defined plan STATE, the
generation of a valid CURRENT BAD_ARG; nothing is then changed. Otherwise the activation becomes
pending, replacing one already held, with OK; one not yet reached waits, and one already reached
(clock set, (now − at) modulo 2^32 below 2^31) rotates the banks within the command.
ACTIVATION_REACHED tests the pending activation (log 13). Reached, with a defined plan in STAGED:
PREVIOUS takes CURRENT whole, CURRENT takes STAGED with the generation of the activation and valid
true, STAGED is emptied, no activation is pending, the outcome is TAKEN, and the Trip Table's retry
pass is due. Reached with no defined plan: WITHDRAWN, the banks as they were. Not reached, or none
pending: no own work. No other block's records change before the event's end. -/
def Obligations.ActivationsTested : Prop :=
  (∀ (s : State) (g : Byte) (at_ : Time), s.busy = false →
    (15 < g.toNat →
      changes (.activateTariff (g :: beBytes 4 at_.toNat)) 5 { code := .badArg, data := [] } s s) ∧
    (∀ gen : Fin 16, g.toNat = gen.val →
      ((∀ p : Fin 8, (s.fare.staged.plans.get p).count = 0) →
        changes (.activateTariff (g :: beBytes 4 at_.toNat)) 5 { code := .state, data := [] } s s) ∧
      (∀ p : Fin 8, (s.fare.staged.plans.get p).count ≠ 0 →
        (s.fare.current.valid = true → s.fare.current.generation = gen →
          changes (.activateTariff (g :: beBytes 4 at_.toNat)) 5 { code := .badArg, data := [] } s s) ∧
        ((s.fare.current.valid = true → s.fare.current.generation ≠ gen) →
          (s.clock.isSet = false ∨ 2 ^ 31 ≤ (s.clock.time - at_).toNat →
            changes (.activateTariff (g :: beBytes 4 at_.toNat)) 5 { code := .ok, data := [] }
              { s with fare := { s.fare with activation := some (gen, at_) } } s) ∧
          (s.clock.isSet = true → (s.clock.time - at_).toNat < 2 ^ 31 →
            changes (.activateTariff (g :: beBytes 4 at_.toNat)) 5 { code := .ok, data := [] }
              { s with
                fare :=
                  { current := { s.fare.staged with generation := gen, valid := true },
                    previous := s.fare.current, staged := Bank.empty, activation := none,
                    lastOutcome := .taken },
                agenda := { s.agenda with trips := true } } s))))) ∧
  (∀ s : State,
    (∀ g t, s.fare.activation = some (g, t) → s.clock.isSet = true → (s.clock.time - t).toNat < 2 ^ 31 →
      ((∃ p : Fin 8, (s.fare.staged.plans.get p).count ≠ 0) →
        exec .activationReached s = .next (finishEvent
          { s with
            fare :=
              { current := { s.fare.staged with generation := g, valid := true },
                previous := s.fare.current, staged := Bank.empty, activation := none,
                lastOutcome := .taken },
            agenda := { s.agenda with trips := true } })) ∧
      ((∀ p : Fin 8, (s.fare.staged.plans.get p).count = 0) →
        exec .activationReached s = .next (finishEvent
          { s with fare := { s.fare with activation := none, lastOutcome := .withdrawn } }))) ∧
    ((s.fare.activation = none ∨ s.clock.isSet = false ∨
        (∀ g t, s.fare.activation = some (g, t) → 2 ^ 31 ≤ (s.clock.time - t).toNat)) →
      exec .activationReached s = .next (finishEvent s)))

/-- With d the clamped duration, c = d − G where d exceeds G and 0 otherwise, GRACE exactly for c = 0,
and m = ceil(c / 60). The bands in use are walked in index order: band i takes min(M, length), the
last one all that remains, and adds ceil(t / block) × rate. With D above 0, days = ceil(d / 86,400),
at least 1, and raw above D × days becomes D × days with CAPPED. scaled = floor((raw × f + 64) /
128). The sum above 65535 becomes 65535 with SATURATED; a sum then above C becomes C with CEILING,
and the fare is within 0..65535 and at most C. For stored plans raw and scaled stay within the
40-bit accumulator. -/
def Obligations.FareStages : Prop :=
  (∀ (p : Plan) (k duration ceiling : Nat) (inc gf pf : Bool),
      let x := computeFare p k duration ceiling inc gf pf
      let d := (clampDuration duration).1
      let c := if p.grace < d then d - p.grace else 0
      let m := (c + 59) / 60
      let days := if p.cap = 0 then 0 else max 1 ((d + 86399) / 86400)
      let raw := if p.cap ≠ 0 ∧ p.cap * days < walkBands p.bands m 0 then p.cap * days else walkBands p.bands m 0
      let scaled := (raw * p.factor + 64) / 128
      let sum := if inc then scaled + p.unlock - k else scaled + p.unlock
      (x.flags.grace = true ↔ c = 0) ∧ x.minutes = m ∧ x.raw = raw ∧
      (p.cap ≠ 0 → x.days = max 1 ((d + 86399) / 86400)) ∧
      (x.flags.capped = true ↔ p.cap ≠ 0 ∧ p.cap * days < walkBands p.bands m 0) ∧
      (x.flags.saturated = true ↔ 65535 < sum) ∧
      (x.flags.ceiling = true ↔ ceiling < min sum 65535) ∧
      x.fare = min (min sum 65535) ceiling ∧ x.fare ≤ 65535 ∧ x.fare ≤ ceiling ∧
      d ≤ 604800 ∧ m ≤ 10080 ∧ (p.cap ≠ 0 → days ≤ 7) ∧
      (ceiling = 65535 → x.flags.ceiling = false) ∧
      (x.flags.saturated = true → (x.flags.ceiling = true ↔ ceiling < 65535))) ∧
  (∀ (b : Band) (left raw : Nat), walkBands [b] left raw = raw + (left + b.block - 1) / b.block * b.rate) ∧
  (∀ (b c : Band) (rest : List Band) (left raw : Nat), walkBands (b :: c :: rest) left raw =
      walkBands (c :: rest) (left - min left b.length)
        (raw + (min left b.length + b.block - 1) / b.block * b.rate)) ∧
  (∀ left raw : Nat, walkBands [] left raw = raw) ∧
  (∀ raw : Nat, (raw * 128 + 64) / 128 = raw ∧ (raw * 0 + 64) / 128 = 0) ∧
  (∀ p : Plan, p.bands = [p.band0, p.band1, p.band2, p.band3].take p.count) ∧
  (∀ (p : Plan) (k duration ceiling : Nat) (inc gf pf : Bool), p.count ≤ 4 → p.factor ≤ 255 →
      (∀ b ∈ p.bands, 1 ≤ b.block ∧ b.rate ≤ 65535) →
      (computeFare p k duration ceiling inc gf pf).raw ≤ 660592800 ∧
      (computeFare p k duration ceiling inc gf pf).raw * p.factor < 2 ^ 38 ∧
      ((computeFare p k duration ceiling inc gf pf).raw * p.factor + 64) / 128 < 2 ^ 31)

/-- CURRENT prices a stamp of its generation where it is valid, else a valid PREVIOUS of that
generation, else a valid CURRENT with GEN_FALLBACK, else no bank. In the bank the stamp's plan is
used where defined, else plan 0 with PLAN_FALLBACK, else no bank prices it and the other is not
tried. The duration is (E − S) modulo 2^32; 2^31 or more becomes 0 with SKEW, more than 604,800
becomes 604,800 with OVERLONG. The incentive applies exactly where K is above 0, fewer than W other
docks are hireable, and no DROP move is to do. The count for a return is that of the docks other
than the returning one that are hireable now, and for a quote that of all hireable docks; a DROP
move is to do while the manifest is ACTIVE or SUSPENDED with a DROP move in OPEN, RESERVED or SHORT. -/
def Obligations.FareSelection : Prop :=
  (∀ (f : FareUnit) (st : StampFields) (e : Time) (h : Nat) (drop : Bool),
    (∀ (b : Bank) (gf : Bool),
      ((f.current.valid = true ∧ f.current.generation = st.generation ∧ b = f.current ∧ gf = false) ∨
       (¬(f.current.valid = true ∧ f.current.generation = st.generation) ∧ f.previous.valid = true ∧
          f.previous.generation = st.generation ∧ b = f.previous ∧ gf = false) ∨
       (f.current.generation ≠ st.generation ∧
          ¬(f.previous.valid = true ∧ f.previous.generation = st.generation) ∧
          f.current.valid = true ∧ b = f.current ∧ gf = true)) →
      ((b.plans.get st.plan).count = 0 → (b.plans.get 0).count = 0 → f.price st e h drop = none) ∧
      (∀ (p : Fin 8) (pf : Bool),
        (((b.plans.get st.plan).count ≠ 0 ∧ p = st.plan ∧ pf = false) ∨
         ((b.plans.get st.plan).count = 0 ∧ (b.plans.get 0).count ≠ 0 ∧ p = 0 ∧ pf = true)) →
        f.price st e h drop = some (computeFare (b.plans.get p) b.k (e - st.start).toNat st.ceiling
          (decide (0 < b.k ∧ h < b.w ∧ drop = false)) gf pf))) ∧
    (f.current.valid = false → ¬(f.previous.valid = true ∧ f.previous.generation = st.generation) →
      f.price st e h drop = none) ∧
    (∀ (p : Plan) (k d ceiling : Nat) (inc gf pf : Bool),
      (computeFare p k d ceiling inc gf pf).flags.skew = decide (2 ^ 31 ≤ d) ∧
      (computeFare p k d ceiling inc gf pf).flags.overlong = decide (604800 < d ∧ d < 2 ^ 31) ∧
      (computeFare p k d ceiling inc gf pf).flags.incentive = inc ∧
      (computeFare p k d ceiling inc gf pf).flags.genFallback = gf ∧
      (computeFare p k d ceiling inc gf pf).flags.planFallback = pf ∧
      (clampDuration d).1 = if 2 ^ 31 ≤ d then 0 else min d 604800)) ∧
  (∀ (s : State) (d : Dock),
      s.hireableOthers d = (List.finRange 30).countP (fun e => decide (e ≠ d ∧ s.hireable e = true)) ∧
      s.hireableCount = (List.finRange 30).countP s.hireable ∧
      (s.dropToDo = true ↔ ∃ a, s.manifest.active = some a ∧ (a.phase = .active ∨ a.phase = .suspended) ∧
        ∃ m ∈ a.moves, m.kind = .drop ∧ (m.state = .opened ∨ m.state = .reserved ∨ m.state = .short)))

/-- A subject type above 3, or a number outside the range of its subject, is refused with BAD_ARG; a
subject that has a HOST_REPORTED record gives EXISTS; a full table with no SUSPECT record gives FULL
and leaves FAULT_FULL as it is; nothing is then changed. With a slot free, the record is created in
the lowest free slot: HOST_REPORTED, ACTIVE, count 0, no reporters, first_time now, seen false; the
data give the slot and every other record stays. In a full table the SUSPECT record of lowest order
gives up its slot to it. The slot taken is free and every lower one is in use; none is free where
all 32 are. -/
def Obligations.FaultRaised : Prop :=
  ((∀ (s : State) (type : Byte) (number : Nat), number < 65536 → s.busy = false →
      (readSubject type.toNat number = none →
        changes (.raiseFault (type :: beBytes 2 number)) 3 { code := .badArg, data := [] } s s) ∧
      (∀ subject, readSubject type.toNat number = some subject →
        ((s.findFault subject .hostReported).isSome = true →
          changes (.raiseFault (type :: beBytes 2 number)) 3 { code := .exists, data := [] } s s) ∧
        (s.findFault subject .hostReported = none → s.freeFaultSlot = none →
          (∀ r ∈ s.faults.records, r.state ≠ .suspect) →
          changes (.raiseFault (type :: beBytes 2 number)) 3 { code := .full, data := [] } s s) ∧
        (∀ i, s.findFault subject .hostReported = none → s.freeFaultSlot = some i →
          ∃ u, changes (.raiseFault (type :: beBytes 2 number)) 3 { code := .ok, data := [byte i.val] } u s ∧
            u.faults.records = insertFault
              { slot := i, subject := subject, kind := .hostReported, state := .active, count := 0,
                reporters := [], firstTime := s.clock.time, seen := false, order := s.faults.nextOrder }
              s.faults.records ∧
            u.faults.full = s.faults.full) ∧
        (∀ r, s.faultsOk → s.findFault subject .hostReported = none → s.freeFaultSlot = none →
          r ∈ s.faults.records → r.state = .suspect →
          (∀ x ∈ s.faults.records, x.state = .suspect → x = r ∨ r.order < x.order) →
          ∃ u, changes (.raiseFault (type :: beBytes 2 number)) 3 { code := .ok, data := [byte r.slot.val] } u s ∧
            u.faults.full = s.faults.full ∧ r ∉ u.faults.records ∧
            (∃ x ∈ u.faults.records, x.slot = r.slot ∧ x.subject = subject ∧ x.kind = .hostReported ∧
              x.state = .active ∧ x.seen = false) ∧
            (∀ x ∈ s.faults.records, x ≠ r → x ∈ u.faults.records)))) ∧
  (∀ type number : Nat, readSubject type number =
      if h : type = 0 ∧ 1 ≤ number ∧ number ≤ 30 then some (.dock ⟨number - 1, by omega⟩)
      else if type = 1 ∧ 1 ≤ number ∧ number ≤ 65535 then some (.bike (BitVec.ofNat 16 number))
      else if h : type = 2 ∧ number < 30 then some (.segment ⟨number, h.2⟩)
      else if type = 3 ∧ number = 0 then some .terminal
      else none)) ∧
  (∀ s : State,
      (∀ i, s.freeFaultSlot = some i →
        (∀ r ∈ s.faults.records, r.slot ≠ i) ∧ ∀ j, j < i → ∃ r ∈ s.faults.records, r.slot = j) ∧
      (s.freeFaultSlot = none → ∀ j, ∃ r ∈ s.faults.records, r.slot = j))

/-- A subject type above 3 or a kind above 9 is refused with BAD_ARG; where no record has the subject
and kind the result is NOT_FOUND; NO_CONTACT and LINE_SPLIT records, and sensed records in CLEARING,
give STATE; nothing is then changed. An ACTIVE record of another sensed kind becomes CLEARING with
count 0 and every other record stays. A SUSPECT record of such a kind, and every RIDER_REPORT,
SERVICE_MARK and HOST_REPORTED record, is retired, and FAULT_FULL becomes false. The data of an OK
are 2 for CLEARING and 255 for retired. A retired BUTTON_STUCK record takes its button mask away. A
retired bike fault that leaves none ACTIVE for its bicycle makes it the unmark of the lowest dock
that holds it, with a MARK that clears queued and pending where that dock is OCCUPIED, not LOST,
shows the mark and has no such MARK pending; where one stays ACTIVE, or no dock holds the bicycle,
no unmark changes. -/
def Obligations.FaultCleared : Prop :=
  ∀ (s : State) (type kind : Byte) (number : Nat), number < 65536 → s.busy = false →
    (3 < type.toNat ∨ 9 < kind.toNat →
      changes (.clearFault (type :: beBytes 2 number ++ [kind])) 4 { code := .badArg, data := [] } s s) ∧
    (∀ k, type.toNat ≤ 3 → faultKindOf kind.toNat = some k →
      (readSubject type.toNat number = none →
        changes (.clearFault (type :: beBytes 2 number ++ [kind])) 4 { code := .notFound, data := [] } s s) ∧
      (∀ subject, readSubject type.toNat number = some subject →
        (s.findFault subject k = none →
          changes (.clearFault (type :: beBytes 2 number ++ [kind])) 4 { code := .notFound, data := [] } s s) ∧
        (∀ r, s.faultsOk → s.findFault subject k = some r →
          (k = .noContact ∨ k = .lineSplit ∨ (k.origin = 0 ∧ r.state = .clearing) →
            changes (.clearFault (type :: beBytes 2 number ++ [kind])) 4 { code := .state, data := [] } s s) ∧
          (k.origin = 0 → k ≠ .noContact → k ≠ .lineSplit → r.state = .active →
            ∃ u, changes (.clearFault (type :: beBytes 2 number ++ [kind])) 4 { code := .ok, data := [2] } u s ∧
              u.faults.records = s.faults.records.map (fun x =>
                if x = r then { x with state := .clearing, count := 0 } else x)) ∧
          (k.origin ≠ 0 ∨ (k ≠ .noContact ∧ k ≠ .lineSplit ∧ r.state = .suspect) →
            ∃ u, changes (.clearFault (type :: beBytes 2 number ++ [kind])) 4 { code := .ok, data := [255] } u s ∧
              u.faults.records = s.faults.records.filter (fun x => decide (x ≠ r)) ∧
              u.faults.full = false ∧
              (∀ d, subject = .dock d → k = .buttonStuck → (u.link (dockNode d)).buttonMask = false) ∧
              ((∀ b, subject ≠ .bike b) → u.faults.docks = s.faults.docks) ∧
              (∀ b, subject = .bike b →
                ((∃ y ∈ s.faults.records, y ≠ r ∧ y.subject = .bike b ∧ y.state = .active) ∨
                    (∀ d, (s.dock d).bike ≠ some b) → u.faults.docks = s.faults.docks) ∧
                (∀ d, (∀ y ∈ s.faults.records, y ≠ r → y.subject = .bike b → y.state ≠ .active) →
                  (s.dock d).bike = some b → (∀ e, e < d → (s.dock e).bike ≠ some b) →
                  (∀ e, e ≠ d → u.faultDock e = s.faultDock e) ∧
                  (let f := s.faultDock d
                   let marks : Prop := (s.dock d).occupancy = .occupied ∧
                     (s.link (dockNode d)).contact ≠ .lost ∧ (s.dock d).serviceMark = true ∧
                     f.markPending ≠ some (false, b)
                   (¬marks → u.faultDock d = { f with unmark := some b }) ∧
                   (marks → u.faultDock d = { f with unmark := some b, markPending := some (false, b) } ∧
                     (s.string.flight.isSome = true → (s.string.queue.filter (fun q => decide (q.verb ≠ .survey ∧ q.verb ≠ .lampShow))).length ≤ 39 → ∃ q ∈ u.string.queue,
                       q.target = .node (dockNode d) ∧ q.verb = .mark ∧ q.args = [0] ∧
                       .faultTable b ∈ q.originators)))))))))

/-- STAGE_HEADER breaking a range gives BAD_ARG, then a held buffer STATE, and the buffer stays;
otherwise the header takes the values written, every move is unwritten and the buffer is STAGED, not
held. STAGE_MOVE gives STATE for an EMPTY or held buffer, BAD_ARG for an index not below move_count,
a kind above 1, a dock above 30 or a bike on a DROP, and EXISTS where another index names the same
dock or bicycle, and changes nothing; otherwise the move at the index is written, OPEN, and every
other move stays. OK carries no data, and no other record changes. -/
def Obligations.ManifestStaged : Prop :=
  (∀ (s : State) (number : Nat) (card : CardNo) (minutes follow count : Byte), number < 65536 → s.busy = false →
      let cmd := Instr.stageHeader (beBytes 2 number ++ beBytes 5 card.toNat ++ [minutes, follow, count])
      let bad := number = 0 ∨ minutes.toNat < 1 ∨ 240 < minutes.toNat ∨ 1 < follow.toNat ∨ count.toNat < 1 ∨
        16 < count.toNat
      (bad → changes cmd 10 { code := .badArg, data := [] } s s) ∧
      (¬bad → (∃ g, s.manifest.staged = some g ∧ g.held = true) →
        changes cmd 10 { code := .state, data := [] } s s) ∧
      (¬bad → (∀ g, s.manifest.staged = some g → g.held = false) →
        changes cmd 10 { code := .ok, data := [] }
          { s with
            manifest :=
             { s.manifest with
              staged := some
                { header := { number := number, crewCard := card, expiryMinutes := minutes.toNat,
                              followOn := decide (follow = 1), moveCount := count.toNat },
                  moves := Vector.replicate 16 none, held := false } } } s)) ∧
  (∀ (s : State) (i kind dock : Byte) (bike : Bike), s.busy = false →
      let cmd := Instr.stageMove ([i, kind, dock] ++ beBytes 2 bike.toNat)
      (s.manifest.staged = none → changes cmd 5 { code := .state, data := [] } s s) ∧
      (∀ g, s.manifest.staged = some g →
        (g.held = true → changes cmd 5 { code := .state, data := [] } s s) ∧
        (g.held = false → g.header.moveCount ≤ i.toNat ∨ 1 < kind.toNat ∨ 30 < dock.toNat ∨ (kind = 1 ∧ bike ≠ 0) →
          changes cmd 5 { code := .badArg, data := [] } s s) ∧
        (g.held = false → ∀ j : Fin 16, i.toNat = j.val → j.val < g.header.moveCount → kind.toNat ≤ 1 →
          dock.toNat ≤ 30 → (kind = 1 → bike = 0) →
          ((∃ k : Fin 16, k ≠ j ∧ ∃ y, g.moves.get k = some y ∧
              ((dock ≠ 0 ∧ y.dock = dockOfNumber dock.toNat) ∨ (bike ≠ 0 ∧ y.bike = some bike))) →
            changes cmd 5 { code := .exists, data := [] } s s) ∧
          ((∀ k : Fin 16, k ≠ j → ∀ y, g.moves.get k = some y →
              (dock ≠ 0 → y.dock ≠ dockOfNumber dock.toNat) ∧ (bike ≠ 0 → y.bike ≠ some bike)) →
            changes cmd 5 { code := .ok, data := [] }
              { s with
                manifest :=
                 { s.manifest with
                  staged := some
                   { g with
                    moves := g.moves.set j.val (some
                      { kind := if kind = 0 then .pickup else .drop, dock := dockOfNumber dock.toNat,
                        bike := if bike = 0 then none else some bike, state := .opened, heldDock := none,
                        landedDock := none, doneDock := none, doneBike := none, latePull := false }) } } } s))))

/-- An EMPTY, held or incomplete staged buffer gives STATE; then the number of a manifest that is not
IDLE gives EXISTS; with the active buffer ACTIVE or SUSPENDED, or ENDED with a move RELEASING or
with previous_end present, follow_on makes the buffer held with OK and data 1, 0, 0, and no
follow_on gives STATE. A refused command changes nothing. Otherwise the manifest is activated within
the command: the active buffer takes the header, ACTIVE, its moves each RESERVED or SHORT, the
counter and reload are expiry_minutes × 60, the staged buffer is EMPTY, previous_end takes an ended
manifest, and the data are 0 and the counts of RESERVED and SHORT moves. The pass takes every move
in index order. A PICKUP takes a fit dock, OCCUPIED with its bike number and not unpriced: of a
bicycle named, the lowest dock that shows it, which must be a dock named besides; a dock named
alone; or the lowest with an ACTIVE bike fault, then the lowest closed, then the lowest. A DROP
takes a fit EMPTY dock: the one named, or the lowest not closed. Fit besides is REACHABLE,
unreserved, without a coil fault. A move placed is RESERVED with that held_dock, and the dock’s
reservation is PICKUP or DROP of its index, its lamp selected; otherwise it is SHORT; no other move
or dock record changes. The retry pass at the end of an event that calls for one does the same for
the SHORT moves of an ACTIVE buffer, and for no other buffer. In the premise of the retry, a failure
and step 4 of R171 come first (log 7). Step 4 of R171 activates a held manifest alike, where the
buffer is IDLE, or ENDED with no move RELEASING and previous_end absent. -/
def Obligations.ManifestCommitted : Prop :=
  ((∀ s : State, s.busy = false →
    (s.manifest.staged = none → changes (.commitManifest []) 0 { code := .state, data := [] } s s) ∧
    (∀ g, s.manifest.staged = some g →
      (g.held = true ∨ (∃ i, i < g.header.moveCount ∧ g.moves.toList[i]? = some none) →
        changes (.commitManifest []) 0 { code := .state, data := [] } s s) ∧
      (g.held = false → g.header.moveCount ≤ 16 → (∀ i, i < g.header.moveCount → g.moves.toList[i]? ≠ some none) →
        (∀ a, s.manifest.active = some a → a.header.number = g.header.number →
          changes (.commitManifest []) 0 { code := .exists, data := [] } s s) ∧
        (∀ a, s.manifest.active = some a → a.header.number ≠ g.header.number →
          (a.phase = .active ∨ a.phase = .suspended ∨ (∃ m ∈ a.moves, m.state = .releasing) ∨
            s.manifest.previousEnd.isSome = true) →
          (g.header.followOn = true → changes (.commitManifest []) 0 { code := .ok, data := [1, 0, 0] }
            { s with manifest := { s.manifest with staged := some { g with held := true } } } s) ∧
          (g.header.followOn = false → changes (.commitManifest []) 0 { code := .state, data := [] } s s)) ∧
        ((s.manifest.active = none ∨ ∃ a o, s.manifest.active = some a ∧ a.header.number ≠ g.header.number ∧
            a.phase = .ended o ∧ (∀ m ∈ a.moves, m.state ≠ .releasing) ∧ s.manifest.previousEnd = none) →
          ∃ u a, changes (.commitManifest []) 0
              { code := .ok, data := [0, byte (countMoves .reserved a.moves), byte (countMoves .short a.moves)] } u s ∧
            u.manifest.active = some a ∧ a.phase = .active ∧ a.header = g.header ∧
            a.moves.length = g.header.moveCount ∧ (∀ m ∈ a.moves, m.state = .reserved ∨ m.state = .short) ∧
            u.manifest.counter = g.header.expiryMinutes * 60 ∧ u.manifest.reload = g.header.expiryMinutes * 60 ∧
            u.manifest.staged = none ∧
            (s.manifest.active = none → u.manifest.previousEnd = s.manifest.previousEnd) ∧
            (∀ b o, s.manifest.active = some b → b.phase = .ended o → u.manifest.previousEnd = some
              { number := b.header.number, outcome := o, doneCount := countMoves .done b.moves }))))) ∧
  (∀ (s : State) (a : ActiveManifest) (i : Nat) (m : Move),
      s.manifest.active = some a → a.moves[i]? = some m →
      let noCoil : Dock → Prop := fun d => ∀ r ∈ s.faults.records, r.subject = .dock d →
        (r.kind = .coilOpen ∨ r.kind = .coilShort) → r.state = .suspect
      let free : Dock → Prop := fun d =>
        (s.link (dockNode d)).contact = .reachable ∧ (s.dock d).reservation = .none ∧ noCoil d
      let fit : Dock → Prop := fun d => free d ∧ (match m.kind with
        | .pickup => (s.dock d).occupancy = .occupied ∧ (s.dock d).bike ≠ none ∧ (s.dock d).unpriced = false
        | .drop => (s.dock d).occupancy = .empty)
      let faulty : Dock → Prop := fun d => ∃ r ∈ s.faults.records, ∃ b, r.subject = .bike b ∧
        r.state = .active ∧ (s.dock d).bike = some b
      let chosen : Dock → Prop := fun d => match m.kind with
        | .pickup => match m.bike with
          | some b => (s.dock d).bike = some b ∧ (∀ e, e < d → (s.dock e).bike ≠ some b) ∧
              (m.dock = none ∨ m.dock = some d) ∧ fit d
          | none => fit d ∧ (m.dock = some d ∨ (m.dock = none ∧
              ((faulty d ∧ ∀ e, e < d → fit e → ¬faulty e) ∨
                ((∀ e, fit e → ¬faulty e) ∧ s.closed d = true ∧ ∀ e, e < d → fit e → s.closed e = false) ∨
                ((∀ e, fit e → ¬faulty e ∧ s.closed e = false) ∧ ∀ e, e < d → ¬fit e))))
        | .drop => fit d ∧ (m.dock = some d ∨ (m.dock = none ∧ s.closed d = false ∧
            ∀ e, e < d → fit e → s.closed e = true))
      let put : Move → ManifestUnit := fun y =>
        { s.manifest with active := some { a with moves := a.moves.set i y } }
      (∀ d, chosen d → let t := placeMove i s
        t = { s with manifest := put { m with state := .reserved, heldDock := some d },
                     docks := t.docks, string := t.string, agenda := t.agenda } ∧
        (t.dock d).reservation = (match m.kind with | .pickup => .pickup i | .drop => .drop i) ∧
        (t.dock d).lamp = t.lampFor d ∧
        (∀ e, e ≠ d → (t.dock e).reservation = (s.dock e).reservation) ∧
        (∀ e, (t.dock e).known = (s.dock e).known ∧ (t.dock e).flash = (s.dock e).flash)) ∧
      ((∀ d, ¬chosen d) → placeMove i s = { s with manifest := put { m with state := .short } })) ∧
  (∀ (s : State) (g : StagedManifest), s.busy = false → s.manifest.staged = some g → g.held = false →
      g.written → (s.manifest.active = none ∨ ∃ a o, s.manifest.active = some a ∧
        a.header.number ≠ g.header.number ∧ a.phase = .ended o ∧ (∀ m ∈ a.moves, m.state ≠ .releasing) ∧
        s.manifest.previousEnd = none) →
      let taken : ActiveManifest :=
        { phase := .active, header := g.header,
          moves := (g.moves.toList.take g.header.moveCount).filterMap id }
      ∃ v r, r.code = .ok ∧ changes (.commitManifest []) 0 r
          ((List.range g.header.moveCount).foldl (fun x i => placeMove i x) v) s ∧
        v = { s with port := v.port, manifest := { s.manifest with
          staged := none, counter := g.header.expiryMinutes * 60, reload := g.header.expiryMinutes * 60,
          previousEnd := v.manifest.previousEnd, active := some taken } }) ∧
  (∀ s : State,
      ((∀ a, s.manifest.active = some a → a.phase ≠ .active) → manifestRetry s = s) ∧
      (∀ a, s.manifest.active = some a → a.phase = .active →
        manifestRetry s = (List.range a.moves.length).foldl (fun x i => match x.move? i with
          | some m => if m.state = .short then placeMove i x else x
          | none => x) s) ∧
      (∀ n, s.agenda.failures = [] → s.agenda.followOn = false → s.agenda.manifest = true →
        settle (n + 1) s = settle n (let u := manifestRetry s
          { u with agenda := { u.agenda with manifest := false } })))) ∧
  (∀ s : State,
      let may : Prop := s.manifest.active = none ∨ ∃ a o, s.manifest.active = some a ∧ a.phase = .ended o ∧
        (∀ m ∈ a.moves, m.state ≠ .releasing) ∧ s.manifest.previousEnd = none
      (∀ g, s.manifest.staged = some g → g.held = true → may →
        let taken : ActiveManifest :=
          { phase := .active, header := g.header,
            moves := (g.moves.toList.take g.header.moveCount).filterMap id }
        let before : Option PreviousEnd := match s.manifest.active with
          | some a => (match a.phase with
            | .ended o =>
              some { number := a.header.number, outcome := o, doneCount := countMoves .done a.moves }
            | .active => s.manifest.previousEnd
            | .suspended => s.manifest.previousEnd)
          | none => s.manifest.previousEnd
        followOn s = (List.range taken.moves.length).foldl (fun x i => placeMove i x)
          { s with manifest := { s.manifest with
            staged := none, counter := g.header.expiryMinutes * 60, reload := g.header.expiryMinutes * 60,
            previousEnd := before, active := some taken } }) ∧
      ((∀ g, s.manifest.staged = some g → g.held = true → ¬may) → followOn s = s) ∧
      (∀ n, s.agenda.failures = [] → s.agenda.followOn = true →
        settle (n + 1) s = settle n (followOn { s with agenda := { s.agenda with followOn := false } })))

/-- SUSPEND_MANIFEST is taken while ACTIVE and RESUME_MANIFEST while SUSPENDED: the phase changes, and
after a resume a retry pass is due; both give STATE otherwise. CANCEL_MANIFEST with target 0 ends an
ACTIVE or SUSPENDED manifest CANCELLED where no follow-on is held, or one must wait for a RELEASING
move or for previous_end: it is ENDED with its moves kept but for landed_dock, every crew request
leaves the release queue, and every reservation is NONE. Where a follow-on is held and may follow,
it is activated in the same event: ACTIVE, its moves each RESERVED or SHORT, the counter and reload
from its header, the staged buffer EMPTY, and previous_end takes the number, the outcome and the
DONE count of the manifest that ended; with target 1 a STAGED buffer becomes EMPTY; another target
gives BAD_ARG, and STATE otherwise. SET_EXPIRY of 1..240 minutes on an ACTIVE or SUSPENDED manifest
sets only the reload to minutes × 60; outside the range BAD_ARG, otherwise STATE. Each OK carries no
data; a refused command changes nothing. A previous_end of that number becomes absent; otherwise an
ENDED active buffer of that number with no move RELEASING becomes IDLE; either gives OK with no
data, and step 4 of R171 is due at the end of the event, where a held follow-on that may follow is
activated. ENDED with a move RELEASING gives STATE, and every other case NOT_FOUND, with nothing
changed. In an activation each move RESERVED holds a dock reserved for its index, placed by the pass
that ManifestCommitted states. -/
def Obligations.ManifestSteering : Prop :=
  (∀ s : State, s.busy = false →
    (∀ a, s.manifest.active = some a → a.phase = .active →
      changes (.suspendManifest []) 0 { code := .ok, data := [] }
        { s with manifest := { s.manifest with active := some { a with phase := .suspended } } } s) ∧
    ((∀ a, s.manifest.active = some a → a.phase ≠ .active) →
      changes (.suspendManifest []) 0 { code := .state, data := [] } s s) ∧
    (∀ a, s.manifest.active = some a → a.phase = .suspended →
      changes (.resumeManifest []) 0 { code := .ok, data := [] }
        { s with manifest := { s.manifest with active := some { a with phase := .active } },
                 agenda := { s.agenda with manifest := true } } s) ∧
    ((∀ a, s.manifest.active = some a → a.phase ≠ .suspended) →
      changes (.resumeManifest []) 0 { code := .state, data := [] } s s) ∧
    (∀ a, s.manifest.active = some a → (a.phase = .active ∨ a.phase = .suspended) →
      (∀ g, s.manifest.staged = some g → g.held = true →
        (∃ m ∈ a.moves, m.state = .releasing) ∨ s.manifest.previousEnd.isSome = true) →
      ∃ u, changes (.cancelManifest [0]) 1 { code := .ok, data := [] } u s ∧
        u.manifest = { s.manifest with active := some { a with
          phase := .ended .cancelled, moves := a.moves.map (fun m => { m with landedDock := none }) } } ∧
        u.hire = { s.hire with queue := s.hire.queue.filter (fun q => decide (q.kind = .member)) } ∧
        (∀ d, (u.dock d).reservation = .none)) ∧
    (∀ a g, s.manifest.active = some a → (a.phase = .active ∨ a.phase = .suspended) →
      s.manifest.staged = some g → g.held = true → g.written → (∀ m ∈ a.moves, m.state ≠ .releasing) →
      s.manifest.previousEnd = none →
      ∃ u, changes (.cancelManifest [0]) 1 { code := .ok, data := [] } u s ∧ u.activated g ∧
        (∃ v, u = followOn v ∧ v.manifest.staged = some g ∧
          v.manifest.active = some { a with
            phase := .ended .cancelled, moves := a.moves.map (fun m => { m with landedDock := none }) } ∧
          (∀ d, (v.dock d).reservation = .none) ∧ v.faults = s.faults ∧ v.settings = s.settings ∧
          (∀ n, v.link n = s.link n) ∧ ∀ d, (v.dock d).known = (s.dock d).known) ∧
        u.manifest.previousEnd = some
          { number := a.header.number, outcome := .cancelled, doneCount := countMoves .done a.moves } ∧
        u.hire = { s.hire with queue := s.hire.queue.filter (fun q => decide (q.kind = .member)) }) ∧
    ((∀ a, s.manifest.active = some a → a.phase ≠ .active ∧ a.phase ≠ .suspended) →
      changes (.cancelManifest [0]) 1 { code := .state, data := [] } s s) ∧
    (s.manifest.staged.isSome = true → changes (.cancelManifest [1]) 1 { code := .ok, data := [] }
      { s with manifest := { s.manifest with staged := none } } s) ∧
    (s.manifest.staged = none → changes (.cancelManifest [1]) 1 { code := .state, data := [] } s s) ∧
    (∀ target : Byte, 1 < target.toNat →
      changes (.cancelManifest [target]) 1 { code := .badArg, data := [] } s s) ∧
    (∀ minutes : Byte, minutes.toNat < 1 ∨ 240 < minutes.toNat →
      changes (.setExpiry [minutes]) 1 { code := .badArg, data := [] } s s) ∧
    (∀ minutes : Byte, 1 ≤ minutes.toNat → minutes.toNat ≤ 240 →
      (∀ a, s.manifest.active = some a → (a.phase = .active ∨ a.phase = .suspended) →
        changes (.setExpiry [minutes]) 1 { code := .ok, data := [] }
          { s with manifest := { s.manifest with reload := minutes.toNat * 60 } } s) ∧
      ((∀ a, s.manifest.active = some a → a.phase ≠ .active ∧ a.phase ≠ .suspended) →
        changes (.setExpiry [minutes]) 1 { code := .state, data := [] } s s))) ∧
  (∀ (s : State) (n : Nat), n < 65536 → s.busy = false →
    (∀ e, s.manifest.previousEnd = some e → e.number = n →
      changes (.ackManifest (beBytes 2 n)) 2 { code := .ok, data := [] }
        { s with manifest := { s.manifest with previousEnd := none }, agenda := { s.agenda with followOn := true } } s) ∧
    ((∀ e, s.manifest.previousEnd = some e → e.number ≠ n) →
      (∀ a o, s.manifest.active = some a → a.phase = .ended o → a.header.number = n →
        ((∀ m ∈ a.moves, m.state ≠ .releasing) →
          changes (.ackManifest (beBytes 2 n)) 2 { code := .ok, data := [] }
            { s with manifest := { s.manifest with active := none }, agenda := { s.agenda with followOn := true } } s) ∧
        ((∃ m ∈ a.moves, m.state = .releasing) →
          changes (.ackManifest (beBytes 2 n)) 2 { code := .state, data := [] } s s)) ∧
      ((∀ a o, s.manifest.active = some a → a.phase = .ended o → a.header.number ≠ n) →
        changes (.ackManifest (beBytes 2 n)) 2 { code := .notFound, data := [] } s s))) ∧
  (∀ (s : State) (n : Nat) (g : StagedManifest), n < 65536 → s.busy = false → s.quiet →
    s.manifest.staged = some g → g.held = true → g.written →
    (∀ e, s.manifest.previousEnd = some e → e.number = n →
      (s.manifest.active = none → ∃ t, exec (.ackManifest (beBytes 2 n)) s = .next t ∧ t.activated g ∧
        t.manifest.previousEnd = none) ∧
      (∀ a o, s.manifest.active = some a → a.phase = .ended o → (∀ m ∈ a.moves, m.state ≠ .releasing) →
        ∃ t, exec (.ackManifest (beBytes 2 n)) s = .next t ∧ t.activated g ∧
          t.manifest.previousEnd = some
            { number := a.header.number, outcome := o, doneCount := countMoves .done a.moves })) ∧
    ((∀ e, s.manifest.previousEnd = some e → e.number ≠ n) →
      ∀ a o, s.manifest.active = some a → a.phase = .ended o → a.header.number = n →
        (∀ m ∈ a.moves, m.state ≠ .releasing) →
        ∃ t, exec (.ackManifest (beBytes 2 n)) s = .next t ∧ t.activated g ∧
          t.manifest.previousEnd = s.manifest.previousEnd))

/-- MANIFEST_EXPIRY on an ACTIVE manifest (log 13) takes the counter to 0 and, where no follow-on is
held, or one must wait for a RELEASING move or for previous_end, ends the manifest: ENDED with
outcome EXPIRED, the moves in their states with landed_dock absent, every reservation NONE, crew
requests dropped from the release queue and member requests kept, and no refusal shown. Where a
follow-on is held and may follow, it is activated in the same event: ACTIVE, its moves each RESERVED
or SHORT, the counter and reload from its header, the staged buffer EMPTY, and previous_end takes
the number, EXPIRED and the DONE count of the manifest that ended. Where the buffer is not ACTIVE
nothing happens. A seconds tick takes 1 off the counter of an ACTIVE manifest and of no other; the
tick that takes it to 0 does what MANIFEST_EXPIRY does. Its look at a dock’s van_unstamp makes it
absent where the dock’s bicycle is absent or another, changes nothing where the dock is LOST or has
an UNSTAMP queued, and else queues an UNSTAMP. The end of that UNSTAMP, GOOD, makes van_unstamp
absent and clears the dock’s stamp; failed, it changes nothing. In an activation each move RESERVED
holds a dock reserved for its index, placed by the pass that ManifestCommitted states. That end is
handed to the Manifest Unit: GOOD with its answer’s last character, failed with the window of its
last attempt or refused by a full queue. -/
def Obligations.ManifestExpires : Prop :=
  ((∀ s : State,
    (∀ a, s.manifest.active = some a → a.phase = .active →
      (∀ g, s.manifest.staged = some g → g.held = true →
        (∃ m ∈ a.moves, m.state = .releasing) ∨ s.manifest.previousEnd.isSome = true) →
      ∃ u, exec .manifestExpiry s = .next (finishEvent u) ∧
        u.manifest = { s.manifest with counter := 0, active := some { a with
          phase := .ended .expired, moves := a.moves.map (fun m => { m with landedDock := none }) } } ∧
        u.hire = { s.hire with queue := s.hire.queue.filter (fun q => decide (q.kind = .member)) } ∧
        (∀ d, (u.dock d).reservation = .none ∧ (u.dock d).flash = (s.dock d).flash ∧
          (u.dock d).occupancy = (s.dock d).occupancy ∧ (u.dock d).bike = (s.dock d).bike)) ∧
    (∀ a g, s.manifest.active = some a → a.phase = .active → s.manifest.staged = some g → g.held = true →
      g.written → (∀ m ∈ a.moves, m.state ≠ .releasing) → s.manifest.previousEnd = none →
      ∃ u, exec .manifestExpiry s = .next (finishEvent u) ∧ u.activated g ∧
        (∃ v, u = followOn v ∧ v.manifest.staged = some g ∧
          v.manifest.active = some { a with
            phase := .ended .expired, moves := a.moves.map (fun m => { m with landedDock := none }) } ∧
          (∀ d, (v.dock d).reservation = .none) ∧ v.faults = s.faults ∧ v.settings = s.settings ∧
          (∀ n, v.link n = s.link n) ∧ ∀ d, (v.dock d).known = (s.dock d).known) ∧
        u.manifest.previousEnd = some
          { number := a.header.number, outcome := .expired, doneCount := countMoves .done a.moves } ∧
        u.hire = { s.hire with queue := s.hire.queue.filter (fun q => decide (q.kind = .member)) } ∧
        (∀ d, (u.dock d).flash = (s.dock d).flash ∧ (u.dock d).occupancy = (s.dock d).occupancy ∧
          (u.dock d).bike = (s.dock d).bike)) ∧
    ((∀ a, s.manifest.active = some a → a.phase ≠ .active) → exec .manifestExpiry s = .next (finishEvent s))) ∧
  (∀ s : State,
      (s.manifest.active = none → counterTick s = s) ∧
      (∀ a, s.manifest.active = some a →
        (a.phase ≠ .active → counterTick s = s) ∧
        (a.phase = .active → 1 < s.manifest.counter → counterTick s =
          { s with manifest := { s.manifest with counter := s.manifest.counter - 1 } }) ∧
        (a.phase = .active → s.manifest.counter = 1 →
          exec .manifestExpiry s = .next (finishEvent (counterTick s))))) ∧
  (∀ (s : State) (d : Dock),
      (s.manifest.vanUnstamp.get d = none → vanTick d s = s) ∧
      (∀ b, s.manifest.vanUnstamp.get d = some b →
        let free := { s with manifest := { s.manifest with vanUnstamp := s.manifest.vanUnstamp.set d.val none d.isLt } }
        ((s.dock d).bike ≠ some b → vanTick d s = free) ∧
        ((s.dock d).bike = some b → ((s.link (dockNode d)).contact = .lost ∨
            ∃ q ∈ s.string.queue, q.target = .node (dockNode d) ∧ q.verb = .unstamp) → vanTick d s = s) ∧
        ((s.dock d).bike = some b → (s.link (dockNode d)).contact ≠ .lost →
          (∀ q ∈ s.string.queue, q.target = .node (dockNode d) → q.verb ≠ .unstamp) →
          s.string.flight.isSome = true → s.string.queue.length < 40 →
          vanTick d s = { s with string := { s.string with queue := s.string.queue ++
            [{ target := .node (dockNode d), verb := .unstamp, args := [], cross := false,
               originators := [.manifestUnit b] }] } }) ∧
        vanUnstampEnd d b false s = s ∧ (vanUnstampEnd d b true s).manifest = free.manifest ∧
        ((s.dock d).bike = some b → ((vanUnstampEnd d b true s).dock d).stampSeen = .none)))) ∧
  (∀ (s : State) (c : Call) (d : Dock) (b : Bike),
      s.string.flight = some (.call c) → c.crossOf = none → c.node = dockNode d →
      c.entry.target = .node (dockNode d) → c.entry.originators = [.manifestUnit b] → c.entry.verb = .unstamp →
      let ended : Bool → State → State := fun good v => vanUnstampEnd d b good v
      (∀ (got : List Byte) (data : Byte), c.phase = .answering got → got.length = 2 → sum8 (got ++ [data]) = 0 →
        ∃ v, exec (.stringCharacterReceived c.on data false) s = .next (finishEvent (freeString (ended true v))) ∧
        v = { s with string := v.string, docks := v.docks, faults := v.faults, agenda := v.agenda } ∧
        v.string.flight.isSome = true ∧
        ∀ e, ({ v.dock e with heldButton := false, resyncDue := false } : DockRecord).known =
          ({ s.dock e with heldButton := false, resyncDue := false } : DockRecord).known) ∧
      (1 + c.retries ≤ c.ended + 1 →
        ∃ v, exec .answerWindowExpiry s = .next (finishEvent (freeString (ended false v))) ∧
        v = { s with string := v.string, docks := v.docks, faults := v.faults, agenda := v.agenda } ∧
        v.string.flight.isSome = true ∧
        ∀ e, ({ v.dock e with heldButton := false, resyncDue := false } : DockRecord).known =
          ({ s.dock e with heldButton := false, resyncDue := false } : DockRecord).known) ∧
      deliverFailure c.entry s = ended false s)

/-- The data bytes of a call are the address (31 for a broadcast), the verb's code, the arguments and
one check, and their 8-bit sum is 0; the mark bit is set on the first character only. The SURVEY of
node 12 ends in E4h and the MARK setting the mark at dock 5 in D8h. The home end of nodes 0..15 is A
and of nodes 16..30 is B. A clear split indication of segment k becomes set exactly when node k has
reach YES on A and node k+1 has reach NO on A and YES on B; a set one becomes clear exactly when
node k+1 has reach YES on A. The condition character handed over reads 0 in every indication of the
host mask, and in BUTTON while the fault button mask is set. A character is nine bits: its data
bits, the least significant first, and then the mark bit, sent and received alike; fewer or more
bits are no character (log 25). A number of several bytes is sent most significant byte first. -/
def Obligations.CallsAndLinks : Prop :=
  (((∀ (t : Target) (v : Verb) (args : List Byte),
      (∃ check, callBytes t v args = t.address :: v.code :: (args ++ [check])) ∧
      sum8 (callBytes t v args) = 0 ∧
      (callChars t v args).map StringChar.data = callBytes t v args ∧
      (callChars t v args).map StringChar.mark = true :: List.replicate (args.length + 2) false) ∧
  callBytes (.node 12) .survey [] = [0x0C, 0x10, 0xE4] ∧
  callBytes (.node 5) .mark [1] = [0x05, 0x22, 0x01, 0xD8] ∧
  (∀ n : Node, (Target.node n).address.toNat = n.val) ∧ Target.all.address = 31) ∧
  ((∀ n : Node, homeEnd n = if n.val ≤ 15 then .A else .B) ∧
  (∀ near far : LinkRecord,
    (splitAfter near far false = true ↔ near.reachA = .yes ∧ far.reachA = .no ∧ far.reachB = .yes) ∧
    (splitAfter near far true = false ↔ far.reachA = .yes)) ∧
  (∀ (l : LinkRecord) (condition : Byte) (i : Fin 8),
    (l.handOver condition).getLsbD i.val =
      ((condition.getLsbD i.val || (l.heldButton && decide (i = 4))) &&
        !(l.hostMask.getLsbD i.val || (l.buttonMask && decide (i = 4))))))) ∧
  ((∀ c : StringChar, c.bits = [c.data.getLsbD 0, c.data.getLsbD 1, c.data.getLsbD 2, c.data.getLsbD 3,
        c.data.getLsbD 4, c.data.getLsbD 5, c.data.getLsbD 6, c.data.getLsbD 7, c.mark]) ∧
      (∀ s : State, s.sentBits = s.string.lastSent.flatMap (fun x => x.2.bits.map (fun b => (x.1, b)))) ∧
      (∀ (s : State) (e : StringEnd) (c : StringChar), s.receiveBits e c.bits =
        { s with pending := s.pending ++ [.stringCharacterReceived e c.data c.mark] }) ∧
      (∀ (s : State) (e : StringEnd) (bs : List Bool), bs.length ≠ 9 → s.receiveBits e bs = s)) ∧
  (∀ n v : Nat, beBytes 0 v = [] ∧ beBytes (n + 1) v = BitVec.ofNat 8 (v / 256 ^ n) :: beBytes n v)

/-- A character outside an attempt, during a broadcast's wait, or on the end not in use is discarded. On
the end in use: a mark bit begins the quiet wait of GARBLED; a first character that is not the
node's address begins that of MISMATCH; a character that leaves the answer incomplete is kept and a
fresh window runs; a complete answer whose sum is not 0 begins the quiet wait of GARBLED; during a
quiet wait the character is discarded and the wait runs afresh. Nothing else changes in these cases. -/
def Obligations.CharactersJudged : Prop :=
  ∀ (s : State) (e : StringEnd) (data : Byte) (mark : Bool),
    ((∀ c, s.string.flight ≠ some (.call c)) →
      exec (.stringCharacterReceived e data mark) s = .next (finishEvent s)) ∧
    (∀ c, s.string.flight = some (.call c) →
      (c.on ≠ e → exec (.stringCharacterReceived e data mark) s = .next (finishEvent s)) ∧
      (c.on = e →
        (∀ o, c.phase = .quiet o → exec (.stringCharacterReceived e data mark) s =
          .next (finishEvent (s.setCall { c with remaining := c.window }))) ∧
        (∀ got, c.phase = .answering got →
          (mark = true → exec (.stringCharacterReceived e data mark) s =
            .next (finishEvent (s.setCall { c with phase := .quiet .garbled, remaining := c.window }))) ∧
          (mark = false → got = [] → data ≠ c.entry.target.address →
            exec (.stringCharacterReceived e data mark) s =
              .next (finishEvent (s.setCall { c with phase := .quiet .mismatch, remaining := c.window }))) ∧
          (mark = false → (got ≠ [] ∨ data = c.entry.target.address) →
            (got.length + 1 ≠ c.entry.verb.answerData + 3 →
              exec (.stringCharacterReceived e data mark) s =
                .next (finishEvent (s.setCall { c with phase := .answering (got ++ [data]), remaining := c.window }))) ∧
            (got.length + 1 = c.entry.verb.answerData + 3 → sum8 (got ++ [data]) ≠ 0 →
              exec (.stringCharacterReceived e data mark) s =
                .next (finishEvent (s.setCall { c with phase := .quiet .garbled, remaining := c.window })))))))

/-- The last character of an answer that is complete, unmarked and sums to 0 ends an ordinary call that
carries no cross mark: the node's failure count becomes 0, its contact state REACHABLE and its reach
on the end used YES; the preferred end becomes the end used where flip is enabled and that end is
not the noted one, and otherwise stays. Settings, station time, supply state, banks and port stay.
Where the call is a SURVEY with a cross mark, the same link record follows, and the cross attempt is
sent at once, whole and with its window running from that instant (the choice of log 3): the same
call with one answer window on the end that is not then preferred, the ordinary answer kept for
handing over; no other link record, no entry of the queue and no other block changes. A GOOD cross
attempt counts no failure and leaves the contact state: the reach on its end becomes YES, the
preferred end becomes the home end where that is the end it used and else stays, and a BUTTON in it
is held for the next hand-over, which for a failed ordinary call is a later one. Before the outcome
is handed over the change is told: a node that becomes LOST, from the contact state at the take, has
a NO_CONTACT record, created ACTIVE unless one exists, and its dock resync_due; one that leaves LOST
has none; a segment that becomes split has a LINE_SPLIT record, and one no longer split none (with
slots free for them); a dock’s change of contact selects its lamp and makes a retry pass of the
manifest due. Where the attempt changes that reach, the split indications of the segments beside the
node follow R16’s three conditions, or its one for a set one (State.splitNext); every other one
stays, and the last change of each in the call’s attempts decides whether it has a LINE_SPLIT
record. -/
def Obligations.CallSucceeds : Prop :=
  ((∀ (s : State) (c : Call) (got : List Byte) (data : Byte),
    s.string.flight = some (.call c) → c.crossOf = none → (c.entry.verb ≠ .survey ∨ c.entry.cross = false) →
    c.phase = .answering got → (got ≠ [] ∨ data = c.entry.target.address) →
    got.length + 1 = c.entry.verb.answerData + 3 → sum8 (got ++ [data]) = 0 →
    ∃ u, exec (.stringCharacterReceived c.on data false) s = .next (finishEvent u) ∧
      (u.link c.node).failures = 0 ∧ (u.link c.node).contact = .reachable ∧
      (u.link c.node).reach c.on = .yes ∧
      (u.link c.node).reach (otherEnd c.on) = (s.link c.node).reach (otherEnd c.on) ∧
      (∀ n, n ≠ c.node → (u.link n).reachA = (s.link n).reachA ∧ (u.link n).reachB = (s.link n).reachB) ∧
      (∀ k, u.string.splits.get k = s.splitNext c .yes k) ∧
      (u.link c.node).preferred = (if c.flip = true ∧ c.on ≠ c.noted then c.on else (s.link c.node).preferred) ∧
      u.settings = s.settings ∧ u.clock = s.clock ∧ u.supply = s.supply ∧ u.fare = s.fare ∧ u.port = s.port) ∧
  (∀ (s : State) (c : Call) (got : List Byte) (data : Byte),
    s.string.flight = some (.call c) → c.crossOf = none → c.entry.verb = .survey → c.entry.cross = true →
    c.phase = .answering got → got.length = 2 → sum8 (got ++ [data]) = 0 →
    ∃ u c', exec (.stringCharacterReceived c.on data false) s = .next (finishEvent u) ∧
      u.string.flight = some (.call c') ∧
      c' = { c with crossOf := some (some { condition := got.getD 1 0, data := [] }),
                    on := otherEnd (u.link c.node).preferred, phase := .answering [],
                    remaining := c.window, splits := c.splits ++ s.splitChanges c .yes } ∧
      (∀ k, u.string.splits.get k = s.splitNext c .yes k) ∧
      u.string.lastSent = (callChars c.entry.target c.entry.verb c.entry.args).map (fun x => (c'.on, x)) ∧
      u.link c.node = { (s.link c.node).setReach c.on .yes with
        failures := 0, contact := .reachable,
        preferred := if c.flip = true ∧ c.on ≠ c.noted then c.on else (s.link c.node).preferred } ∧
      (∀ n, n ≠ c.node → u.link n = s.link n) ∧
      u = { s with string := { u.string with queue := s.string.queue } }) ∧
  (∀ (s : State) (c : Call) (result : Option Answer) (got : List Byte) (data : Byte),
    s.string.flight = some (.call c) → c.crossOf = some result → c.entry.verb = .survey →
    c.phase = .answering got → got.length = 2 → sum8 (got ++ [data]) = 0 →
    ∃ u, exec (.stringCharacterReceived c.on data false) s = .next (finishEvent u) ∧
      (u.link c.node).failures = (s.link c.node).failures ∧
      (u.link c.node).contact = (s.link c.node).contact ∧
      (u.link c.node).reach c.on = .yes ∧
      (∀ n, n ≠ c.node → (u.link n).reachA = (s.link n).reachA ∧ (u.link n).reachB = (s.link n).reachB) ∧
      (∀ k, u.string.splits.get k = s.splitNext c .yes k) ∧
      (u.link c.node).preferred =
        (if c.on = homeEnd c.node then homeEnd c.node else (s.link c.node).preferred) ∧
      (∀ d, c.node = dockNode d → (u.link c.node).heldButton =
        (result.isNone && ((s.link c.node).heldButton || (got.getD 1 0).getLsbD 4))) ∧
      u.settings = s.settings ∧ u.clock = s.clock ∧ u.supply = s.supply ∧ u.fare = s.fare ∧ u.port = s.port)) ∧
  (∀ (s : State) (c : Call), s.string.flight = some (.call c) → s.faultsOk →
      s.faults.records.length + c.splits.length ≤ 29 → c.crossOf = none → (c.entry.verb ≠ .survey ∨ c.entry.cross = false) →
      ∀ (got : List Byte) (data : Byte), c.phase = .answering got → (got ≠ [] ∨ data = c.entry.target.address) →
      got.length + 1 = c.entry.verb.answerData + 3 → sum8 (got ++ [data]) = 0 →
      ∃ v answer mark, exec (.stringCharacterReceived c.on data false) s =
          .next (finishEvent (freeString (handOutcome c.node c.entry answer mark v))) ∧
        v = { s with string := v.string, docks := v.docks, faults := v.faults, agenda := v.agenda } ∧
        v.string.flight.isSome = true ∧ (v.link c.node).contact = Contact.reachable ∧
        (Contact.reachable = .lost → c.contactAtTake ≠ .lost →
          (∀ r, s.findFault (nodeSubject c.node) .noContact = some r →
            v.findFault (nodeSubject c.node) .noContact = some r) ∧
          (s.findFault (nodeSubject c.node) .noContact = none →
            ∃ i o, v.findFault (nodeSubject c.node) .noContact = some
              { slot := i, subject := nodeSubject c.node, kind := .noContact, state := .active, count := 0,
                reporters := [], firstTime := s.clock.time, seen := false, order := o })) ∧
        (Contact.reachable ≠ .lost → c.contactAtTake = .lost → v.findFault (nodeSubject c.node) .noContact = none) ∧
        ((Contact.reachable = .lost ↔ c.contactAtTake = .lost) →
          v.findFault (nodeSubject c.node) .noContact = s.findFault (nodeSubject c.node) .noContact) ∧
        (∀ k : Fin 30, (∀ x ∈ c.splits, x.1 ≠ k) →
          (s.string.splits.get k = false → v.string.splits.get k = true →
            (∀ r, s.findFault (.segment k) .lineSplit = some r → v.findFault (.segment k) .lineSplit = some r) ∧
            (s.findFault (.segment k) .lineSplit = none →
              ∃ i o, v.findFault (.segment k) .lineSplit = some
                { slot := i, subject := .segment k, kind := .lineSplit, state := .active, count := 0,
                  reporters := [], firstTime := s.clock.time, seen := false, order := o })) ∧
          (s.string.splits.get k = true → v.string.splits.get k = false →
            v.findFault (.segment k) .lineSplit = none) ∧
          (v.string.splits.get k = s.string.splits.get k →
            v.findFault (.segment k) .lineSplit = s.findFault (.segment k) .lineSplit)) ∧
        (∀ k, v.string.splits.get k = s.splitNext c .yes k) ∧
        (∀ (k : Fin 30) (b : Bool) (pre post : List (Fin 30 × Bool)),
          c.splits ++ s.splitChanges c .yes = pre ++ (k, b) :: post → (∀ x ∈ post, x.1 ≠ k) →
          (v.findFault (.segment k) .lineSplit).isSome = b) ∧
        (∀ d : Dock, c.node = dockNode d →
          (Contact.reachable ≠ c.contactAtTake → v.agenda.manifest = true ∧ (v.dock d).lamp = v.lampFor d) ∧
          (v.dock d).resyncDue = ((s.dock d).resyncDue || decide (Contact.reachable = .lost ∧ c.contactAtTake ≠ .lost)))) ∧
  (∀ (s : State) (c : Call), s.string.flight = some (.call c) → s.faultsOk →
      s.faults.records.length + c.splits.length ≤ 29 → c.crossOf ≠ none → c.entry.verb = .survey →
      ∀ (got : List Byte) (data : Byte), c.phase = .answering got → got.length = 2 → sum8 (got ++ [data]) = 0 →
      ∃ v answer mark, exec (.stringCharacterReceived c.on data false) s =
          .next (finishEvent (freeString (handOutcome c.node c.entry answer mark v))) ∧
        v = { s with string := v.string, docks := v.docks, faults := v.faults, agenda := v.agenda } ∧
        v.string.flight.isSome = true ∧ (v.link c.node).contact = (s.link c.node).contact ∧
        ((s.link c.node).contact = .lost → c.contactAtTake ≠ .lost →
          (∀ r, s.findFault (nodeSubject c.node) .noContact = some r →
            v.findFault (nodeSubject c.node) .noContact = some r) ∧
          (s.findFault (nodeSubject c.node) .noContact = none →
            ∃ i o, v.findFault (nodeSubject c.node) .noContact = some
              { slot := i, subject := nodeSubject c.node, kind := .noContact, state := .active, count := 0,
                reporters := [], firstTime := s.clock.time, seen := false, order := o })) ∧
        ((s.link c.node).contact ≠ .lost → c.contactAtTake = .lost → v.findFault (nodeSubject c.node) .noContact = none) ∧
        (((s.link c.node).contact = .lost ↔ c.contactAtTake = .lost) →
          v.findFault (nodeSubject c.node) .noContact = s.findFault (nodeSubject c.node) .noContact) ∧
        (∀ k : Fin 30, (∀ x ∈ c.splits, x.1 ≠ k) →
          (s.string.splits.get k = false → v.string.splits.get k = true →
            (∀ r, s.findFault (.segment k) .lineSplit = some r → v.findFault (.segment k) .lineSplit = some r) ∧
            (s.findFault (.segment k) .lineSplit = none →
              ∃ i o, v.findFault (.segment k) .lineSplit = some
                { slot := i, subject := .segment k, kind := .lineSplit, state := .active, count := 0,
                  reporters := [], firstTime := s.clock.time, seen := false, order := o })) ∧
          (s.string.splits.get k = true → v.string.splits.get k = false →
            v.findFault (.segment k) .lineSplit = none) ∧
          (v.string.splits.get k = s.string.splits.get k →
            v.findFault (.segment k) .lineSplit = s.findFault (.segment k) .lineSplit)) ∧
        (∀ k, v.string.splits.get k = s.splitNext c .yes k) ∧
        (∀ (k : Fin 30) (b : Bool) (pre post : List (Fin 30 × Bool)),
          c.splits ++ s.splitChanges c .yes = pre ++ (k, b) :: post → (∀ x ∈ post, x.1 ≠ k) →
          (v.findFault (.segment k) .lineSplit).isSome = b) ∧
        (∀ d : Dock, c.node = dockNode d →
          ((s.link c.node).contact ≠ c.contactAtTake → v.agenda.manifest = true ∧ (v.dock d).lamp = v.lampFor d) ∧
          (v.dock d).resyncDue = ((s.dock d).resyncDue || decide ((s.link c.node).contact = .lost ∧ c.contactAtTake ≠ .lost)))) ∧
  (nodeSubject 0 = .terminal ∧ ∀ d : Dock, nodeSubject (dockNode d) = .dock d)

/-- With no call in flight nothing happens (log 2). That an answer cut short ends its attempt when its
window runs out, with no further quiet wait, is the choice of log 14, and that the next attempt is
sent whole in the same step that of log 3. The window of a broadcast ends it: no link record
changes, the string is free where no entry is queued, and where it was a SHOW the docks whose lamp
is its pattern count as shown. The window of a call's attempt ends the attempt, SILENT with no
character received and otherwise GARBLED or MISMATCH; where attempts remain the node's reach on that
end becomes NO or YES accordingly, its other link fields stay, and the same call is sent again on
the noted preferred end, or on the other end where the retry end is OTHER. No other link record, no
dock record and no queue entry then changes. Where the attempt changes that reach, the split
indications of the segments beside the node follow R16’s three conditions, or its one for a set one
(State.splitNext); every other one stays, and the changes join those of the call, the lower segment
first (log 35). -/
def Obligations.WindowRunsOut : Prop :=
  ∀ s : State,
    (s.string.flight = none → exec .answerWindowExpiry s = .next (finishEvent s)) ∧
    (∀ e ms, s.string.flight = some (.broadcast e ms) →
      ∃ u, exec .answerWindowExpiry s = .next (finishEvent u) ∧ u.string.links = s.string.links ∧
        u.string.splits = s.string.splits ∧
        (∀ d, u.dock d = if e.verb = .lampShow ∧ e.args = [byte (s.dock d).lamp.code]
          then { s.dock d with lampShown := true } else s.dock d) ∧
        (s.string.queue = [] → u.string.flight = none)) ∧
    (∀ c, s.string.flight = some (.call c) → c.crossOf = none → c.ended + 1 < 1 + c.retries →
      ∃ u c', exec .answerWindowExpiry s = .next (finishEvent u) ∧
        u.string.flight = some (.call c') ∧
        c' = { c with ended := c.ended + 1, phase := .answering [], remaining := c.window,
                      on := if c.retryOther then otherEnd c.noted else c.noted, splits := c.splits ++ s.splitChanges c (if c.phase = .answering [] then .no else .yes) } ∧
        (∀ k, u.string.splits.get k = s.splitNext c (if c.phase = .answering [] then .no else .yes) k) ∧
        u.string.lastSent = (callChars c.entry.target c.entry.verb c.entry.args).map (fun x => (c'.on, x)) ∧
        u.link c.node = (s.link c.node).setReach c.on (if c.phase = .answering [] then .no else .yes) ∧
        (∀ n, n ≠ c.node → u.link n = s.link n) ∧
        u = { s with string := { u.string with queue := s.string.queue } })

/-- The window that ends the last allowed attempt of a call without a cross mark, or with one where the
node becomes LOST and no cross attempt is sent, adds 1 to the node's failure count, at most 255; the
contact state becomes DOUBTFUL at a count of 1 or 2 and LOST from 3; the preferred end stays, and
the reach on the end used becomes NO for a SILENT attempt and YES for another. That an answer cut
short ends its attempt, reach YES, when its window runs out is the choice of log 14. Settings,
station time, supply state, banks and port stay. A SURVEY with a cross mark whose node becomes
DOUBTFUL has the same link record, and its cross attempt is sent whole in the same step, its window
running from then (the choice of log 3), on the end that is not preferred, with the failure kept for
handing over; no other link record, no entry of the queue and no other block changes. The window
that ends a cross attempt changes nothing of the link record but the reach on its end: no failure is
counted, and the preferred end and the contact state stay. Before the outcome is handed over the
change is told: a node that becomes LOST, from the contact state at the take, has a NO_CONTACT
record, created ACTIVE unless one exists, and its dock resync_due; one that leaves LOST has none; a
segment that becomes split has a LINE_SPLIT record, and one no longer split none (with slots free
for them); a dock’s change of contact selects its lamp and makes a retry pass of the manifest due.
Where the attempt changes that reach, the split indications of the segments beside the node follow
R16’s three conditions, or its one for a set one (State.splitNext); every other one stays, and the
last change of each in the call’s attempts decides whether it has a LINE_SPLIT record. -/
def Obligations.CallFails : Prop :=
  ((∀ (s : State) (c : Call), s.string.flight = some (.call c) → c.crossOf = none →
    1 + c.retries ≤ c.ended + 1 → (c.entry.verb ≠ .survey ∨ c.entry.cross = false ∨ 2 ≤ (s.link c.node).failures) →
    ∃ u, exec .answerWindowExpiry s = .next (finishEvent u) ∧
      (u.link c.node).failures = min ((s.link c.node).failures + 1) 255 ∧
      (u.link c.node).contact =
        (if (s.link c.node).failures + 1 ≤ 2 then .doubtful else .lost) ∧
      (u.link c.node).preferred = (s.link c.node).preferred ∧
      (u.link c.node).reach c.on =
        (if c.phase = .answering [] then .no else .yes) ∧
      (∀ n, n ≠ c.node → (u.link n).reachA = (s.link n).reachA ∧ (u.link n).reachB = (s.link n).reachB) ∧
      (∀ k, u.string.splits.get k = s.splitNext c (if c.phase = .answering [] then .no else .yes) k) ∧
      u.settings = s.settings ∧ u.clock = s.clock ∧ u.supply = s.supply ∧ u.fare = s.fare ∧ u.port = s.port) ∧
  (∀ (s : State) (c : Call), s.string.flight = some (.call c) → c.crossOf = none →
    1 + c.retries ≤ c.ended + 1 → c.entry.verb = .survey → c.entry.cross = true →
    (s.link c.node).failures ≤ 1 →
    ∃ u c', exec .answerWindowExpiry s = .next (finishEvent u) ∧
      u.string.flight = some (.call c') ∧
      c' = { c with ended := c.ended + 1, crossOf := some none,
                    on := otherEnd (s.link c.node).preferred, phase := .answering [],
                    remaining := c.window, splits := c.splits ++ s.splitChanges c (if c.phase = .answering [] then .no else .yes) } ∧
      (∀ k, u.string.splits.get k = s.splitNext c (if c.phase = .answering [] then .no else .yes) k) ∧
      u.string.lastSent = (callChars c.entry.target c.entry.verb c.entry.args).map (fun x => (c'.on, x)) ∧
      u.link c.node = { (s.link c.node).setReach c.on (if c.phase = .answering [] then .no else .yes) with
        failures := (s.link c.node).failures + 1, contact := .doubtful } ∧
      (∀ n, n ≠ c.node → u.link n = s.link n) ∧
      u = { s with string := { u.string with queue := s.string.queue } }) ∧
  (∀ (s : State) (c : Call) (result : Option Answer), s.string.flight = some (.call c) →
    c.crossOf = some result →
    ∃ u, exec .answerWindowExpiry s = .next (finishEvent u) ∧
      (u.link c.node).failures = (s.link c.node).failures ∧
      (u.link c.node).contact = (s.link c.node).contact ∧
      (u.link c.node).preferred = (s.link c.node).preferred ∧
      (u.link c.node).reach c.on = (if c.phase = .answering [] then .no else .yes) ∧
      (∀ n, n ≠ c.node → (u.link n).reachA = (s.link n).reachA ∧ (u.link n).reachB = (s.link n).reachB) ∧
      (∀ k, u.string.splits.get k = s.splitNext c (if c.phase = .answering [] then .no else .yes) k) ∧
      u.settings = s.settings ∧ u.clock = s.clock ∧ u.supply = s.supply ∧ u.fare = s.fare ∧ u.port = s.port)) ∧
  (∀ (s : State) (c : Call), s.string.flight = some (.call c) → s.faultsOk →
      s.faults.records.length + c.splits.length ≤ 29 → c.crossOf = none → 1 + c.retries ≤ c.ended + 1 →
      (c.entry.verb ≠ .survey ∨ c.entry.cross = false ∨ 2 ≤ (s.link c.node).failures) →
      let next : Contact := if (s.link c.node).failures + 1 ≤ 2 then .doubtful else .lost
      ∃ v answer mark, exec .answerWindowExpiry s =
          .next (finishEvent (freeString (handOutcome c.node c.entry answer mark v))) ∧
        v = { s with string := v.string, docks := v.docks, faults := v.faults, agenda := v.agenda } ∧
        v.string.flight.isSome = true ∧ (v.link c.node).contact = next ∧
        (next = .lost → c.contactAtTake ≠ .lost →
          (∀ r, s.findFault (nodeSubject c.node) .noContact = some r →
            v.findFault (nodeSubject c.node) .noContact = some r) ∧
          (s.findFault (nodeSubject c.node) .noContact = none →
            ∃ i o, v.findFault (nodeSubject c.node) .noContact = some
              { slot := i, subject := nodeSubject c.node, kind := .noContact, state := .active, count := 0,
                reporters := [], firstTime := s.clock.time, seen := false, order := o })) ∧
        (next ≠ .lost → c.contactAtTake = .lost → v.findFault (nodeSubject c.node) .noContact = none) ∧
        ((next = .lost ↔ c.contactAtTake = .lost) →
          v.findFault (nodeSubject c.node) .noContact = s.findFault (nodeSubject c.node) .noContact) ∧
        (∀ k : Fin 30, (∀ x ∈ c.splits, x.1 ≠ k) →
          (s.string.splits.get k = false → v.string.splits.get k = true →
            (∀ r, s.findFault (.segment k) .lineSplit = some r → v.findFault (.segment k) .lineSplit = some r) ∧
            (s.findFault (.segment k) .lineSplit = none →
              ∃ i o, v.findFault (.segment k) .lineSplit = some
                { slot := i, subject := .segment k, kind := .lineSplit, state := .active, count := 0,
                  reporters := [], firstTime := s.clock.time, seen := false, order := o })) ∧
          (s.string.splits.get k = true → v.string.splits.get k = false →
            v.findFault (.segment k) .lineSplit = none) ∧
          (v.string.splits.get k = s.string.splits.get k →
            v.findFault (.segment k) .lineSplit = s.findFault (.segment k) .lineSplit)) ∧
        (∀ k, v.string.splits.get k = s.splitNext c (if c.phase = .answering [] then .no else .yes) k) ∧
        (∀ (k : Fin 30) (b : Bool) (pre post : List (Fin 30 × Bool)),
          c.splits ++ s.splitChanges c (if c.phase = .answering [] then .no else .yes) = pre ++ (k, b) :: post → (∀ x ∈ post, x.1 ≠ k) →
          (v.findFault (.segment k) .lineSplit).isSome = b) ∧
        (∀ d : Dock, c.node = dockNode d →
          (next ≠ c.contactAtTake → v.agenda.manifest = true ∧ (v.dock d).lamp = v.lampFor d) ∧
          (v.dock d).resyncDue = ((s.dock d).resyncDue || decide (next = .lost ∧ c.contactAtTake ≠ .lost)))) ∧
  (∀ (s : State) (c : Call), s.string.flight = some (.call c) → s.faultsOk →
      s.faults.records.length + c.splits.length ≤ 29 → c.crossOf ≠ none →
      ∃ v answer mark, exec .answerWindowExpiry s =
          .next (finishEvent (freeString (handOutcome c.node c.entry answer mark v))) ∧
        v = { s with string := v.string, docks := v.docks, faults := v.faults, agenda := v.agenda } ∧
        v.string.flight.isSome = true ∧ (v.link c.node).contact = (s.link c.node).contact ∧
        ((s.link c.node).contact = .lost → c.contactAtTake ≠ .lost →
          (∀ r, s.findFault (nodeSubject c.node) .noContact = some r →
            v.findFault (nodeSubject c.node) .noContact = some r) ∧
          (s.findFault (nodeSubject c.node) .noContact = none →
            ∃ i o, v.findFault (nodeSubject c.node) .noContact = some
              { slot := i, subject := nodeSubject c.node, kind := .noContact, state := .active, count := 0,
                reporters := [], firstTime := s.clock.time, seen := false, order := o })) ∧
        ((s.link c.node).contact ≠ .lost → c.contactAtTake = .lost → v.findFault (nodeSubject c.node) .noContact = none) ∧
        (((s.link c.node).contact = .lost ↔ c.contactAtTake = .lost) →
          v.findFault (nodeSubject c.node) .noContact = s.findFault (nodeSubject c.node) .noContact) ∧
        (∀ k : Fin 30, (∀ x ∈ c.splits, x.1 ≠ k) →
          (s.string.splits.get k = false → v.string.splits.get k = true →
            (∀ r, s.findFault (.segment k) .lineSplit = some r → v.findFault (.segment k) .lineSplit = some r) ∧
            (s.findFault (.segment k) .lineSplit = none →
              ∃ i o, v.findFault (.segment k) .lineSplit = some
                { slot := i, subject := .segment k, kind := .lineSplit, state := .active, count := 0,
                  reporters := [], firstTime := s.clock.time, seen := false, order := o })) ∧
          (s.string.splits.get k = true → v.string.splits.get k = false →
            v.findFault (.segment k) .lineSplit = none) ∧
          (v.string.splits.get k = s.string.splits.get k →
            v.findFault (.segment k) .lineSplit = s.findFault (.segment k) .lineSplit)) ∧
        (∀ k, v.string.splits.get k = s.splitNext c (if c.phase = .answering [] then .no else .yes) k) ∧
        (∀ (k : Fin 30) (b : Bool) (pre post : List (Fin 30 × Bool)),
          c.splits ++ s.splitChanges c (if c.phase = .answering [] then .no else .yes) = pre ++ (k, b) :: post → (∀ x ∈ post, x.1 ≠ k) →
          (v.findFault (.segment k) .lineSplit).isSome = b) ∧
        (∀ d : Dock, c.node = dockNode d →
          ((s.link c.node).contact ≠ c.contactAtTake → v.agenda.manifest = true ∧ (v.dock d).lamp = v.lampFor d) ∧
          (v.dock d).resyncDue = ((s.dock d).resyncDue || decide ((s.link c.node).contact = .lost ∧ c.contactAtTake ≠ .lost))))

/-- At its expiry the round timer takes the round period in force. With a SURVEY queued the round is
skipped: nothing else changes. Otherwise the round number grows by 1 and SURVEY requests for nodes 0
to 30 are placed in ascending order, without the LOST nodes unless the number is a multiple of 8,
every one with a cross mark exactly then. With a call in flight they join the queue, as many as it
holds to 40, and the rest are dropped. With the string free the first request joins the queue if
there is room, the entry of the lowest class, the oldest of that class, is taken at once, and the
other requests join what is left of the queue, as many as it holds to 40. With no node to ask
nothing else changes. -/
def Obligations.SurveyRounds : Prop :=
  ∀ s : State,
    ((∃ e ∈ s.string.queue, e.verb = .survey) →
      exec .roundTimerExpiry s = .next (finishEvent
        { s with string := { s.string with roundTimer := s.settings.roundPeriod * 100 } })) ∧
    ((∀ e ∈ s.string.queue, e.verb ≠ .survey) →
      let asked : List QueueEntry :=
        ((List.finRange 31).filter (fun n => decide ((s.link n).contact ≠ .lost) ||
            decide ((s.string.round + 1) % 8 = 0))).map (fun n =>
          { target := .node n, verb := .survey, args := [], cross := decide ((s.string.round + 1) % 8 = 0),
            originators := [if n = 0 then .cardTable else .dockMonitor] })
      ∃ u, exec .roundTimerExpiry s = .next (finishEvent u) ∧
        u.string.round = s.string.round + 1 ∧ u.string.roundTimer = s.settings.roundPeriod * 100 ∧
        u.string.links = s.string.links ∧ u = { s with string := u.string } ∧
        (s.string.flight.isSome = true → s.string.queue.length ≤ 40 →
          u.string.flight = s.string.flight ∧
          u.string.queue = s.string.queue ++ asked.take (40 - s.string.queue.length)) ∧
        (asked = [] → u.string.flight = s.string.flight ∧ u.string.queue = s.string.queue) ∧
        (s.string.flight = none → s.agenda.hold = false → s.string.queue.length ≤ 40 →
          ∀ (first : QueueEntry) (rest pre post : List QueueEntry) (e : QueueEntry), asked = first :: rest →
          s.string.queue ++ [first].take (40 - s.string.queue.length) = pre ++ e :: post →
          (∀ x ∈ pre, e.verb.cls < x.verb.cls) → (∀ x ∈ post, e.verb.cls ≤ x.verb.cls) →
          (∀ x ∈ pre ++ post, sameKey x e = false) →
          u.string.queue = pre ++ post ++ rest.take (40 - (pre ++ post).length) ∧
          (∃ f, u.string.flight = some f ∧
            (match f with | .broadcast x _ => x = e | .call c => c.entry = e ∧ c.ended = 0))))

/-- In a queue with no two entries of one (node, verb) key, a request with a new key is placed last, the
youngest, when there is room. A request whose key is queued needs no room: the entry keeps its place
and so its age, its class is that of its verb, its arguments become the request's, its originators
gain the request's, and its cross mark is kept if either carries one; every other entry stays. The
call in flight is not looked at. -/
def Obligations.QueueTakesRequests : Prop :=
  ∀ (s : State) (r : QueueEntry), s.queueOk →
    ((∀ e ∈ s.string.queue, ¬(e.target = r.target ∧ e.verb = r.verb)) → s.string.queue.length < 40 →
      enqueue r s = { s with string := { s.string with queue := s.string.queue ++ [r] } }) ∧
    (∀ (pre : List QueueEntry) (e : QueueEntry) (post : List QueueEntry),
      s.string.queue = pre ++ e :: post → e.target = r.target → e.verb = r.verb →
      ∃ m, enqueue r s = { s with string := { s.string with queue := pre ++ m :: post } } ∧
        m.target = e.target ∧ m.verb = e.verb ∧ m.args = r.args ∧ m.cross = (e.cross || r.cross) ∧
        (∀ o, o ∈ m.originators ↔ o ∈ e.originators ∨ o ∈ r.originators)) ∧
    (enqueue r s).queueOk ∧ (enqueue r s).string.flight = s.string.flight

/-- In a queue of 40 entries with none of the request's key: a SURVEY is dropped with nothing changed,
and a SHOW is dropped and its dock is no longer known to show its lamp; a request of class 1, 2 or 3
takes the place of the youngest SURVEY or SHOW entry; and where there is none it is not placed, and
its failure is handed over at the end of the event (log 8). -/
def Obligations.FullQueue : Prop :=
  ∀ (s : State) (r : QueueEntry), s.queueOk → s.string.queue.length = 40 →
    (∀ e ∈ s.string.queue, ¬(e.target = r.target ∧ e.verb = r.verb)) →
    (r.verb = .survey → enqueue r s = s) ∧
    (∀ d, r.verb = .lampShow → r.target = .node (dockNode d) →
      (enqueue r s).string.queue = s.string.queue ∧ ((enqueue r s).dock d).lampShown = false) ∧
    (r.verb.cls ≤ 3 → ∀ (pre : List QueueEntry) (v : QueueEntry) (post : List QueueEntry),
      s.string.queue = pre ++ v :: post → (v.verb = .survey ∨ v.verb = .lampShow) →
      (∀ e ∈ post, e.verb ≠ .survey ∧ e.verb ≠ .lampShow) →
      (enqueue r s).string.queue = pre ++ post ++ [r] ∧
      (∀ d, v.verb = .lampShow → v.target = .node (dockNode d) → ((enqueue r s).dock d).lampShown = false)) ∧
    (r.verb.cls ≤ 3 → (∀ e ∈ s.string.queue, e.verb ≠ .survey ∧ e.verb ≠ .lampShow) →
      enqueue r s = { s with agenda := { s.agenda with failures := s.agenda.failures ++ [r] } })

/-- A dock is closed when it falls in the range of side and count with the complement flag clear, or
outside it with the flag set: docks 1..k for side LOW and 31 − k..30 for side HIGH. A count of 0
gives no dock, of 30 every dock; with the complement set these close every dock and none. The three
are items 6 to 8 of SET_CONFIG, with values outside 0..1, 0..30 and 0..1 clamped. -/
def Obligations.ClosedRange : Prop :=
  (∀ (s : State) (d : Dock),
    (s.closed d = true ↔
      ((if s.settings.closedSide = 0 then 1 ≤ dockNumber d ∧ dockNumber d ≤ s.settings.closedCount
        else 31 - s.settings.closedCount ≤ dockNumber d ∧ dockNumber d ≤ 30) ↔
        s.settings.closedComplement = 0)) ∧
    (s.settings.closedCount = 0 → (s.closed d = true ↔ s.settings.closedComplement ≠ 0)) ∧
    (s.settings.closedCount = 30 → (s.closed d = true ↔ s.settings.closedComplement = 0))) ∧
  (∀ (c : Settings) (v : Nat), c.clamp 6 v = min v 1 ∧ c.clamp 7 v = min v 30 ∧ c.clamp 8 v = min v 1 ∧
    (c.setItem 6 v).closedSide = v ∧ (c.setItem 7 v).closedCount = v ∧ (c.setItem 8 v).closedComplement = v)

/-- A dock is hireable exactly when its node is REACHABLE, it is OCCUPIED with a bike number, its
stamp_seen is NONE and it is not unpriced, it is not closed, its reservation is NONE, no record for
it is ACTIVE or CLEARING, and no record for its bicycle is ACTIVE. Its lamp is the first that
applies: RED_FLASH of a running refusal; GREEN_BLINK in RELEASING; AMBER_BLINK where a refer slot
holds it; RED where it is LOST, closed or has an ACTIVE dock fault; AMBER where reserved; GREEN
where hireable; OFF. The patterns' codes are those of section 12.2. A selection makes that pattern
the lamp, and where it differs from the lamp before, lamp_shown false. With the pattern unchanged
and shown nothing happens; a LOST dock queues nothing; else a SHOW with the pattern’s code is
placed: last in the queue where there is room and none is queued for the dock (the string in use),
or in the queued entry’s place, whose argument becomes the new code. The end of a SHOW to the dock
is handed to the Dock Monitor: GOOD with the code of the lamp, lamp_shown becomes true; GOOD with
another code it stays; failed it becomes false. A contact state as at the take, with slots free in
the fault table, leaves the lamps as they were till then. -/
def Obligations.HireableAndLamp : Prop :=
  (∀ (s : State) (d : Dock),
    (s.hireable d = true ↔
      (s.link (dockNode d)).contact = .reachable ∧ (s.dock d).occupancy = .occupied ∧
      (∃ b, (s.dock d).bike = some b ∧
        ∀ r ∈ s.faults.records, r.subject = .bike b → r.state ≠ .active) ∧
      (s.dock d).stampSeen = .none ∧ (s.dock d).unpriced = false ∧ s.closed d = false ∧
      (s.dock d).reservation = .none ∧
      (∀ r ∈ s.faults.records, r.subject = .dock d → r.state = .suspect)) ∧
    (∀ f, (s.dock d).flash = some f → s.lampFor d = .redFlash f.code) ∧
    ((s.dock d).flash = none →
      ((s.dock d).occupancy = .releasing → s.lampFor d = .greenBlink) ∧
      ((s.dock d).occupancy ≠ .releasing →
        ((∃ x ∈ s.refers, x.dock = d) → s.lampFor d = .amberBlink) ∧
        ((∀ x ∈ s.refers, x.dock ≠ d) →
          (((s.link (dockNode d)).contact = .lost ∨ s.closed d = true ∨
              ∃ r ∈ s.faults.records, r.subject = .dock d ∧ r.state = .active) → s.lampFor d = .red) ∧
          (¬((s.link (dockNode d)).contact = .lost ∨ s.closed d = true ∨
              ∃ r ∈ s.faults.records, r.subject = .dock d ∧ r.state = .active) →
            ((s.dock d).reservation ≠ .none → s.lampFor d = .amber) ∧
            ((s.dock d).reservation = .none →
              (s.hireable d = true → s.lampFor d = .green) ∧
              (s.hireable d = false → s.lampFor d = .off)))))) ∧
    [Lamp.off.code, Lamp.green.code, Lamp.greenBlink.code, Lamp.amber.code, Lamp.amberBlink.code, Lamp.red.code,
      (Lamp.redFlash 1).code, (Lamp.redFlash 7).code] = [0, 1, 2, 3, 4, 5, 9, 15]) ∧
  (∀ (s : State) (d : Dock),
      let r := s.dock d
      let p := s.lampFor d
      let chosen : DockRecord := { r with lamp := p, lampShown := decide (p = r.lamp) && r.lampShown }
      let u : State := { s with docks := s.docks.set d.val chosen d.isLt }
      let ask : QueueEntry :=
        { target := .node (dockNode d), verb := .lampShow, args := [byte p.code], cross := false,
          originators := [.dockMonitor] }
      (p = r.lamp → r.lampShown = true → selectLamp d s = s) ∧
      ((s.link (dockNode d)).contact = .lost → selectLamp d s = u) ∧
      ((p ≠ r.lamp ∨ r.lampShown = false) → (s.link (dockNode d)).contact ≠ .lost →
        selectLamp d s = takeNext (enqueue ask u) ∧
        (s.string.flight.isSome = true →
          (s.string.queue.length < 40 →
            (∀ q ∈ s.string.queue, q.target = .node (dockNode d) → q.verb ≠ .lampShow) →
            selectLamp d s = { u with string := { s.string with queue := s.string.queue ++ [ask] } }) ∧
          (∀ (pre : List QueueEntry) (e : QueueEntry) (post : List QueueEntry),
            s.string.queue = pre ++ e :: post → e.target = .node (dockNode d) → e.verb = .lampShow →
            (∀ q ∈ pre ++ post, q.target = .node (dockNode d) → q.verb ≠ .lampShow) →
            ∃ m, selectLamp d s = { u with string := { s.string with queue := pre ++ m :: post } } ∧
              m.target = e.target ∧ m.verb = .lampShow ∧ m.args = [byte p.code])))) ∧
  (∀ (s : State) (c : Call) (d : Dock),
      s.string.flight = some (.call c) → c.crossOf = none → c.node = dockNode d →
      c.entry.target = .node (dockNode d) → c.entry.originators = [.dockMonitor] → c.entry.verb = .lampShow →
      let shown : Bool → State → State := fun x v =>
        { v with docks := v.docks.set d.val { v.dock d with lampShown := x } d.isLt }
      let kept : Contact → State → Prop := fun next v =>
        c.contactAtTake = next → s.faults.records.length + c.splits.length ≤ 29 →
          ∀ e, v.dock e = { s.dock e with heldButton := (v.dock e).heldButton }
      (∀ (got : List Byte) (data : Byte), c.phase = .answering got → got.length = 2 → sum8 (got ++ [data]) = 0 →
        ∃ v, exec (.stringCharacterReceived c.on data false) s = .next (finishEvent (freeString
          (if c.entry.args = [byte (v.dock d).lamp.code] then shown true v else v))) ∧
        v = { s with string := v.string, docks := v.docks, faults := v.faults, agenda := v.agenda } ∧
        v.string.flight.isSome = true ∧ kept .reachable v ∧
        ∀ e, ({ v.dock e with heldButton := false, resyncDue := false } : DockRecord).known =
          ({ s.dock e with heldButton := false, resyncDue := false } : DockRecord).known) ∧
      (1 + c.retries ≤ c.ended + 1 →
        ∃ v, exec .answerWindowExpiry s = .next (finishEvent (freeString (shown false v))) ∧
        v = { s with string := v.string, docks := v.docks, faults := v.faults, agenda := v.agenda } ∧
        v.string.flight.isSome = true ∧
        kept (if (s.link c.node).failures + 1 ≤ 2 then .doubtful else .lost) v ∧
        ∀ e, ({ v.dock e with heldButton := false, resyncDue := false } : DockRecord).known =
          ({ s.dock e with heldButton := false, resyncDue := false } : DockRecord).known))

/-- SECONDS_TICK with a supply reading, at whatever count the divider stands (the choice of log 2),
answers a next state in which station time is one more modulo 2^32, the clock-set flag is as before
and the divider restarts; the last reading is the one given, and the supply state is that of R180:
from NORMAL, CRITICAL below CRIT_ENTER and else LOW below LOW_ENTER; from LOW, CRITICAL below
CRIT_ENTER and else NORMAL above LOW_EXIT; from CRITICAL, LOW above CRIT_EXIT; otherwise unchanged.
No refer slot is retired or opened, and one re-aimed before the tick can run out again (log 2).
Settings and port are unchanged, and with the clock unset the banks are too. Each block takes the
tick as its own event, station time already advanced, in the order of R175’s table (log 6): the
supply reading; with the clock set, every GUEST entry that is IDLE with no queued_dock and past its
valid_until becomes SETTLING and no other changes; the look at every cancel context; at every trip
record; the stale unmarks and the mark wanted at every dock; the expiry counter and then every
van_unstamp; the pending activation, which ACTIVATION_REACHED tests alike. The docks and records
within one block’s work are taken in the order that log 35 chose; each look is stated in
PullWindowEnds, ArrivalPriced, FlashAndReportEnd and ManifestExpires. A reading that leaves the
supply state tells no one; one that changes it drops from the release queue every request at
CRITICAL and every member’s at LOW, each with refusal 5 at its dock and a member’s queued_dock
absent, and a grant pass follows. -/
def Obligations.SecondsTick : Prop :=
  (∀ (s : State) (r : Byte), ∃ t, exec (.secondsTick r) s = .next t ∧
    t.clock = { time := s.clock.time + 1, isSet := s.clock.isSet, divider := 0 } ∧
    t.supply.reading = some r ∧
    t.supply.state =
      (match s.supply.state with
       | .normal =>
         if r.toNat < s.settings.critEnter then .critical
         else if r.toNat < s.settings.lowEnter then .low else .normal
       | .low =>
         if r.toNat < s.settings.critEnter then .critical
         else if s.settings.lowExit < r.toNat then .normal else .low
       | .critical => if s.settings.critExit < r.toNat then .low else .critical) ∧
    t.settings = s.settings ∧ t.port = s.port ∧ t.pending = s.pending ∧
    t.refers = s.refers.map (fun x => { x with reaimed := false }) ∧
    (s.clock.isSet = false → t.fare = s.fare)) ∧
  (∀ (s : State) (r : Byte),
      exec (.secondsTick r) s = .next (
        let s0 := supplyTick r { s with
          clock := { s.clock with time := s.clock.time + 1, divider := 0 },
          refers := s.refers.map (fun x => { x with reaimed := false }) }
        let s1 := finishEvent s0
        let s2 := finishEvent (if s1.clock.isSet then cardTick s1 else s1)
        let s3 := finishEvent ((List.finRange 30).foldl (fun u d => cancelTick d u) s2)
        let s4 := finishEvent (s3.trips.foldl (fun u x => tripTickOne x u) s3)
        let s5 := finishEvent ((List.finRange 30).foldl (fun u d => evalMark d u)
          ((List.finRange 30).foldl (fun u d => dropStaleUnmark d u) s4))
        let s6 := finishEvent ((List.finRange 30).foldl (fun u d => vanTick d u) (counterTick s5))
        finishEvent (testActivation s6)) ∧
      exec .activationReached s = .next (finishEvent (testActivation s))) ∧
  (∀ (s : State) (r : Byte),
      let next : SupplyState := match s.supply.state with
        | .normal =>
          if r.toNat < s.settings.critEnter then .critical
          else if r.toNat < s.settings.lowEnter then .low else .normal
        | .low =>
          if r.toNat < s.settings.critEnter then .critical
          else if s.settings.lowExit < r.toNat then .normal else .low
        | .critical => if s.settings.critExit < r.toNat then .low else .critical
      let t : State := { s with supply := { state := next, reading := some r } }
      let goes : HireRequest → Bool := fun q => match next with
        | .normal => false
        | .low => decide (q.kind = .member)
        | .critical => true
      (next = s.supply.state → supplyTick r s = t) ∧
      (next ≠ s.supply.state → ∃ u, supplyTick r s = grantPass u ∧
        u.hire = { s.hire with queue := s.hire.queue.filter (fun q => !goes q) } ∧
        (next = .normal → u = t) ∧
        (∀ q ∈ s.hire.queue, goes q = true → (u.dock q.dock).flash = some { code := 5, remaining := 3000 } ∧
          (q.kind = .member → ∀ e ∈ u.cards, e.card = q.card → e.queuedDock = none)))) ∧
  (∀ s : State,
      cardTick s = { s with cards := s.cards.map (fun e =>
        if e.cls = .guest ∧ e.activity = .idle ∧ e.queuedDock = none ∧ s.passed e = true then
          { e with activity := .settling } else e) } ∧
      ∀ e : CardEntry, s.passed e = true ↔ ∃ v, e.validUntil = some v ∧ s.clock.isSet = true ∧
        1 ≤ (s.clock.time - v).toNat ∧ (s.clock.time - v).toNat ≤ 2 ^ 31 - 1)

/-- COIL_COUNT_EXPIRY of a token 0..2 in COIL makes it FREE, with nothing else changed of its own where
no request waits in the release queue; where requests wait, a grant pass runs, which lends no token
while the tokens in use are at the budget (item 10 in NORMAL, 1 in LOW, 0 in CRITICAL). A token that
is not in COIL has no count to run out (log 2). The call that the Hire Unit asked for ends GOOD with
its answer’s last character, or failed with the window of its last attempt or refused by a full
queue, and the outcome is handed to the Hire Unit. A GOOD STAMP tells the dock the stamp’s kind,
moves the token to RELEASE_PENDING and the release to OPENING, and queues a RELEASE with the coil
period of item 11. A failed STAMP undoes the release and then frees the token, with a grant pass (in
the order that log 35 chose): the context goes, the dock is OCCUPIED and shows refusal 3, a member’s
RELEASING record is retired and the card freed, IDLE or SETTLING, and a crew’s move returns to
RESERVED. Where no context of the bicycle is left, either end only frees the token. The end of
RELEASE starts the coil count with the code sent, and an OPENING release waits for its pull, not yet
seen present. Nothing else changes in these ends but lamps and calls. i is the one token lent to the
dock at that stage. -/
def Obligations.CoilCountEnds : Prop :=
  ((∀ (s : State) (i : Fin 3) (d : Dock) (ms : Nat), s.hire.tokens.get i = .lent d (.coil ms) →
      (s.hire.queue = [] → exec (.coilCountExpiry i.val) s = .next (finishEvent
        { s with hire := { s.hire with tokens := s.hire.tokens.set i.val .free i.isLt } })) ∧
      exec (.coilCountExpiry i.val) s = .next (finishEvent (grantPass (s.setToken i .free)))) ∧
  (∀ (s : State) (i : Fin 3), (∀ d ms, s.hire.tokens.get i ≠ .lent d (.coil ms)) →
      exec (.coilCountExpiry i.val) s = .next (finishEvent s)) ∧
  (∀ s : State, s.budget ≤ s.tokensInUse → grantPass s = s) ∧
  (∀ s : State, s.budget = (match s.supply.state with
      | .normal => s.settings.normalBudget
      | .low => 1
      | .critical => 0))) ∧
  (∀ (s : State) (c : Call) (d : Dock) (b : Bike),
      s.string.flight = some (.call c) → c.crossOf = none → c.node = dockNode d →
      c.entry.target = .node (dockNode d) → c.entry.originators = [.hireUnit b] → (c.entry.verb = .stamp ∨ c.entry.verb = .release ∨ c.entry.verb = .relock ∨ c.entry.verb = .unstamp) →
      let ended : Bool → State → State := fun good v => 
        if c.entry.verb = .stamp then stampEnd d b good v
        else if c.entry.verb = .release then releaseEnd d b (field c.entry.args 0 1) v
        else if c.entry.verb = .relock then relockEnd d b good v
        else hireUnstampEnd d b good v
      (∀ (got : List Byte) (data : Byte), c.phase = .answering got → got.length = 2 → sum8 (got ++ [data]) = 0 →
        ∃ v, exec (.stringCharacterReceived c.on data false) s = .next (finishEvent (freeString (ended true v))) ∧
        v = { s with string := v.string, docks := v.docks, faults := v.faults, agenda := v.agenda } ∧
        v.string.flight.isSome = true ∧
        ∀ e, ({ v.dock e with heldButton := false, resyncDue := false } : DockRecord).known =
          ({ s.dock e with heldButton := false, resyncDue := false } : DockRecord).known) ∧
      (1 + c.retries ≤ c.ended + 1 →
        ∃ v, exec .answerWindowExpiry s = .next (finishEvent (freeString (ended false v))) ∧
        v = { s with string := v.string, docks := v.docks, faults := v.faults, agenda := v.agenda } ∧
        v.string.flight.isSome = true ∧
        ∀ e, ({ v.dock e with heldButton := false, resyncDue := false } : DockRecord).known =
          ({ s.dock e with heldButton := false, resyncDue := false } : DockRecord).known) ∧
      deliverFailure c.entry s = ended false s) ∧
  (∀ (s : State) (d : Dock) (x : ReleaseContext) (i : Fin 3),
      s.release d = some x → x.phase = .stamping →
      (s.hire.tokens.get i = .lent d .stampPending) → (∀ j, j ≠ i → s.hire.tokens.get j ≠ .lent d .stampPending) →
      (let t := stampEnd d x.bike true s
       t = { s with hire := t.hire, docks := t.docks, string := t.string, agenda := t.agenda } ∧
       t.hire = { s.hire with
         tokens := s.hire.tokens.set i.val (.lent d .releasePending) i.isLt,
         releases := s.hire.releases.set d.val (some { x with phase := .opening }) d.isLt } ∧
       ((s.dock d).bike = some x.bike → (t.dock d).known =
         ({ s.dock d with stampSeen := if x.kind = .member then .trip else .van } : DockRecord).known) ∧
       (∀ e, e ≠ d → (t.dock e).known = (s.dock e).known) ∧
       (s.string.flight.isSome = true → (s.string.queue.filter (fun q => decide (q.verb ≠ .survey ∧ q.verb ≠ .lampShow))).length ≤ 38 →
         ∃ q ∈ t.string.queue, q.target = .node (dockNode d) ∧ q.verb = .release ∧
           q.args = [byte s.settings.coilPeriod] ∧ .hireUnit x.bike ∈ q.originators)) ∧
      (∃ u, stampEnd d x.bike false s = grantPass u ∧
        u.hire = { s.hire with
          tokens := s.hire.tokens.set i.val .free i.isLt,
          releases := s.hire.releases.set d.val none d.isLt } ∧
        (u.dock d).known = ({ s.dock d with occupancy := .occupied } : DockRecord).known ∧
        (u.dock d).flash = some { code := 3, remaining := 3000 } ∧
        (x.kind = .member → ∀ r, s.findTrip x.bike = some r → r.state = .releasing → r.stamp.start = x.start →
          u.trips = s.trips.filter (fun y => decide (y.bike ≠ x.bike)) ∧
          (∀ e, s.findCard x.card = some e → e.link = some (x.bike, x.start) →
            (e.activity = .pending ∨ e.activity = .riding) →
            u.findCard x.card = some { e with
              link := none, activity := if e.cls = .guest ∧ s.passed e = true then .settling else .idle })) ∧
        (∀ m n a y, x.kind = .crew m n → s.manifest.active = some a → a.header.number = n → a.moves[m]? = some y →
          ∃ a', u.manifest.active = some a' ∧ a'.moves[m]? = some { y with state := .reserved }))) ∧
  (∀ (s : State) (d : Dock) (b : Bike) (i : Fin 3) (good : Bool),
      (s.hire.tokens.get i = .lent d .stampPending) → (∀ j, j ≠ i → s.hire.tokens.get j ≠ .lent d .stampPending) →
      (∀ x, s.release d = some x → x.bike ≠ b) → stampEnd d b good s = grantPass (s.setToken i .free)) ∧
  (∀ (s : State) (d : Dock) (b : Bike) (code : Nat) (i : Fin 3),
      (s.hire.tokens.get i = .lent d .releasePending) → (∀ j, j ≠ i → s.hire.tokens.get j ≠ .lent d .releasePending) →
      (∀ x, s.release d = some x → x.bike = b → x.phase = .opening →
        releaseEnd d b code s = { s with hire := { s.hire with
          tokens := s.hire.tokens.set i.val (.lent d (.coil (code * 100))) i.isLt,
          releases := s.hire.releases.set d.val (some
            { x with phase := .waiting (s.settings.pullWindow * 1000), seenPresent := false }) d.isLt } }) ∧
      ((∀ x, s.release d = some x → x.bike ≠ b ∨ x.phase ≠ .opening) →
        releaseEnd d b code s = { s with hire := { s.hire with
          tokens := s.hire.tokens.set i.val (.lent d (.coil (code * 100))) i.isLt } })) ∧
  (∀ s : State, s.hire.queue = [] → grantPass s = s)

/-- PULL_WINDOW_EXPIRY at a dock with a WAITING release: seen present, the node REACHABLE, it is
cancelled: a RELOCK and an UNSTAMP are queued, a member’s record is CANCELLING and the card freed,
IDLE or SETTLING, a crew’s move RESERVED, the dock OCCUPIED with bicycle and stamp and showing
refusal 3, and a cancel context with both calls outstanding takes the place of the release.
Otherwise it becomes OVERDUE, and nothing else changes before the event’s end. A dock with no
WAITING release has no window to run out (log 2). A GOOD RELOCK or UNSTAMP sets its flag, and the
context goes when both are set; the UNSTAMP also clears the dock’s stamp and retires a member’s
CANCELLING record; a failed one changes nothing. The look of the seconds tick at a context queues
again each call whose flag is false and that is not queued, RELOCK first (log 35), and none to a
LOST dock. A SURVEY without BIKE at a RELEASING dock, any phase but STAMPING: pulled. The record is
OUT, with LATE_PULL from OVERDUE, a PENDING card RIDING, a crew’s move DONE with dock and bicycle.
In STAMPING: abandoned. The record is retired, the card freed and FORCED_REMOVAL raised. The context
goes and every token stays. A SURVEY without BIKE at an OCCUPIED dock whose bicycle has a CANCELLING
record: OUT with LATE_PULL, the card RIDING on it again, or the record ORPHAN where the card has
moved on; FORCED_REMOVAL is not raised. With a crew’s cancel context of the dock instead, the move
that holds the dock is DONE with LATE_PULL. That the departing dock’s own context counts where docks
besides it name the bicycle, and that every context of the bicycle then goes, is the model’s choice
(log 34). The premises on the staged buffer leave out a held follow-on, which may replace the moves
in the same event (R171). -/
def Obligations.PullWindowEnds : Prop :=
  (∀ (s : State) (d : Dock),
    (∀ x ms, s.release d = some x → x.phase = .waiting ms →
      (x.seenPresent = true → (s.link (dockNode d)).contact = .reachable →
        ∃ u, exec (.pullWindowExpiry (d.val + 1)) s = .next (finishEvent u) ∧
          u.release d = none ∧
          u.cancel d = some { kind := x.kind, bike := x.bike, card := x.card, start := x.start,
                              relockDone := false, unstampDone := false } ∧
          (u.dock d).occupancy = .occupied ∧
          (u.dock d).flash = some { code := 3, remaining := 3000 } ∧
          (u.dock d).bike = (s.dock d).bike ∧ (u.dock d).stampSeen = (s.dock d).stampSeen ∧
          (s.string.flight.isSome = true → (s.string.queue.filter (fun q => decide (q.verb ≠ .survey ∧ q.verb ≠ .lampShow))).length ≤ 38 → ∀ v ∈ [Verb.relock, .unstamp],
            ∃ q ∈ u.string.queue, q.target = .node (dockNode d) ∧ q.verb = v ∧ .hireUnit x.bike ∈ q.originators) ∧
          (x.kind = .member → ∀ r, s.findTrip x.bike = some r → r.state = .releasing → r.stamp.start = x.start →
            u.trips = s.trips.map (fun y => if y.bike = x.bike then { y with state := .cancelling } else y) ∧
            (∀ e, s.findCard x.card = some e → e.link = some (x.bike, x.start) →
            (e.activity = .pending ∨ e.activity = .riding) →
            u.findCard x.card = some { e with
              link := none, activity := if e.cls = .guest ∧ s.passed e = true then .settling else .idle })) ∧
          (∀ m n a y, x.kind = .crew m n → s.manifest.active = some a → a.header.number = n → a.moves[m]? = some y →
          ∃ a', u.manifest.active = some a' ∧ a'.moves[m]? = some { y with state := .reserved }) ∧
          u.settings = s.settings ∧ u.clock = s.clock ∧ u.supply = s.supply ∧ u.fare = s.fare ∧
          u.port = s.port) ∧
      ((x.seenPresent = false ∨ (s.link (dockNode d)).contact ≠ .reachable) →
        exec (.pullWindowExpiry (d.val + 1)) s = .next (finishEvent
          (s.setRelease d (some { x with phase := .overdue }))))) ∧
    ((∀ x ms, s.release d = some x → x.phase ≠ .waiting ms) →
      exec (.pullWindowExpiry (d.val + 1)) s = .next (finishEvent s))) ∧
  (∀ (s : State) (d : Dock) (y : CancelContext), s.cancel d = some y →
      relockEnd d y.bike false s = s ∧ hireUnstampEnd d y.bike false s = s ∧
      (let left := if y.unstampDone then none else some { y with relockDone := true }
       relockEnd d y.bike true s =
        { s with hire := { s.hire with cancels := s.hire.cancels.set d.val left d.isLt } }) ∧
      (let t := hireUnstampEnd d y.bike true s
       t.cancel d = (if y.relockDone then none else some { y with unstampDone := true }) ∧
       ((s.dock d).bike = some y.bike → (t.dock d).stampSeen = .none) ∧
       (∀ r, y.kind = .member → s.findTrip y.bike = some r → r.state = .cancelling → r.stamp.start = y.start →
         t.trips = s.trips.filter (fun z => decide (z.bike ≠ y.bike))) ∧
       ((∀ r, y.kind = .member → s.findTrip y.bike = some r → r.state = .cancelling → r.stamp.start ≠ y.start) →
         t.trips = s.trips)) ∧
      ((s.link (dockNode d)).contact = .lost → cancelTick d s = s) ∧
      ((s.link (dockNode d)).contact ≠ .lost → s.string.flight.isSome = true → s.string.queue.length ≤ 38 →
        let again : Bool → Verb → List QueueEntry := fun done v =>
          if done = false ∧ ∀ q ∈ s.string.queue, q.target = .node (dockNode d) → q.verb ≠ v then
            [{ target := .node (dockNode d), verb := v, args := [], cross := false,
               originators := [.hireUnit y.bike] }]
          else []
        cancelTick d s = { s with string := { s.string with
          queue := s.string.queue ++ again y.relockDone .relock ++ again y.unstampDone .unstamp } })) ∧
  (∀ (s : State) (d : Dock) (x : ReleaseContext) (c : Byte) (mark : Bool),
      (s.dock d).occupancy = .releasing → s.release d = some x → c.getLsbD 0 = false →
      let t := surveyAnswer d c mark s
      t.release d = none ∧ t.hire.tokens = s.hire.tokens ∧
      (x.kind = .member → ∀ r, s.tripsOk → s.findTrip x.bike = some r → r.state = .releasing →
        r.stamp.start = x.start →
        (x.phase ≠ .stamping →
          t.findTrip x.bike = some
            { r with state := .out, latePull := r.latePull || decide (x.phase = .overdue) } ∧
          (∀ e, s.findCard x.card = some e → e.activity = .pending →
            t.findCard x.card = some { e with activity := .riding })) ∧
        (x.phase = .stamping → t.findTrip x.bike = none ∧
          (∀ e, s.findCard x.card = some e → e.link = some (x.bike, x.start) →
            (e.activity = .pending ∨ e.activity = .riding) →
            t.findCard x.card = some { e with
              link := none, activity := if e.cls = .guest ∧ s.passed e = true then .settling else .idle }))) ∧
      (∀ m n a y, x.kind = .crew m n → x.phase ≠ .stamping → s.manifest.active = some a → a.header.number = n →
        a.moves[m]? = some y → (∀ g, s.manifest.staged = some g → g.held = false) →
        ∃ a', t.manifest.active = some a' ∧ a'.moves[m]? = some { y with
          state := .done, heldDock := none, landedDock := none, doneDock := some d, doneBike := some x.bike,
          latePull := decide (x.phase = .overdue) }) ∧
      (x.phase = .stamping → s.faultsOk → s.findFault (.dock d) .forcedRemoval = none →
        s.freeFaultSlot.isSome = true →
        ∃ f, t.findFault (.dock d) .forcedRemoval = some f ∧ f.state = .active)) ∧
  (∀ (s : State) (d : Dock) (b : Bike) (c : Byte) (mark : Bool),
      (s.dock d).occupancy = .occupied → (s.dock d).bike = some b → c.getLsbD 0 = false →
      let t := surveyAnswer d c mark s
      (∀ r, s.tripsOk → s.findTrip b = some r → r.state = .cancelling →
        (∀ e y, t.cancel e = some y → y.bike ≠ b) ∧
        (s.findFault (.dock d) .forcedRemoval = none → t.findFault (.dock d) .forcedRemoval = none) ∧
        (∀ e, s.findCard r.stamp.card = some e → e.activity = .idle → e.link = none → e.queuedDock = none →
          t.findTrip b = some { r with state := .out, latePull := true } ∧
          t.findCard r.stamp.card = some { e with activity := .riding, link := some (b, r.stamp.start) }) ∧
        ((∀ e, s.findCard r.stamp.card = some e →
            ¬(e.activity = .idle ∧ e.link = none ∧ e.queuedDock = none)) →
          t.findTrip b = some { r with state := .out, latePull := true, orphan := true } ∧ t.cards = s.cards)) ∧
      (∀ y m n a z, (∀ r, s.findTrip b = some r → r.state ≠ .cancelling) → s.cancel d = some y → y.bike = b →
        y.kind = .crew m n → s.manifest.active = some a → a.header.number = n → a.moves[m]? = some z →
        z.state = .reserved → z.heldDock = some d → (∀ g, s.manifest.staged = some g → g.held = false) →
        (∀ e w, t.cancel e = some w → w.bike ≠ b) ∧
        ∃ a', t.manifest.active = some a' ∧ a'.moves[m]? = some { z with
          state := .done, heldDock := none, landedDock := none, doneDock := some d, doneBike := some b,
          latePull := true }))

/-- REFUSAL_FLASH_EXPIRY at a dock makes its refusal_flash absent and selects its lamp again, by the
next case of R38; every other field of every dock record but lamp and lamp_shown of that dock stays,
and no block but the call queue changes. REPORT_WINDOW_EXPIRY at a dock makes its rider report
context absent, and nothing else changes. With none running nothing happens (log 2). The outcome of
a MARK, GOOD with its answer’s last character, failed with the window of its last attempt or refused
by a full queue, is handed to the Fault Table: GOOD gives the dock that still holds the bicycle the
value written, and a CLEAR makes an unmark of that bicycle absent; failed writes nothing; either way
a mark_pending of that value and bicycle becomes NONE, and nothing else changes but the lamp. The
mark wanted at an OCCUPIED dock that is not LOST is SET where its bicycle has an ACTIVE fault, else
CLEAR where the unmark names it, else none; where it differs from the mark the dock shows and is not
pending, it is pending and a MARK is queued, and nothing else changes. The unmark of a dock that is
EMPTY, or shows another bicycle, is dropped. A survey’s BUTTON, or a held one that the mask in force
does not name (log 12), is a rider report where the dock shows the bicycle of its report context,
which stays: without a record one is created with the card as reporter, ACTIVE at threshold 1 and
else SUSPECT; else the card joins up to 3 reporters, and a SUSPECT record with enough is ACTIVE.
With another bicycle or none there the context goes. A BUTTON_STUCK record that becomes ACTIVE sets
the button mask, and its retirement empties it. -/
def Obligations.FlashAndReportEnd : Prop :=
  ((∀ (s : State) (d : Dock),
    ((s.dock d).flash.isSome = true →
      ∃ u, exec (.refusalFlashExpiry (d.val + 1)) s = .next (finishEvent u) ∧
        (u.dock d).flash = none ∧ (u.dock d).lamp = u.lampFor d ∧
        u.dock d = { s.dock d with flash := none, lamp := (u.dock d).lamp, lampShown := (u.dock d).lampShown } ∧
        (∀ e, e ≠ d → u.dock e = s.dock e) ∧
        u = { s with docks := u.docks, string := u.string }) ∧
    ((s.dock d).flash = none → exec (.refusalFlashExpiry (d.val + 1)) s = .next (finishEvent s)) ∧
    exec (.reportWindowExpiry (d.val + 1)) s = .next (finishEvent
      (s.setFaultDock d (fun f => { f with report := none }))) ∧
    ((s.faultDock d).report = none → exec (.reportWindowExpiry (d.val + 1)) s = .next (finishEvent s))) ∧
  (∀ (s : State) (c : Call) (d : Dock) (b : Bike),
      s.string.flight = some (.call c) → c.crossOf = none → c.node = dockNode d →
      c.entry.target = .node (dockNode d) → c.entry.originators = [.faultTable b] → (c.entry.verb = .mark) →
      let ended : Bool → State → State := fun good v => markEnd d b (decide (field c.entry.args 0 1 = 1)) good v
      (∀ (got : List Byte) (data : Byte), c.phase = .answering got → got.length = 2 → sum8 (got ++ [data]) = 0 →
        ∃ v, exec (.stringCharacterReceived c.on data false) s = .next (finishEvent (freeString (ended true v))) ∧
        v = { s with string := v.string, docks := v.docks, faults := v.faults, agenda := v.agenda } ∧
        v.string.flight.isSome = true ∧
        ∀ e, ({ v.dock e with heldButton := false, resyncDue := false } : DockRecord).known =
          ({ s.dock e with heldButton := false, resyncDue := false } : DockRecord).known) ∧
      (1 + c.retries ≤ c.ended + 1 →
        ∃ v, exec .answerWindowExpiry s = .next (finishEvent (freeString (ended false v))) ∧
        v = { s with string := v.string, docks := v.docks, faults := v.faults, agenda := v.agenda } ∧
        v.string.flight.isSome = true ∧
        ∀ e, ({ v.dock e with heldButton := false, resyncDue := false } : DockRecord).known =
          ({ s.dock e with heldButton := false, resyncDue := false } : DockRecord).known) ∧
      deliverFailure c.entry s = ended false s) ∧
  (∀ (s : State) (d : Dock) (b : Bike) (value good : Bool),
      let t := markEnd d b value good s
      let f := s.faultDock d
      t = { s with docks := t.docks, string := t.string, faults := { s.faults with docks := t.faults.docks } } ∧
      t.faultDock d = { f with
        unmark := if good = true ∧ value = false ∧ f.unmark = some b then none else f.unmark,
        markPending := if f.markPending = some (value, b) then none else f.markPending } ∧
      (∀ e, e ≠ d → t.faultDock e = s.faultDock e ∧ (t.dock e).known = (s.dock e).known) ∧
      (t.dock d).known = (if good = true ∧ (s.dock d).bike = some b then { s.dock d with serviceMark := value }
        else s.dock d).known ∧
      (good = false → t.docks = s.docks ∧ t.string = s.string)) ∧
  (∀ (s : State) (d : Dock),
      let f := s.faultDock d
      let at_ : Bike → Prop := fun b => (s.dock d).occupancy = .occupied ∧
        (s.link (dockNode d)).contact ≠ .lost ∧ (s.dock d).bike = some b
      let wanted : Bool → Bike → Prop := fun v b => at_ b ∧
        ((v = true ∧ ∃ r ∈ s.faults.records, r.subject = .bike b ∧ r.state = .active) ∨
         (v = false ∧ f.unmark = some b ∧ ∀ r ∈ s.faults.records, r.subject = .bike b → r.state ≠ .active))
      ((∀ v b, ¬wanted v b) → evalMark d s = s) ∧
      (∀ v b, wanted v b → (v = (s.dock d).serviceMark ∨ f.markPending = some (v, b)) → evalMark d s = s) ∧
      (∀ v b, wanted v b → v ≠ (s.dock d).serviceMark → f.markPending ≠ some (v, b) →
        s.string.flight.isSome = true → s.string.queue.length < 40 →
        (∀ q ∈ s.string.queue, q.target = .node (dockNode d) → q.verb ≠ .mark) →
        evalMark d s = { s with
          faults := { s.faults with docks := s.faults.docks.set d.val { f with markPending := some (v, b) } d.isLt },
          string := { s.string with queue := s.string.queue ++
            [{ target := .node (dockNode d), verb := .mark, args := [if v then 1 else 0], cross := false,
               originators := [.faultTable b] }] } }) ∧
      (let left := { f with unmark := match f.unmark with
          | some b => if (s.dock d).occupancy = .empty ∨ ((s.dock d).bike ≠ none ∧ (s.dock d).bike ≠ some b)
              then none else some b
          | none => none }
       dropStaleUnmark d s = { s with faults := { s.faults with docks := s.faults.docks.set d.val left d.isLt } }))) ∧
  (∀ (s : State) (d : Dock) (x : Byte) (y : ReportContext),
      (s.dock d).occupancy = .occupied → (s.dock d).resyncDue = false → x.getLsbD 0 = true →
      (s.faultDock d).report = some y → s.faultsOk → s.faults.records.length ≤ 24 →
      let pressed : Bool := x.getLsbD 4 || ((s.dock d).heldButton && !(s.link (dockNode d)).mask.getLsbD 4)
      let t := surveyAnswer d x false s
      let new : FaultState → List CardNo → Prop := fun st l => ∃ i o,
        t.findFault (.bike y.bike) .riderReport = some
          { slot := i, subject := .bike y.bike, kind := .riderReport, state := st, count := 0, reporters := l,
            firstTime := s.clock.time, seen := false, order := o }
      (pressed = false → (t.faultDock d).report = some y ∧
        t.findFault (.bike y.bike) .riderReport = s.findFault (.bike y.bike) .riderReport) ∧
      (pressed = true → (s.dock d).bike ≠ some y.bike → (t.faultDock d).report = none ∧
        ∀ b, t.findFault (.bike b) .riderReport = s.findFault (.bike b) .riderReport) ∧
      (pressed = true → (s.dock d).bike = some y.bike → (t.faultDock d).report = some y ∧
        (s.findFault (.bike y.bike) .riderReport = none →
          (s.settings.reportThreshold ≤ 1 → new .active [y.card]) ∧
          (1 < s.settings.reportThreshold → new .suspect [y.card])) ∧
        (∀ r, s.findFault (.bike y.bike) .riderReport = some r →
          let l := if y.card ∈ r.reporters ∨ 3 ≤ r.reporters.length then r.reporters else r.reporters ++ [y.card]
          (r.state = .suspect → s.settings.reportThreshold ≤ l.length →
            t.findFault (.bike y.bike) .riderReport =
              some { r with reporters := l, state := .active, count := 0, seen := false }) ∧
          (r.state ≠ .suspect ∨ l.length < s.settings.reportThreshold →
            t.findFault (.bike y.bike) .riderReport = some { r with reporters := l })))) ∧
  (∀ (s : State) (d : Dock) (x : Byte) (mark : Bool), s.faultsOk → s.faults.records.length ≤ 24 →
      let pressed : Bool := x.getLsbD 4 || ((s.dock d).heldButton && !(s.link (dockNode d)).mask.getLsbD 4)
      let mask : Bool := ((surveyAnswer d x mark s).link (dockNode d)).buttonMask
      (s.findFault (.dock d) .buttonStuck = none → mask = (s.link (dockNode d)).buttonMask) ∧
      (∀ r, s.findFault (.dock d) .buttonStuck = some r →
        (r.judged 8 pressed = none → mask = false) ∧
        (∀ z, r.judged 8 pressed = some z →
          (r.state ≠ .active → z.state = .active → mask = true) ∧
          (r.state = .active ∨ z.state ≠ .active → mask = (s.link (dockNode d)).buttonMask))))

/-- A new sale of a card number other than 0 is answered, by the first check that fails, INVALID for a
plan above 7 or minutes outside 1..10,080, NOT_READY with the clock unset or no valid CURRENT,
EXISTS for a card held, FULL with no free slot, PLAN for a plan not defined in CURRENT, HOLD for a
hold below its unlock fee, and ACCEPTED otherwise. Sequence and outcome are kept; a refused sale
places no entry, an accepted one places a GUEST entry with the hold and nothing captured, valid for
the minutes sold. The end of a SETTLE empties the settle_context; ended GOOD it removes the SETTLING
entry of the same slot, card and sale sequence, and one that failed removes none. A GOOD SURVEY of
node 0 is handed to the Card Table: SALE queues a SALEREAD, and READY is followed by the settlement
step. The step does nothing with a settle_context present or no entry SETTLING; else it queues a
SETTLE with the card, captured and hold of the SETTLING entry of the lowest slot from the cursor on,
wrapping past slot 255, the settle_context takes its card, slot and sale sequence, and the cursor
the slot after it. A SALEREPLY with the sequence and the outcome that was kept is queued after a new
sale, and again for a sequence already decided, for which nothing else changes. The end of a call to
node 0 is handed to the Card Table, GOOD with its answer’s last character, failed with the window of
its last attempt or refused by a full queue: a GOOD SALEREAD with its 12 data bytes (sequence, card,
plan, minutes and hold), a SETTLE either way; a SALEREPLY, and a SALEREAD that failed, lead to
nothing. -/
def Obligations.SalesAndSettlements : Prop :=
  ((((∀ (x : Sale) (s : State), x.card ≠ 0 → s.terminal.lastSaleSequence ≠ some x.sequence →
      let plan : Fin 8 := Fin.ofNat 8 x.plan
      let outcome : SaleOutcome :=
        if 7 < x.plan ∨ x.minutes < 1 ∨ 10080 < x.minutes then .invalid
        else if s.clock.isSet = false ∨ s.fare.current.valid = false then .notReady
        else if ∃ e ∈ s.cards, e.card = x.card then .exists
        else if s.freeCardSlot = none then .full
        else if (s.fare.current.plans.get plan).count = 0 then .plan
        else if x.hold < (s.fare.current.plans.get plan).unlock then .hold
        else .accepted
      (saleRead x s).terminal =
        { s.terminal with lastSaleSequence := some x.sequence, lastSaleOutcome := outcome } ∧
      (outcome ≠ .accepted → (saleRead x s).cards = s.cards) ∧
      (outcome = .accepted → ∃ i, s.freeCardSlot = some i ∧
        (saleRead x s).cards = insertCard
          { slot := i, card := x.card, cls := .guest, plan := plan, blocked := false, activity := .idle,
            validUntil := some (s.clock.time + BitVec.ofNat 32 (x.minutes * 60)), link := none,
            queuedDock := none,
            guest := some { hold := x.hold, captured := 0, saleSequence := x.sequence } } s.cards)) ∧
  (∀ (x : Sale) (s : State), x.card = 0 → saleRead x s = s) ∧
  (∀ (x : Sale) (s : State), x.card ≠ 0 → s.terminal.lastSaleSequence = some x.sequence →
      (saleRead x s).terminal = s.terminal ∧ (saleRead x s).cards = s.cards) ∧
  (∀ s : State, settleEnd false s = { s with terminal := { s.terminal with settleContext := none } }) ∧
  (∀ (s : State) (c : SettleContext), s.terminal.settleContext = some c →
      (settleEnd true s).terminal = { s.terminal with settleContext := none } ∧
      ((∃ e ∈ s.cards, e.slot = c.slot ∧ e.card = c.card ∧ e.activity = .settling ∧
          ∃ g, e.guest = some g ∧ g.saleSequence = c.saleSequence) →
        (settleEnd true s).cards = s.cards.filter (fun e => decide (e.card ≠ c.card))) ∧
      ((∀ e ∈ s.cards, e.slot = c.slot → e.card = c.card → e.activity = .settling →
          ∀ g, e.guest = some g → g.saleSequence ≠ c.saleSequence) →
        (settleEnd true s).cards = s.cards))) ∧
  (∀ s : State,
      (s.terminal.settleContext ≠ none → settlementStep s = s) ∧
      ((∀ e ∈ s.cards, e.activity ≠ .settling) → settlementStep s = s) ∧
      (∀ (e : CardEntry) (g : GuestPart), s.cardsOk → s.terminal.settleContext = none → e ∈ s.cards →
        e.activity = .settling → e.guest = some g →
        (∀ x ∈ s.cards, x.activity = .settling →
          if s.terminal.settleCursor ≤ e.slot then (s.terminal.settleCursor ≤ x.slot → e.slot ≤ x.slot)
          else (x.slot < s.terminal.settleCursor ∧ e.slot ≤ x.slot)) →
        s.string.flight.isSome = true → s.string.queue.length < 40 →
        (∀ q ∈ s.string.queue, q.target = .node 0 → q.verb ≠ .settle) →
        settlementStep s = { s with
          terminal := { s.terminal with
            settleContext := some { card := e.card, slot := e.slot, saleSequence := g.saleSequence },
            settleCursor := if e.slot = 255 then 0 else e.slot + 1 },
          string := { s.string with queue := s.string.queue ++
            [{ target := .node 0, verb := .settle,
               args := beBytes 5 e.card.toNat ++ beBytes 2 g.captured ++ beBytes 2 g.hold, cross := false,
               originators := [.cardTable] }] } })) ∧
  (∀ (s : State) (c : Byte), s.string.flight.isSome = true → s.string.queue.length < 40 →
      (∀ q ∈ s.string.queue, q.target = .node 0 → q.verb ≠ .saleread) →
      let u := { s with string := { s.string with queue := s.string.queue ++
        (if c.getLsbD 1 then
          [{ target := .node 0, verb := .saleread, args := [], cross := false, originators := [.cardTable] }]
         else []) } }
      terminalSurvey c s = if c.getLsbD 0 then settlementStep u else u) ∧
  (∀ (s : State) (c : Call) (got : List Byte) (data : Byte),
      s.string.flight = some (.call c) → c.crossOf = none → c.node = 0 →
      c.entry.verb = .survey → c.entry.cross = false →
      c.phase = .answering got → got.length = 2 → sum8 (got ++ [data]) = 0 →
      ∃ v, exec (.stringCharacterReceived c.on data false) s =
          .next (finishEvent (freeString (terminalSurvey (got.getD 1 0) v))) ∧
        v = { s with string := v.string, docks := v.docks, faults := v.faults, agenda := v.agenda } ∧
        v.string.flight.isSome = true)) ∧
  (∀ (x : Sale) (s : State), x.card ≠ 0 → s.string.flight.isSome = true → s.string.queue.length < 40 →
      (∀ q ∈ s.string.queue, q.target = .node 0 → q.verb ≠ .salereply) →
      ∃ o : SaleOutcome, (saleRead x s).terminal.lastSaleOutcome = o ∧
        (saleRead x s).string = { s.string with queue := s.string.queue ++
          [{ target := .node 0, verb := .salereply,
             args := beBytes 2 x.sequence ++ [match o with
               | .accepted => 0 | .exists => 1 | .full => 2 | .plan => 3 | .hold => 4 | .notReady => 5
               | .invalid => 6],
             cross := false, originators := [.cardTable] }] } ∧
        (s.terminal.lastSaleSequence = some x.sequence → o = s.terminal.lastSaleOutcome))) ∧
  (∀ (s : State) (c : Call), s.string.flight = some (.call c) → c.crossOf = none → c.node = 0 →
      c.entry.target = .node 0 → (c.entry.verb = .saleread ∨ c.entry.verb = .salereply ∨ c.entry.verb = .settle) →
      let ended : Option (List Byte) → State → State := fun answer v =>
        if c.entry.verb = .settle then settleEnd answer.isSome v
        else match answer with
          | some bs => if c.entry.verb = .saleread then saleRead (readSale bs) v else v
          | none => v
      (∀ (got : List Byte) (data : Byte), c.phase = .answering got →
        got.length = (if c.entry.verb = .saleread then 14 else 2) → sum8 (got ++ [data]) = 0 →
        ∃ v, exec (.stringCharacterReceived c.on data false) s =
          .next (finishEvent (freeString (ended (some (got.drop 2)) v))) ∧
        v = { s with string := v.string, docks := v.docks, faults := v.faults, agenda := v.agenda } ∧
        v.string.flight.isSome = true ∧ ∀ e, (v.dock e).known = (s.dock e).known) ∧
      (1 + c.retries ≤ c.ended + 1 →
        ∃ v, exec .answerWindowExpiry s = .next (finishEvent (freeString (ended none v))) ∧
        v = { s with string := v.string, docks := v.docks, faults := v.faults, agenda := v.agenda } ∧
        v.string.flight.isSome = true ∧ ∀ e, (v.dock e).known = (s.dock e).known) ∧
      deliverFailure c.entry s = ended none s) ∧
  (∀ x : Sale, x.sequence < 65536 → x.plan < 256 → x.minutes < 65536 → x.hold < 65536 →
      readSale (beBytes 2 x.sequence ++ beBytes 5 x.card.toNat ++ [byte x.plan] ++ beBytes 2 x.minutes ++
        beBytes 2 x.hold) = x)

/-- An arrival at a dock whose stamp matches, in start time and origin, the OUT record of its bicycle:
where CURRENT or PREVIOUS can price it with the clock set, the record becomes PRICED with the return
dock, the time now and the fare and flags of R109 to R117, its UNSTAMP is queued to that dock (with
room in the call queue), and an entry of the card linked to that trip is freed; with the clock
unset, or where no bank can price it, the record stays OUT and the arrival is deferred at the dock.
No other record changes. Settings, station time, supply state, banks and port stay. A matching
RELEASING record, or a CANCELLING one of another dock, first becomes OUT, as a pull (LATE_PULL where
the release was OVERDUE) or a late pull (LATE_PULL; ORPHAN where the card cannot be linked again),
its context gone and its release dock EMPTY where that dock still shows the bicycle; the arrival
then goes on as of the OUT record. At a seconds tick a PRICED record not UNSTAMPED, at its return
dock, and a CANCELLING one that no cancel context of its release dock holds, have the UNSTAMP queued
again where unstamp_dock is absent, the dock holds the bicycle and is not LOST; otherwise the look
changes nothing. The end of the UNSTAMP makes unstamp_dock absent; GOOD, with the bicycle still
there, it clears the dock’s stamp, and the PRICED record is UNSTAMPED or the CANCELLING one retired.
An UNSTAMP that ends GOOD with its answer’s last character, fails with the window of its last
attempt or is refused by a full queue is handed to each block that asked, in the order in which they
joined the entry (log 35). -/
def Obligations.ArrivalPriced : Prop :=
  ((∀ (s : State) (d : Dock) (b : Bike) (st : StampFields) (r : TripRecord),
    s.findTrip b = some r → r.state = .out → r.stamp.start = st.start →
    r.stamp.origin = st.origin →
    (∀ x, s.clock.isSet = true →
      s.fare.price st s.clock.time (s.hireableOthers d) s.dropToDo = some x →
      (arrivalCases d b st s).findTrip b = some { r with
        state := .priced { returnDock := d, endTime := s.clock.time, fare := x.fare, flags := x.flags },
        unstampDock := some d } ∧
      (∀ c, c ≠ b → (arrivalCases d b st s).findTrip c = s.findTrip c) ∧
      (s.string.flight.isSome = true → (s.string.queue.filter (fun q => decide (q.verb ≠ .survey ∧ q.verb ≠ .lampShow))).length ≤ 39 →
        ∃ q ∈ (arrivalCases d b st s).string.queue, q.target = .node (dockNode d) ∧ q.verb = .unstamp ∧
          .tripTable b ∈ q.originators) ∧
      (r.foreign = false → r.orphan = false → ∀ e, s.findCard r.stamp.card = some e →
        e.link = some (b, r.stamp.start) → (e.activity = .pending ∨ e.activity = .riding) →
        ∃ e', (arrivalCases d b st s).findCard r.stamp.card = some e' ∧ e'.link = none ∧
          e'.activity = (if e.cls = .guest ∧ s.passed e = true then .settling else .idle) ∧
          e'.guest = e.guest.map (fun g =>
            { g with captured := g.captured + min x.fare (g.hold - g.captured) }))) ∧
    (s.clock.isSet = false ∨
        s.fare.price st s.clock.time (s.hireableOthers d) s.dropToDo = none →
      (arrivalCases d b st s).findTrip b = some r ∧
      (arrivalCases d b st s).deferred.get d = some { bike := b, stamp := st }) ∧
    (arrivalCases d b st s).settings = s.settings ∧ (arrivalCases d b st s).clock = s.clock ∧
    (arrivalCases d b st s).supply = s.supply ∧ (arrivalCases d b st s).fare = s.fare ∧
    (arrivalCases d b st s).port = s.port) ∧
  (∀ (s : State) (d : Dock) (b : Bike) (st : StampFields) (r : TripRecord),
      s.findTrip b = some r → r.stamp.start = st.start → r.stamp.origin = st.origin →
      (r.state = .releasing ∨ (r.state = .cancelling ∧ r.releaseDock ≠ some d)) →
      (∀ x y, r.releaseDock = some x → s.release x = some y → y.bike = b → y.kind = .member ∧ y.start = st.start) →
      ∃ u, arrivalCases d b st s = arrivalCases d b st u ∧
        u.clock = s.clock ∧ u.fare = s.fare ∧ u.settings = s.settings ∧
        (r.state = .releasing → u.findTrip b = some { r with
            state := .out,
            latePull := r.latePull || (match r.releaseDock with
              | some x => (match s.release x with
                | some y => decide (y.bike = b ∧ y.phase = .overdue)
                | none => false)
              | none => false) } ∧
          (∀ x y, r.releaseDock = some x → u.release x = some y → y.bike ≠ b)) ∧
        (r.state = .cancelling →
          (∃ o, u.findTrip b = some { r with state := .out, latePull := true, orphan := o } ∧
            (o = r.orphan ∨ o = true) ∧
            ((∀ e, s.findCard r.stamp.card = some e →
              ¬(e.activity = .idle ∧ e.link = none ∧ e.queuedDock = none)) → o = true)) ∧
          (∀ e y, u.cancel e = some y → y.bike ≠ b)) ∧
        (∀ x, r.releaseDock = some x → (s.dock x).bike = some b →
          ((s.dock x).occupancy = .releasing ∨ (s.dock x).occupancy = .occupied) →
          (u.dock x).occupancy = .empty ∧ (u.dock x).bike = none)) ∧
  (∀ (s : State) (r : TripRecord),
      let due : Dock → Prop := fun d =>
        ((∃ p, r.state = .priced p ∧ r.unstamped = false ∧ p.returnDock = d) ∨
          (r.state = .cancelling ∧ r.releaseDock = some d ∧ ∀ y, s.cancel d = some y → y.bike ≠ r.bike)) ∧
        r.unstampDock = none ∧ (s.dock d).bike = some r.bike ∧ (s.link (dockNode d)).contact ≠ .lost
      ((∀ d, ¬due d) → tripTickOne r s = s) ∧
      (∀ d, due d → s.string.flight.isSome = true → s.string.queue.length < 40 →
        (∀ q ∈ s.string.queue, q.target = .node (dockNode d) → q.verb ≠ .unstamp) →
        tripTickOne r s = { s with
          trips := s.trips.map (fun y => if y.bike = r.bike then { y with unstampDock := some d } else y),
          string := { s.string with queue := s.string.queue ++
            [{ target := .node (dockNode d), verb := .unstamp, args := [], cross := false,
               originators := [.tripTable r.bike] }] } })) ∧
  (∀ (s : State) (d : Dock) (b : Bike) (r : TripRecord),
      s.tripsOk → s.findTrip b = some r → r.unstampDock = some d →
      let t := tripUnstampEnd d b true s
      (tripUnstampEnd d b false s).findTrip b = some { r with unstampDock := none } ∧
      ((s.dock d).bike ≠ some b → t.findTrip b = some { r with unstampDock := none } ∧ t.docks = s.docks) ∧
      ((s.dock d).bike = some b → (t.dock d).stampSeen = .none ∧
        (∀ p, r.state = .priced p → t.findTrip b = some { r with unstampDock := none, unstamped := true }) ∧
        (r.state = .cancelling → t.findTrip b = none)))) ∧
  (∀ (s : State) (c : Call) (d : Dock),
      s.string.flight = some (.call c) → c.crossOf = none → c.node = dockNode d →
      c.entry.target = .node (dockNode d) → c.entry.verb = .unstamp →
      let ended : Bool → State → State := fun good v => c.entry.originators.foldl (fun w o => match o with
        | .hireUnit b => hireUnstampEnd d b good w
        | .tripTable b => tripUnstampEnd d b good w
        | .manifestUnit b => vanUnstampEnd d b good w
        | .stringController | .dockMonitor | .cardTable | .faultTable _ => w) v
      (∀ (got : List Byte) (data : Byte), c.phase = .answering got → got.length = 2 → sum8 (got ++ [data]) = 0 →
        ∃ v, exec (.stringCharacterReceived c.on data false) s = .next (finishEvent (freeString (ended true v))) ∧
        v = { s with string := v.string, docks := v.docks, faults := v.faults, agenda := v.agenda } ∧
        v.string.flight.isSome = true ∧
        ∀ e, ({ v.dock e with heldButton := false, resyncDue := false } : DockRecord).known =
          ({ s.dock e with heldButton := false, resyncDue := false } : DockRecord).known) ∧
      (1 + c.retries ≤ c.ended + 1 →
        ∃ v, exec .answerWindowExpiry s = .next (finishEvent (freeString (ended false v))) ∧
        v = { s with string := v.string, docks := v.docks, faults := v.faults, agenda := v.agenda } ∧
        v.string.flight.isSome = true ∧
        ∀ e, ({ v.dock e with heldButton := false, resyncDue := false } : DockRecord).known =
          ({ s.dock e with heldButton := false, resyncDue := false } : DockRecord).known) ∧
      deliverFailure c.entry s = ended false s)

/-- Every well-formed command answers a next state from every state, and so does every step while the
waiting commands are well formed; a command is refused exactly when it is no event of the spec (log
24), and no command faults. -/
def Obligations.EveryCommandSteps : Prop :=
  (∀ (c : Instr) (s : State), c.wellFormed = true → ∃ t, exec c s = .next t) ∧
  (∀ (c : Instr) (s : State), c.wellFormed = false → exec c s = .refused .illFormed) ∧
  (∀ s : State, s.pendingOk = true → stepsOn s)

/-- An invariant of every step: from every state that meets it, reached by a run or not, a step that
answers a next state keeps it. The call queue holds at most 40 entries and no two share a (node,
verb) key. -/
def Obligations.StepKeepsQueue : Prop :=
  ∀ s t : State, s.queueOk → step s = .next t → t.queueOk

/-- An invariant of every step: from every state that meets it, reached by a run or not, a step that
answers a next state keeps it. The card table is ordered by slot with no card twice, at most 4 refer
slots of different cards, at most 8 release requests for different docks, at most 64 trips of
different bicycles, and fault records ordered by slot with no subject and kind twice. -/
def Obligations.StepKeepsTables : Prop :=
  ∀ s t : State, s.tablesOk → step s = .next t → t.tablesOk

/-- An invariant of every step: from every state that meets it, reached by a run or not, a step that
answers a next state keeps it. Each item 1 to 20 lies in its range, and CRIT_ENTER < CRIT_EXIT ≤
LOW_ENTER < LOW_EXIT. -/
def Obligations.StepKeepsSettings : Prop :=
  ∀ s t : State, s.settings.ok → step s = .next t → t.settings.ok

/-- An invariant of every step: from every state that meets it, reached by a run or not, a step that
answers a next state keeps it. The command result block is empty exactly while a change command is
in progress, the read result block always holds a result; the bank STAGED is never valid and carries
generation 0. -/
def Obligations.StepKeepsPort : Prop :=
  (∀ s t : State, s.port.ok → step s = .next t → t.port.ok) ∧
  (∀ s t : State, s.fare.ok → step s = .next t → t.fare.ok)

/-- An invariant of every step: from every state that meets it, reached by a run or not, a step that
answers a next state keeps it. Nothing of an event is left over for a later step (log 7); that what
is still noted after 4,096 rounds is dropped is the choice of log 28, so this does not say that
every noted work is carried out. The commands that wait stay ones that can happen at the part. -/
def Obligations.StepKeepsQuiet : Prop :=
  (∀ s t : State, s.quiet → step s = .next t → t.quiet) ∧
  (∀ s t : State, s.pendingOk = true → step s = .next t → t.pendingOk = true)

/-- State.reset meets the invariants of the call queue, the tables, the settings, the port, the STAGED
bank, the end of events and the waiting commands. -/
def Obligations.InvariantsAtReset : Prop :=
  State.reset.queueOk ∧ State.reset.tablesOk ∧ State.reset.settings.ok ∧ State.reset.port.ok ∧
  State.reset.fare.ok ∧ State.reset.quiet ∧ State.reset.pendingOk = true
end

