-- ==== Sys2Proof/Laws/Bytes.lean ====
section
/-! SUPPORT. Numbers written as bytes are read back (R196), and a field of joined byte lists is a field of
one of them. -/

namespace Sys2Proof.Machine

open Sys2Proof

@[simp] theorem byte_toNat (b : Byte) : byte b.toNat = b := by simp [byte]

theorem toNat_byte (n : Nat) (h : n < 256) : (byte n).toNat = n := by
  simp only [byte, BitVec.toNat_ofNat]
  exact Nat.mod_eq_of_lt h

@[simp] theorem beBytes_length (n v : Nat) : (beBytes n v).length = n := by
  induction n with
  | zero => rfl
  | succ n ih => simp [beBytes, ih]

theorem beNat_cons (x : Byte) (l : List Byte) : beNat (x :: l) = x.toNat * 256 ^ l.length + beNat l := by
  have h : ∀ (l : List Byte) (a : Nat),
      l.foldl (fun a b => a * 256 + b.toNat) a = a * 256 ^ l.length + beNat l := by
    intro l
    induction l with
    | nil => intro a; simp [beNat]
    | cons y l ih =>
      intro a
      have e : beNat (y :: l) = l.foldl (fun a b => a * 256 + b.toNat) (0 * 256 + y.toNat) := rfl
      rw [e, ih, List.foldl_cons, ih, List.length_cons, pow_succ]
      ring
  have e : beNat (x :: l) = l.foldl (fun a b => a * 256 + b.toNat) (0 * 256 + x.toNat) := rfl
  rw [e, h]
  ring

/-- Only the lower `n` bytes of a number are written. -/
theorem beBytes_mod (n v : Nat) : beBytes n v = beBytes n (v % 256 ^ n) := by
  induction n generalizing v with
  | zero => rfl
  | succ n ih =>
    simp only [beBytes]
    have hq : v % 256 ^ (n + 1) / 256 ^ n = v / 256 ^ n % 256 := by
      rw [pow_succ, Nat.mod_mul_right_div_self]
    congr 1
    · rw [hq]
      apply BitVec.eq_of_toNat_eq
      simp [byte]
    · rw [ih v, ih (v % 256 ^ (n + 1)), pow_succ, Nat.mod_mul_right_mod]

/-- A number that fits is read back from its bytes (R196). -/
theorem beNat_beBytes (n v : Nat) (h : v < 256 ^ n) : beNat (beBytes n v) = v := by
  induction n generalizing v with
  | zero => simp only [pow_zero] at h; simp [beBytes, beNat]; omega
  | succ n ih =>
    have hp : 0 < 256 ^ n := by positivity
    have hq : v / 256 ^ n < 256 := by
      rw [Nat.div_lt_iff_lt_mul hp]
      rw [pow_succ] at h
      linarith
    simp only [beBytes]
    rw [beNat_cons, beBytes_length, beBytes_mod n v, ih _ (Nat.mod_lt _ hp), toNat_byte _ hq]
    have := Nat.div_add_mod v (256 ^ n)
    linarith

@[simp] theorem field_zero (b : Byte) (l : List Byte) : field (b :: l) 0 1 = b.toNat := by
  simp [field, beNat]

@[simp] theorem field_succ (b : Byte) (l : List Byte) (i n : Nat) :
    field (b :: l) (i + 1) n = field l i n := by
  simp [field]

theorem field_left (a b : List Byte) (i n : Nat) (h : i + n ≤ a.length) :
    field (a ++ b) i n = field a i n := by
  unfold field
  rw [List.drop_append_of_le_length (by omega), List.take_append_of_le_length (by simp; omega)]

theorem field_right (a b : List Byte) (i n : Nat) (h : a.length ≤ i) :
    field (a ++ b) i n = field b (i - a.length) n := by
  unfold field
  rw [List.drop_append, List.drop_eq_nil_of_le h, List.nil_append]

theorem field_beBytes (n v : Nat) (h : v < 256 ^ n) : field (beBytes n v) 0 n = v := by
  unfold field
  rw [List.drop_zero, List.take_of_length_le (by simp), beNat_beBytes n v h]

/-- The first field of a frame whose arguments begin with a number of `n` bytes. -/
theorem field_first (n v : Nat) (l : List Byte) (h : v < 256 ^ n) : field (beBytes n v ++ l) 0 n = v := by
  rw [field_left _ _ _ _ (by simp), field_beBytes n v h]

/-- A field beyond a number of `n` bytes. -/
theorem field_beyond (n v i k : Nat) (l : List Byte) (h : n ≤ i) :
    field (beBytes n v ++ l) i k = field l (i - n) k := by
  rw [field_right _ _ _ _ (by simpa using h), beBytes_length]

end Sys2Proof.Machine
end

