-- ==== Sys2Proof/Laws/State.lean ====
section
/-! SUPPORT. One lemma for each field of State and each primitive update of Machine/Ops.lean: the field
it changes and the fields it leaves. -/

namespace Sys2Proof.Machine

open Sys2Proof

variable (s : State)

/-! ### setLink -/

@[simp] theorem setLink_pending (n : Node) (f : LinkRecord → LinkRecord) : (s.setLink n f).pending = s.pending := rfl
@[simp] theorem setLink_settings (n : Node) (f : LinkRecord → LinkRecord) : (s.setLink n f).settings = s.settings := rfl
@[simp] theorem setLink_clock (n : Node) (f : LinkRecord → LinkRecord) : (s.setLink n f).clock = s.clock := rfl
@[simp] theorem setLink_supply (n : Node) (f : LinkRecord → LinkRecord) : (s.setLink n f).supply = s.supply := rfl
@[simp] theorem setLink_fare (n : Node) (f : LinkRecord → LinkRecord) : (s.setLink n f).fare = s.fare := rfl
@[simp] theorem setLink_port (n : Node) (f : LinkRecord → LinkRecord) : (s.setLink n f).port = s.port := rfl
@[simp] theorem setLink_string (n : Node) (f : LinkRecord → LinkRecord) : (s.setLink n f).string = { s.string with links := upd s.string.links n f } := rfl
@[simp] theorem setLink_docks (n : Node) (f : LinkRecord → LinkRecord) : (s.setLink n f).docks = s.docks := rfl
@[simp] theorem setLink_cards (n : Node) (f : LinkRecord → LinkRecord) : (s.setLink n f).cards = s.cards := rfl
@[simp] theorem setLink_refers (n : Node) (f : LinkRecord → LinkRecord) : (s.setLink n f).refers = s.refers := rfl
@[simp] theorem setLink_terminal (n : Node) (f : LinkRecord → LinkRecord) : (s.setLink n f).terminal = s.terminal := rfl
@[simp] theorem setLink_hire (n : Node) (f : LinkRecord → LinkRecord) : (s.setLink n f).hire = s.hire := rfl
@[simp] theorem setLink_trips (n : Node) (f : LinkRecord → LinkRecord) : (s.setLink n f).trips = s.trips := rfl
@[simp] theorem setLink_deferred (n : Node) (f : LinkRecord → LinkRecord) : (s.setLink n f).deferred = s.deferred := rfl
@[simp] theorem setLink_faults (n : Node) (f : LinkRecord → LinkRecord) : (s.setLink n f).faults = s.faults := rfl
@[simp] theorem setLink_manifest (n : Node) (f : LinkRecord → LinkRecord) : (s.setLink n f).manifest = s.manifest := rfl
@[simp] theorem setLink_agenda (n : Node) (f : LinkRecord → LinkRecord) : (s.setLink n f).agenda = s.agenda := rfl
@[simp] theorem setLink_senseCount (n : Node) (f : LinkRecord → LinkRecord) : (s.setLink n f).senseCount = s.senseCount := rfl

/-! ### setQueue -/

@[simp] theorem setQueue_pending (q : List QueueEntry) : (s.setQueue q).pending = s.pending := rfl
@[simp] theorem setQueue_settings (q : List QueueEntry) : (s.setQueue q).settings = s.settings := rfl
@[simp] theorem setQueue_clock (q : List QueueEntry) : (s.setQueue q).clock = s.clock := rfl
@[simp] theorem setQueue_supply (q : List QueueEntry) : (s.setQueue q).supply = s.supply := rfl
@[simp] theorem setQueue_fare (q : List QueueEntry) : (s.setQueue q).fare = s.fare := rfl
@[simp] theorem setQueue_port (q : List QueueEntry) : (s.setQueue q).port = s.port := rfl
@[simp] theorem setQueue_string (q : List QueueEntry) : (s.setQueue q).string = { s.string with queue := q } := rfl
@[simp] theorem setQueue_docks (q : List QueueEntry) : (s.setQueue q).docks = s.docks := rfl
@[simp] theorem setQueue_cards (q : List QueueEntry) : (s.setQueue q).cards = s.cards := rfl
@[simp] theorem setQueue_refers (q : List QueueEntry) : (s.setQueue q).refers = s.refers := rfl
@[simp] theorem setQueue_terminal (q : List QueueEntry) : (s.setQueue q).terminal = s.terminal := rfl
@[simp] theorem setQueue_hire (q : List QueueEntry) : (s.setQueue q).hire = s.hire := rfl
@[simp] theorem setQueue_trips (q : List QueueEntry) : (s.setQueue q).trips = s.trips := rfl
@[simp] theorem setQueue_deferred (q : List QueueEntry) : (s.setQueue q).deferred = s.deferred := rfl
@[simp] theorem setQueue_faults (q : List QueueEntry) : (s.setQueue q).faults = s.faults := rfl
@[simp] theorem setQueue_manifest (q : List QueueEntry) : (s.setQueue q).manifest = s.manifest := rfl
@[simp] theorem setQueue_agenda (q : List QueueEntry) : (s.setQueue q).agenda = s.agenda := rfl
@[simp] theorem setQueue_senseCount (q : List QueueEntry) : (s.setQueue q).senseCount = s.senseCount := rfl

/-! ### setCall -/

@[simp] theorem setCall_pending (c : Call) : (s.setCall c).pending = s.pending := rfl
@[simp] theorem setCall_settings (c : Call) : (s.setCall c).settings = s.settings := rfl
@[simp] theorem setCall_clock (c : Call) : (s.setCall c).clock = s.clock := rfl
@[simp] theorem setCall_supply (c : Call) : (s.setCall c).supply = s.supply := rfl
@[simp] theorem setCall_fare (c : Call) : (s.setCall c).fare = s.fare := rfl
@[simp] theorem setCall_port (c : Call) : (s.setCall c).port = s.port := rfl
@[simp] theorem setCall_string (c : Call) : (s.setCall c).string = { s.string with flight := some (.call c) } := rfl
@[simp] theorem setCall_docks (c : Call) : (s.setCall c).docks = s.docks := rfl
@[simp] theorem setCall_cards (c : Call) : (s.setCall c).cards = s.cards := rfl
@[simp] theorem setCall_refers (c : Call) : (s.setCall c).refers = s.refers := rfl
@[simp] theorem setCall_terminal (c : Call) : (s.setCall c).terminal = s.terminal := rfl
@[simp] theorem setCall_hire (c : Call) : (s.setCall c).hire = s.hire := rfl
@[simp] theorem setCall_trips (c : Call) : (s.setCall c).trips = s.trips := rfl
@[simp] theorem setCall_deferred (c : Call) : (s.setCall c).deferred = s.deferred := rfl
@[simp] theorem setCall_faults (c : Call) : (s.setCall c).faults = s.faults := rfl
@[simp] theorem setCall_manifest (c : Call) : (s.setCall c).manifest = s.manifest := rfl
@[simp] theorem setCall_agenda (c : Call) : (s.setCall c).agenda = s.agenda := rfl
@[simp] theorem setCall_senseCount (c : Call) : (s.setCall c).senseCount = s.senseCount := rfl

/-! ### setSent -/

@[simp] theorem setSent_pending (l : List (StringEnd × StringChar)) : (s.setSent l).pending = s.pending := rfl
@[simp] theorem setSent_settings (l : List (StringEnd × StringChar)) : (s.setSent l).settings = s.settings := rfl
@[simp] theorem setSent_clock (l : List (StringEnd × StringChar)) : (s.setSent l).clock = s.clock := rfl
@[simp] theorem setSent_supply (l : List (StringEnd × StringChar)) : (s.setSent l).supply = s.supply := rfl
@[simp] theorem setSent_fare (l : List (StringEnd × StringChar)) : (s.setSent l).fare = s.fare := rfl
@[simp] theorem setSent_port (l : List (StringEnd × StringChar)) : (s.setSent l).port = s.port := rfl
@[simp] theorem setSent_string (l : List (StringEnd × StringChar)) : (s.setSent l).string = { s.string with lastSent := l } := rfl
@[simp] theorem setSent_docks (l : List (StringEnd × StringChar)) : (s.setSent l).docks = s.docks := rfl
@[simp] theorem setSent_cards (l : List (StringEnd × StringChar)) : (s.setSent l).cards = s.cards := rfl
@[simp] theorem setSent_refers (l : List (StringEnd × StringChar)) : (s.setSent l).refers = s.refers := rfl
@[simp] theorem setSent_terminal (l : List (StringEnd × StringChar)) : (s.setSent l).terminal = s.terminal := rfl
@[simp] theorem setSent_hire (l : List (StringEnd × StringChar)) : (s.setSent l).hire = s.hire := rfl
@[simp] theorem setSent_trips (l : List (StringEnd × StringChar)) : (s.setSent l).trips = s.trips := rfl
@[simp] theorem setSent_deferred (l : List (StringEnd × StringChar)) : (s.setSent l).deferred = s.deferred := rfl
@[simp] theorem setSent_faults (l : List (StringEnd × StringChar)) : (s.setSent l).faults = s.faults := rfl
@[simp] theorem setSent_manifest (l : List (StringEnd × StringChar)) : (s.setSent l).manifest = s.manifest := rfl
@[simp] theorem setSent_agenda (l : List (StringEnd × StringChar)) : (s.setSent l).agenda = s.agenda := rfl
@[simp] theorem setSent_senseCount (l : List (StringEnd × StringChar)) : (s.setSent l).senseCount = s.senseCount := rfl

/-! ### setSplit -/

@[simp] theorem setSplit_pending (k : Fin 30) (b : Bool) : (s.setSplit k b).pending = s.pending := rfl
@[simp] theorem setSplit_settings (k : Fin 30) (b : Bool) : (s.setSplit k b).settings = s.settings := rfl
@[simp] theorem setSplit_clock (k : Fin 30) (b : Bool) : (s.setSplit k b).clock = s.clock := rfl
@[simp] theorem setSplit_supply (k : Fin 30) (b : Bool) : (s.setSplit k b).supply = s.supply := rfl
@[simp] theorem setSplit_fare (k : Fin 30) (b : Bool) : (s.setSplit k b).fare = s.fare := rfl
@[simp] theorem setSplit_port (k : Fin 30) (b : Bool) : (s.setSplit k b).port = s.port := rfl
@[simp] theorem setSplit_string (k : Fin 30) (b : Bool) : (s.setSplit k b).string = { s.string with splits := s.string.splits.set k.val b k.isLt } := rfl
@[simp] theorem setSplit_docks (k : Fin 30) (b : Bool) : (s.setSplit k b).docks = s.docks := rfl
@[simp] theorem setSplit_cards (k : Fin 30) (b : Bool) : (s.setSplit k b).cards = s.cards := rfl
@[simp] theorem setSplit_refers (k : Fin 30) (b : Bool) : (s.setSplit k b).refers = s.refers := rfl
@[simp] theorem setSplit_terminal (k : Fin 30) (b : Bool) : (s.setSplit k b).terminal = s.terminal := rfl
@[simp] theorem setSplit_hire (k : Fin 30) (b : Bool) : (s.setSplit k b).hire = s.hire := rfl
@[simp] theorem setSplit_trips (k : Fin 30) (b : Bool) : (s.setSplit k b).trips = s.trips := rfl
@[simp] theorem setSplit_deferred (k : Fin 30) (b : Bool) : (s.setSplit k b).deferred = s.deferred := rfl
@[simp] theorem setSplit_faults (k : Fin 30) (b : Bool) : (s.setSplit k b).faults = s.faults := rfl
@[simp] theorem setSplit_manifest (k : Fin 30) (b : Bool) : (s.setSplit k b).manifest = s.manifest := rfl
@[simp] theorem setSplit_agenda (k : Fin 30) (b : Bool) : (s.setSplit k b).agenda = s.agenda := rfl
@[simp] theorem setSplit_senseCount (k : Fin 30) (b : Bool) : (s.setSplit k b).senseCount = s.senseCount := rfl

/-! ### setRound -/

@[simp] theorem setRound_pending (r m : Nat) : (s.setRound r m).pending = s.pending := rfl
@[simp] theorem setRound_settings (r m : Nat) : (s.setRound r m).settings = s.settings := rfl
@[simp] theorem setRound_clock (r m : Nat) : (s.setRound r m).clock = s.clock := rfl
@[simp] theorem setRound_supply (r m : Nat) : (s.setRound r m).supply = s.supply := rfl
@[simp] theorem setRound_fare (r m : Nat) : (s.setRound r m).fare = s.fare := rfl
@[simp] theorem setRound_port (r m : Nat) : (s.setRound r m).port = s.port := rfl
@[simp] theorem setRound_string (r m : Nat) : (s.setRound r m).string = { s.string with round := r, roundTimer := m } := rfl
@[simp] theorem setRound_docks (r m : Nat) : (s.setRound r m).docks = s.docks := rfl
@[simp] theorem setRound_cards (r m : Nat) : (s.setRound r m).cards = s.cards := rfl
@[simp] theorem setRound_refers (r m : Nat) : (s.setRound r m).refers = s.refers := rfl
@[simp] theorem setRound_terminal (r m : Nat) : (s.setRound r m).terminal = s.terminal := rfl
@[simp] theorem setRound_hire (r m : Nat) : (s.setRound r m).hire = s.hire := rfl
@[simp] theorem setRound_trips (r m : Nat) : (s.setRound r m).trips = s.trips := rfl
@[simp] theorem setRound_deferred (r m : Nat) : (s.setRound r m).deferred = s.deferred := rfl
@[simp] theorem setRound_faults (r m : Nat) : (s.setRound r m).faults = s.faults := rfl
@[simp] theorem setRound_manifest (r m : Nat) : (s.setRound r m).manifest = s.manifest := rfl
@[simp] theorem setRound_agenda (r m : Nat) : (s.setRound r m).agenda = s.agenda := rfl
@[simp] theorem setRound_senseCount (r m : Nat) : (s.setRound r m).senseCount = s.senseCount := rfl

/-! ### setDock -/

@[simp] theorem setDock_pending (d : Dock) (f : DockRecord → DockRecord) : (s.setDock d f).pending = s.pending := rfl
@[simp] theorem setDock_settings (d : Dock) (f : DockRecord → DockRecord) : (s.setDock d f).settings = s.settings := rfl
@[simp] theorem setDock_clock (d : Dock) (f : DockRecord → DockRecord) : (s.setDock d f).clock = s.clock := rfl
@[simp] theorem setDock_supply (d : Dock) (f : DockRecord → DockRecord) : (s.setDock d f).supply = s.supply := rfl
@[simp] theorem setDock_fare (d : Dock) (f : DockRecord → DockRecord) : (s.setDock d f).fare = s.fare := rfl
@[simp] theorem setDock_port (d : Dock) (f : DockRecord → DockRecord) : (s.setDock d f).port = s.port := rfl
@[simp] theorem setDock_string (d : Dock) (f : DockRecord → DockRecord) : (s.setDock d f).string = s.string := rfl
@[simp] theorem setDock_docks (d : Dock) (f : DockRecord → DockRecord) : (s.setDock d f).docks = upd s.docks d f := rfl
@[simp] theorem setDock_cards (d : Dock) (f : DockRecord → DockRecord) : (s.setDock d f).cards = s.cards := rfl
@[simp] theorem setDock_refers (d : Dock) (f : DockRecord → DockRecord) : (s.setDock d f).refers = s.refers := rfl
@[simp] theorem setDock_terminal (d : Dock) (f : DockRecord → DockRecord) : (s.setDock d f).terminal = s.terminal := rfl
@[simp] theorem setDock_hire (d : Dock) (f : DockRecord → DockRecord) : (s.setDock d f).hire = s.hire := rfl
@[simp] theorem setDock_trips (d : Dock) (f : DockRecord → DockRecord) : (s.setDock d f).trips = s.trips := rfl
@[simp] theorem setDock_deferred (d : Dock) (f : DockRecord → DockRecord) : (s.setDock d f).deferred = s.deferred := rfl
@[simp] theorem setDock_faults (d : Dock) (f : DockRecord → DockRecord) : (s.setDock d f).faults = s.faults := rfl
@[simp] theorem setDock_manifest (d : Dock) (f : DockRecord → DockRecord) : (s.setDock d f).manifest = s.manifest := rfl
@[simp] theorem setDock_agenda (d : Dock) (f : DockRecord → DockRecord) : (s.setDock d f).agenda = s.agenda := rfl
@[simp] theorem setDock_senseCount (d : Dock) (f : DockRecord → DockRecord) : (s.setDock d f).senseCount = s.senseCount := rfl

/-! ### mapDocks -/

@[simp] theorem mapDocks_pending (f : DockRecord → DockRecord) : (s.mapDocks f).pending = s.pending := rfl
@[simp] theorem mapDocks_settings (f : DockRecord → DockRecord) : (s.mapDocks f).settings = s.settings := rfl
@[simp] theorem mapDocks_clock (f : DockRecord → DockRecord) : (s.mapDocks f).clock = s.clock := rfl
@[simp] theorem mapDocks_supply (f : DockRecord → DockRecord) : (s.mapDocks f).supply = s.supply := rfl
@[simp] theorem mapDocks_fare (f : DockRecord → DockRecord) : (s.mapDocks f).fare = s.fare := rfl
@[simp] theorem mapDocks_port (f : DockRecord → DockRecord) : (s.mapDocks f).port = s.port := rfl
@[simp] theorem mapDocks_string (f : DockRecord → DockRecord) : (s.mapDocks f).string = s.string := rfl
@[simp] theorem mapDocks_docks (f : DockRecord → DockRecord) : (s.mapDocks f).docks = mapTable f s.docks := rfl
@[simp] theorem mapDocks_cards (f : DockRecord → DockRecord) : (s.mapDocks f).cards = s.cards := rfl
@[simp] theorem mapDocks_refers (f : DockRecord → DockRecord) : (s.mapDocks f).refers = s.refers := rfl
@[simp] theorem mapDocks_terminal (f : DockRecord → DockRecord) : (s.mapDocks f).terminal = s.terminal := rfl
@[simp] theorem mapDocks_hire (f : DockRecord → DockRecord) : (s.mapDocks f).hire = s.hire := rfl
@[simp] theorem mapDocks_trips (f : DockRecord → DockRecord) : (s.mapDocks f).trips = s.trips := rfl
@[simp] theorem mapDocks_deferred (f : DockRecord → DockRecord) : (s.mapDocks f).deferred = s.deferred := rfl
@[simp] theorem mapDocks_faults (f : DockRecord → DockRecord) : (s.mapDocks f).faults = s.faults := rfl
@[simp] theorem mapDocks_manifest (f : DockRecord → DockRecord) : (s.mapDocks f).manifest = s.manifest := rfl
@[simp] theorem mapDocks_agenda (f : DockRecord → DockRecord) : (s.mapDocks f).agenda = s.agenda := rfl
@[simp] theorem mapDocks_senseCount (f : DockRecord → DockRecord) : (s.mapDocks f).senseCount = s.senseCount := rfl

/-! ### setCard -/

@[simp] theorem setCard_pending (c : CardNo) (f : CardEntry → CardEntry) : (s.setCard c f).pending = s.pending := rfl
@[simp] theorem setCard_settings (c : CardNo) (f : CardEntry → CardEntry) : (s.setCard c f).settings = s.settings := rfl
@[simp] theorem setCard_clock (c : CardNo) (f : CardEntry → CardEntry) : (s.setCard c f).clock = s.clock := rfl
@[simp] theorem setCard_supply (c : CardNo) (f : CardEntry → CardEntry) : (s.setCard c f).supply = s.supply := rfl
@[simp] theorem setCard_fare (c : CardNo) (f : CardEntry → CardEntry) : (s.setCard c f).fare = s.fare := rfl
@[simp] theorem setCard_port (c : CardNo) (f : CardEntry → CardEntry) : (s.setCard c f).port = s.port := rfl
@[simp] theorem setCard_string (c : CardNo) (f : CardEntry → CardEntry) : (s.setCard c f).string = s.string := rfl
@[simp] theorem setCard_docks (c : CardNo) (f : CardEntry → CardEntry) : (s.setCard c f).docks = s.docks := rfl
@[simp] theorem setCard_refers (c : CardNo) (f : CardEntry → CardEntry) : (s.setCard c f).refers = s.refers := rfl
@[simp] theorem setCard_terminal (c : CardNo) (f : CardEntry → CardEntry) : (s.setCard c f).terminal = s.terminal := rfl
@[simp] theorem setCard_hire (c : CardNo) (f : CardEntry → CardEntry) : (s.setCard c f).hire = s.hire := rfl
@[simp] theorem setCard_trips (c : CardNo) (f : CardEntry → CardEntry) : (s.setCard c f).trips = s.trips := rfl
@[simp] theorem setCard_deferred (c : CardNo) (f : CardEntry → CardEntry) : (s.setCard c f).deferred = s.deferred := rfl
@[simp] theorem setCard_faults (c : CardNo) (f : CardEntry → CardEntry) : (s.setCard c f).faults = s.faults := rfl
@[simp] theorem setCard_manifest (c : CardNo) (f : CardEntry → CardEntry) : (s.setCard c f).manifest = s.manifest := rfl
@[simp] theorem setCard_agenda (c : CardNo) (f : CardEntry → CardEntry) : (s.setCard c f).agenda = s.agenda := rfl
@[simp] theorem setCard_senseCount (c : CardNo) (f : CardEntry → CardEntry) : (s.setCard c f).senseCount = s.senseCount := rfl

/-! ### mapCards -/

@[simp] theorem mapCards_pending (f : CardEntry → CardEntry) : (s.mapCards f).pending = s.pending := rfl
@[simp] theorem mapCards_settings (f : CardEntry → CardEntry) : (s.mapCards f).settings = s.settings := rfl
@[simp] theorem mapCards_clock (f : CardEntry → CardEntry) : (s.mapCards f).clock = s.clock := rfl
@[simp] theorem mapCards_supply (f : CardEntry → CardEntry) : (s.mapCards f).supply = s.supply := rfl
@[simp] theorem mapCards_fare (f : CardEntry → CardEntry) : (s.mapCards f).fare = s.fare := rfl
@[simp] theorem mapCards_port (f : CardEntry → CardEntry) : (s.mapCards f).port = s.port := rfl
@[simp] theorem mapCards_string (f : CardEntry → CardEntry) : (s.mapCards f).string = s.string := rfl
@[simp] theorem mapCards_docks (f : CardEntry → CardEntry) : (s.mapCards f).docks = s.docks := rfl
@[simp] theorem mapCards_refers (f : CardEntry → CardEntry) : (s.mapCards f).refers = s.refers := rfl
@[simp] theorem mapCards_terminal (f : CardEntry → CardEntry) : (s.mapCards f).terminal = s.terminal := rfl
@[simp] theorem mapCards_hire (f : CardEntry → CardEntry) : (s.mapCards f).hire = s.hire := rfl
@[simp] theorem mapCards_trips (f : CardEntry → CardEntry) : (s.mapCards f).trips = s.trips := rfl
@[simp] theorem mapCards_deferred (f : CardEntry → CardEntry) : (s.mapCards f).deferred = s.deferred := rfl
@[simp] theorem mapCards_faults (f : CardEntry → CardEntry) : (s.mapCards f).faults = s.faults := rfl
@[simp] theorem mapCards_manifest (f : CardEntry → CardEntry) : (s.mapCards f).manifest = s.manifest := rfl
@[simp] theorem mapCards_agenda (f : CardEntry → CardEntry) : (s.mapCards f).agenda = s.agenda := rfl
@[simp] theorem mapCards_senseCount (f : CardEntry → CardEntry) : (s.mapCards f).senseCount = s.senseCount := rfl

/-! ### dropCard -/

@[simp] theorem dropCard_pending (c : CardNo) : (s.dropCard c).pending = s.pending := rfl
@[simp] theorem dropCard_settings (c : CardNo) : (s.dropCard c).settings = s.settings := rfl
@[simp] theorem dropCard_clock (c : CardNo) : (s.dropCard c).clock = s.clock := rfl
@[simp] theorem dropCard_supply (c : CardNo) : (s.dropCard c).supply = s.supply := rfl
@[simp] theorem dropCard_fare (c : CardNo) : (s.dropCard c).fare = s.fare := rfl
@[simp] theorem dropCard_port (c : CardNo) : (s.dropCard c).port = s.port := rfl
@[simp] theorem dropCard_string (c : CardNo) : (s.dropCard c).string = s.string := rfl
@[simp] theorem dropCard_docks (c : CardNo) : (s.dropCard c).docks = s.docks := rfl
@[simp] theorem dropCard_cards (c : CardNo) : (s.dropCard c).cards = s.cards.filter (fun e => decide (e.card ≠ c)) := rfl
@[simp] theorem dropCard_refers (c : CardNo) : (s.dropCard c).refers = s.refers := rfl
@[simp] theorem dropCard_terminal (c : CardNo) : (s.dropCard c).terminal = s.terminal := rfl
@[simp] theorem dropCard_hire (c : CardNo) : (s.dropCard c).hire = s.hire := rfl
@[simp] theorem dropCard_trips (c : CardNo) : (s.dropCard c).trips = s.trips := rfl
@[simp] theorem dropCard_deferred (c : CardNo) : (s.dropCard c).deferred = s.deferred := rfl
@[simp] theorem dropCard_faults (c : CardNo) : (s.dropCard c).faults = s.faults := rfl
@[simp] theorem dropCard_manifest (c : CardNo) : (s.dropCard c).manifest = s.manifest := rfl
@[simp] theorem dropCard_agenda (c : CardNo) : (s.dropCard c).agenda = s.agenda := rfl
@[simp] theorem dropCard_senseCount (c : CardNo) : (s.dropCard c).senseCount = s.senseCount := rfl

/-! ### setRefer -/

@[simp] theorem setRefer_pending (c : CardNo) (f : ReferSlot → ReferSlot) : (s.setRefer c f).pending = s.pending := rfl
@[simp] theorem setRefer_settings (c : CardNo) (f : ReferSlot → ReferSlot) : (s.setRefer c f).settings = s.settings := rfl
@[simp] theorem setRefer_clock (c : CardNo) (f : ReferSlot → ReferSlot) : (s.setRefer c f).clock = s.clock := rfl
@[simp] theorem setRefer_supply (c : CardNo) (f : ReferSlot → ReferSlot) : (s.setRefer c f).supply = s.supply := rfl
@[simp] theorem setRefer_fare (c : CardNo) (f : ReferSlot → ReferSlot) : (s.setRefer c f).fare = s.fare := rfl
@[simp] theorem setRefer_port (c : CardNo) (f : ReferSlot → ReferSlot) : (s.setRefer c f).port = s.port := rfl
@[simp] theorem setRefer_string (c : CardNo) (f : ReferSlot → ReferSlot) : (s.setRefer c f).string = s.string := rfl
@[simp] theorem setRefer_docks (c : CardNo) (f : ReferSlot → ReferSlot) : (s.setRefer c f).docks = s.docks := rfl
@[simp] theorem setRefer_cards (c : CardNo) (f : ReferSlot → ReferSlot) : (s.setRefer c f).cards = s.cards := rfl
@[simp] theorem setRefer_terminal (c : CardNo) (f : ReferSlot → ReferSlot) : (s.setRefer c f).terminal = s.terminal := rfl
@[simp] theorem setRefer_hire (c : CardNo) (f : ReferSlot → ReferSlot) : (s.setRefer c f).hire = s.hire := rfl
@[simp] theorem setRefer_trips (c : CardNo) (f : ReferSlot → ReferSlot) : (s.setRefer c f).trips = s.trips := rfl
@[simp] theorem setRefer_deferred (c : CardNo) (f : ReferSlot → ReferSlot) : (s.setRefer c f).deferred = s.deferred := rfl
@[simp] theorem setRefer_faults (c : CardNo) (f : ReferSlot → ReferSlot) : (s.setRefer c f).faults = s.faults := rfl
@[simp] theorem setRefer_manifest (c : CardNo) (f : ReferSlot → ReferSlot) : (s.setRefer c f).manifest = s.manifest := rfl
@[simp] theorem setRefer_agenda (c : CardNo) (f : ReferSlot → ReferSlot) : (s.setRefer c f).agenda = s.agenda := rfl
@[simp] theorem setRefer_senseCount (c : CardNo) (f : ReferSlot → ReferSlot) : (s.setRefer c f).senseCount = s.senseCount := rfl

/-! ### dropRefer -/

@[simp] theorem dropRefer_pending (c : CardNo) : (s.dropRefer c).pending = s.pending := rfl
@[simp] theorem dropRefer_settings (c : CardNo) : (s.dropRefer c).settings = s.settings := rfl
@[simp] theorem dropRefer_clock (c : CardNo) : (s.dropRefer c).clock = s.clock := rfl
@[simp] theorem dropRefer_supply (c : CardNo) : (s.dropRefer c).supply = s.supply := rfl
@[simp] theorem dropRefer_fare (c : CardNo) : (s.dropRefer c).fare = s.fare := rfl
@[simp] theorem dropRefer_port (c : CardNo) : (s.dropRefer c).port = s.port := rfl
@[simp] theorem dropRefer_string (c : CardNo) : (s.dropRefer c).string = s.string := rfl
@[simp] theorem dropRefer_docks (c : CardNo) : (s.dropRefer c).docks = s.docks := rfl
@[simp] theorem dropRefer_cards (c : CardNo) : (s.dropRefer c).cards = s.cards := rfl
@[simp] theorem dropRefer_refers (c : CardNo) : (s.dropRefer c).refers = s.refers.filter (fun r => decide (r.card ≠ c)) := rfl
@[simp] theorem dropRefer_terminal (c : CardNo) : (s.dropRefer c).terminal = s.terminal := rfl
@[simp] theorem dropRefer_hire (c : CardNo) : (s.dropRefer c).hire = s.hire := rfl
@[simp] theorem dropRefer_trips (c : CardNo) : (s.dropRefer c).trips = s.trips := rfl
@[simp] theorem dropRefer_deferred (c : CardNo) : (s.dropRefer c).deferred = s.deferred := rfl
@[simp] theorem dropRefer_faults (c : CardNo) : (s.dropRefer c).faults = s.faults := rfl
@[simp] theorem dropRefer_manifest (c : CardNo) : (s.dropRefer c).manifest = s.manifest := rfl
@[simp] theorem dropRefer_agenda (c : CardNo) : (s.dropRefer c).agenda = s.agenda := rfl
@[simp] theorem dropRefer_senseCount (c : CardNo) : (s.dropRefer c).senseCount = s.senseCount := rfl

/-! ### endInstant -/

@[simp] theorem endInstant_pending : s.endInstant.pending = s.pending := rfl
@[simp] theorem endInstant_settings : s.endInstant.settings = s.settings := rfl
@[simp] theorem endInstant_clock : s.endInstant.clock = s.clock := rfl
@[simp] theorem endInstant_supply : s.endInstant.supply = s.supply := rfl
@[simp] theorem endInstant_fare : s.endInstant.fare = s.fare := rfl
@[simp] theorem endInstant_port : s.endInstant.port = s.port := rfl
@[simp] theorem endInstant_string : s.endInstant.string = s.string := rfl
@[simp] theorem endInstant_docks : s.endInstant.docks = s.docks := rfl
@[simp] theorem endInstant_cards : s.endInstant.cards = s.cards := rfl
@[simp] theorem endInstant_refers : s.endInstant.refers = s.refers.map (fun r => { r with reaimed := false }) := rfl
@[simp] theorem endInstant_terminal : s.endInstant.terminal = s.terminal := rfl
@[simp] theorem endInstant_hire : s.endInstant.hire = s.hire := rfl
@[simp] theorem endInstant_trips : s.endInstant.trips = s.trips := rfl
@[simp] theorem endInstant_deferred : s.endInstant.deferred = s.deferred := rfl
@[simp] theorem endInstant_faults : s.endInstant.faults = s.faults := rfl
@[simp] theorem endInstant_manifest : s.endInstant.manifest = s.manifest := rfl
@[simp] theorem endInstant_agenda : s.endInstant.agenda = s.agenda := rfl
@[simp] theorem endInstant_senseCount : s.endInstant.senseCount = s.senseCount := rfl

/-! ### setTerminal -/

@[simp] theorem setTerminal_pending (f : Terminal → Terminal) : (s.setTerminal f).pending = s.pending := rfl
@[simp] theorem setTerminal_settings (f : Terminal → Terminal) : (s.setTerminal f).settings = s.settings := rfl
@[simp] theorem setTerminal_clock (f : Terminal → Terminal) : (s.setTerminal f).clock = s.clock := rfl
@[simp] theorem setTerminal_supply (f : Terminal → Terminal) : (s.setTerminal f).supply = s.supply := rfl
@[simp] theorem setTerminal_fare (f : Terminal → Terminal) : (s.setTerminal f).fare = s.fare := rfl
@[simp] theorem setTerminal_port (f : Terminal → Terminal) : (s.setTerminal f).port = s.port := rfl
@[simp] theorem setTerminal_string (f : Terminal → Terminal) : (s.setTerminal f).string = s.string := rfl
@[simp] theorem setTerminal_docks (f : Terminal → Terminal) : (s.setTerminal f).docks = s.docks := rfl
@[simp] theorem setTerminal_cards (f : Terminal → Terminal) : (s.setTerminal f).cards = s.cards := rfl
@[simp] theorem setTerminal_refers (f : Terminal → Terminal) : (s.setTerminal f).refers = s.refers := rfl
@[simp] theorem setTerminal_terminal (f : Terminal → Terminal) : (s.setTerminal f).terminal = f s.terminal := rfl
@[simp] theorem setTerminal_hire (f : Terminal → Terminal) : (s.setTerminal f).hire = s.hire := rfl
@[simp] theorem setTerminal_trips (f : Terminal → Terminal) : (s.setTerminal f).trips = s.trips := rfl
@[simp] theorem setTerminal_deferred (f : Terminal → Terminal) : (s.setTerminal f).deferred = s.deferred := rfl
@[simp] theorem setTerminal_faults (f : Terminal → Terminal) : (s.setTerminal f).faults = s.faults := rfl
@[simp] theorem setTerminal_manifest (f : Terminal → Terminal) : (s.setTerminal f).manifest = s.manifest := rfl
@[simp] theorem setTerminal_agenda (f : Terminal → Terminal) : (s.setTerminal f).agenda = s.agenda := rfl
@[simp] theorem setTerminal_senseCount (f : Terminal → Terminal) : (s.setTerminal f).senseCount = s.senseCount := rfl

/-! ### filterHire -/

@[simp] theorem filterHire_pending (p : HireRequest → Bool) : (s.filterHire p).pending = s.pending := rfl
@[simp] theorem filterHire_settings (p : HireRequest → Bool) : (s.filterHire p).settings = s.settings := rfl
@[simp] theorem filterHire_clock (p : HireRequest → Bool) : (s.filterHire p).clock = s.clock := rfl
@[simp] theorem filterHire_supply (p : HireRequest → Bool) : (s.filterHire p).supply = s.supply := rfl
@[simp] theorem filterHire_fare (p : HireRequest → Bool) : (s.filterHire p).fare = s.fare := rfl
@[simp] theorem filterHire_port (p : HireRequest → Bool) : (s.filterHire p).port = s.port := rfl
@[simp] theorem filterHire_string (p : HireRequest → Bool) : (s.filterHire p).string = s.string := rfl
@[simp] theorem filterHire_docks (p : HireRequest → Bool) : (s.filterHire p).docks = s.docks := rfl
@[simp] theorem filterHire_cards (p : HireRequest → Bool) : (s.filterHire p).cards = s.cards := rfl
@[simp] theorem filterHire_refers (p : HireRequest → Bool) : (s.filterHire p).refers = s.refers := rfl
@[simp] theorem filterHire_terminal (p : HireRequest → Bool) : (s.filterHire p).terminal = s.terminal := rfl
@[simp] theorem filterHire_hire (p : HireRequest → Bool) : (s.filterHire p).hire = { s.hire with queue := s.hire.queue.filter p } := rfl
@[simp] theorem filterHire_trips (p : HireRequest → Bool) : (s.filterHire p).trips = s.trips := rfl
@[simp] theorem filterHire_deferred (p : HireRequest → Bool) : (s.filterHire p).deferred = s.deferred := rfl
@[simp] theorem filterHire_faults (p : HireRequest → Bool) : (s.filterHire p).faults = s.faults := rfl
@[simp] theorem filterHire_manifest (p : HireRequest → Bool) : (s.filterHire p).manifest = s.manifest := rfl
@[simp] theorem filterHire_agenda (p : HireRequest → Bool) : (s.filterHire p).agenda = s.agenda := rfl
@[simp] theorem filterHire_senseCount (p : HireRequest → Bool) : (s.filterHire p).senseCount = s.senseCount := rfl

/-! ### popHire -/

@[simp] theorem popHire_pending : (s.popHire).pending = s.pending := rfl
@[simp] theorem popHire_settings : (s.popHire).settings = s.settings := rfl
@[simp] theorem popHire_clock : (s.popHire).clock = s.clock := rfl
@[simp] theorem popHire_supply : (s.popHire).supply = s.supply := rfl
@[simp] theorem popHire_fare : (s.popHire).fare = s.fare := rfl
@[simp] theorem popHire_port : (s.popHire).port = s.port := rfl
@[simp] theorem popHire_string : (s.popHire).string = s.string := rfl
@[simp] theorem popHire_docks : (s.popHire).docks = s.docks := rfl
@[simp] theorem popHire_cards : (s.popHire).cards = s.cards := rfl
@[simp] theorem popHire_refers : (s.popHire).refers = s.refers := rfl
@[simp] theorem popHire_terminal : (s.popHire).terminal = s.terminal := rfl
@[simp] theorem popHire_hire : (s.popHire).hire = { s.hire with queue := s.hire.queue.drop 1 } := rfl
@[simp] theorem popHire_trips : (s.popHire).trips = s.trips := rfl
@[simp] theorem popHire_deferred : (s.popHire).deferred = s.deferred := rfl
@[simp] theorem popHire_faults : (s.popHire).faults = s.faults := rfl
@[simp] theorem popHire_manifest : (s.popHire).manifest = s.manifest := rfl
@[simp] theorem popHire_agenda : (s.popHire).agenda = s.agenda := rfl
@[simp] theorem popHire_senseCount : (s.popHire).senseCount = s.senseCount := rfl

/-! ### setToken -/

@[simp] theorem setToken_pending (i : Fin 3) (x : Token) : (s.setToken i x).pending = s.pending := rfl
@[simp] theorem setToken_settings (i : Fin 3) (x : Token) : (s.setToken i x).settings = s.settings := rfl
@[simp] theorem setToken_clock (i : Fin 3) (x : Token) : (s.setToken i x).clock = s.clock := rfl
@[simp] theorem setToken_supply (i : Fin 3) (x : Token) : (s.setToken i x).supply = s.supply := rfl
@[simp] theorem setToken_fare (i : Fin 3) (x : Token) : (s.setToken i x).fare = s.fare := rfl
@[simp] theorem setToken_port (i : Fin 3) (x : Token) : (s.setToken i x).port = s.port := rfl
@[simp] theorem setToken_string (i : Fin 3) (x : Token) : (s.setToken i x).string = s.string := rfl
@[simp] theorem setToken_docks (i : Fin 3) (x : Token) : (s.setToken i x).docks = s.docks := rfl
@[simp] theorem setToken_cards (i : Fin 3) (x : Token) : (s.setToken i x).cards = s.cards := rfl
@[simp] theorem setToken_refers (i : Fin 3) (x : Token) : (s.setToken i x).refers = s.refers := rfl
@[simp] theorem setToken_terminal (i : Fin 3) (x : Token) : (s.setToken i x).terminal = s.terminal := rfl
@[simp] theorem setToken_hire (i : Fin 3) (x : Token) : (s.setToken i x).hire = { s.hire with tokens := s.hire.tokens.set i.val x i.isLt } := rfl
@[simp] theorem setToken_trips (i : Fin 3) (x : Token) : (s.setToken i x).trips = s.trips := rfl
@[simp] theorem setToken_deferred (i : Fin 3) (x : Token) : (s.setToken i x).deferred = s.deferred := rfl
@[simp] theorem setToken_faults (i : Fin 3) (x : Token) : (s.setToken i x).faults = s.faults := rfl
@[simp] theorem setToken_manifest (i : Fin 3) (x : Token) : (s.setToken i x).manifest = s.manifest := rfl
@[simp] theorem setToken_agenda (i : Fin 3) (x : Token) : (s.setToken i x).agenda = s.agenda := rfl
@[simp] theorem setToken_senseCount (i : Fin 3) (x : Token) : (s.setToken i x).senseCount = s.senseCount := rfl

/-! ### setRelease -/

@[simp] theorem setRelease_pending (d : Dock) (x : Option ReleaseContext) : (s.setRelease d x).pending = s.pending := rfl
@[simp] theorem setRelease_settings (d : Dock) (x : Option ReleaseContext) : (s.setRelease d x).settings = s.settings := rfl
@[simp] theorem setRelease_clock (d : Dock) (x : Option ReleaseContext) : (s.setRelease d x).clock = s.clock := rfl
@[simp] theorem setRelease_supply (d : Dock) (x : Option ReleaseContext) : (s.setRelease d x).supply = s.supply := rfl
@[simp] theorem setRelease_fare (d : Dock) (x : Option ReleaseContext) : (s.setRelease d x).fare = s.fare := rfl
@[simp] theorem setRelease_port (d : Dock) (x : Option ReleaseContext) : (s.setRelease d x).port = s.port := rfl
@[simp] theorem setRelease_string (d : Dock) (x : Option ReleaseContext) : (s.setRelease d x).string = s.string := rfl
@[simp] theorem setRelease_docks (d : Dock) (x : Option ReleaseContext) : (s.setRelease d x).docks = s.docks := rfl
@[simp] theorem setRelease_cards (d : Dock) (x : Option ReleaseContext) : (s.setRelease d x).cards = s.cards := rfl
@[simp] theorem setRelease_refers (d : Dock) (x : Option ReleaseContext) : (s.setRelease d x).refers = s.refers := rfl
@[simp] theorem setRelease_terminal (d : Dock) (x : Option ReleaseContext) : (s.setRelease d x).terminal = s.terminal := rfl
@[simp] theorem setRelease_hire (d : Dock) (x : Option ReleaseContext) : (s.setRelease d x).hire = { s.hire with releases := s.hire.releases.set d.val x d.isLt } := rfl
@[simp] theorem setRelease_trips (d : Dock) (x : Option ReleaseContext) : (s.setRelease d x).trips = s.trips := rfl
@[simp] theorem setRelease_deferred (d : Dock) (x : Option ReleaseContext) : (s.setRelease d x).deferred = s.deferred := rfl
@[simp] theorem setRelease_faults (d : Dock) (x : Option ReleaseContext) : (s.setRelease d x).faults = s.faults := rfl
@[simp] theorem setRelease_manifest (d : Dock) (x : Option ReleaseContext) : (s.setRelease d x).manifest = s.manifest := rfl
@[simp] theorem setRelease_agenda (d : Dock) (x : Option ReleaseContext) : (s.setRelease d x).agenda = s.agenda := rfl
@[simp] theorem setRelease_senseCount (d : Dock) (x : Option ReleaseContext) : (s.setRelease d x).senseCount = s.senseCount := rfl

/-! ### setCancel -/

@[simp] theorem setCancel_pending (d : Dock) (x : Option CancelContext) : (s.setCancel d x).pending = s.pending := rfl
@[simp] theorem setCancel_settings (d : Dock) (x : Option CancelContext) : (s.setCancel d x).settings = s.settings := rfl
@[simp] theorem setCancel_clock (d : Dock) (x : Option CancelContext) : (s.setCancel d x).clock = s.clock := rfl
@[simp] theorem setCancel_supply (d : Dock) (x : Option CancelContext) : (s.setCancel d x).supply = s.supply := rfl
@[simp] theorem setCancel_fare (d : Dock) (x : Option CancelContext) : (s.setCancel d x).fare = s.fare := rfl
@[simp] theorem setCancel_port (d : Dock) (x : Option CancelContext) : (s.setCancel d x).port = s.port := rfl
@[simp] theorem setCancel_string (d : Dock) (x : Option CancelContext) : (s.setCancel d x).string = s.string := rfl
@[simp] theorem setCancel_docks (d : Dock) (x : Option CancelContext) : (s.setCancel d x).docks = s.docks := rfl
@[simp] theorem setCancel_cards (d : Dock) (x : Option CancelContext) : (s.setCancel d x).cards = s.cards := rfl
@[simp] theorem setCancel_refers (d : Dock) (x : Option CancelContext) : (s.setCancel d x).refers = s.refers := rfl
@[simp] theorem setCancel_terminal (d : Dock) (x : Option CancelContext) : (s.setCancel d x).terminal = s.terminal := rfl
@[simp] theorem setCancel_hire (d : Dock) (x : Option CancelContext) : (s.setCancel d x).hire = { s.hire with cancels := s.hire.cancels.set d.val x d.isLt } := rfl
@[simp] theorem setCancel_trips (d : Dock) (x : Option CancelContext) : (s.setCancel d x).trips = s.trips := rfl
@[simp] theorem setCancel_deferred (d : Dock) (x : Option CancelContext) : (s.setCancel d x).deferred = s.deferred := rfl
@[simp] theorem setCancel_faults (d : Dock) (x : Option CancelContext) : (s.setCancel d x).faults = s.faults := rfl
@[simp] theorem setCancel_manifest (d : Dock) (x : Option CancelContext) : (s.setCancel d x).manifest = s.manifest := rfl
@[simp] theorem setCancel_agenda (d : Dock) (x : Option CancelContext) : (s.setCancel d x).agenda = s.agenda := rfl
@[simp] theorem setCancel_senseCount (d : Dock) (x : Option CancelContext) : (s.setCancel d x).senseCount = s.senseCount := rfl

/-! ### noteTrips -/

@[simp] theorem noteTrips_pending : (s.noteTrips).pending = s.pending := rfl
@[simp] theorem noteTrips_settings : (s.noteTrips).settings = s.settings := rfl
@[simp] theorem noteTrips_clock : (s.noteTrips).clock = s.clock := rfl
@[simp] theorem noteTrips_supply : (s.noteTrips).supply = s.supply := rfl
@[simp] theorem noteTrips_fare : (s.noteTrips).fare = s.fare := rfl
@[simp] theorem noteTrips_port : (s.noteTrips).port = s.port := rfl
@[simp] theorem noteTrips_string : (s.noteTrips).string = s.string := rfl
@[simp] theorem noteTrips_docks : (s.noteTrips).docks = s.docks := rfl
@[simp] theorem noteTrips_cards : (s.noteTrips).cards = s.cards := rfl
@[simp] theorem noteTrips_refers : (s.noteTrips).refers = s.refers := rfl
@[simp] theorem noteTrips_terminal : (s.noteTrips).terminal = s.terminal := rfl
@[simp] theorem noteTrips_hire : (s.noteTrips).hire = s.hire := rfl
@[simp] theorem noteTrips_trips : (s.noteTrips).trips = s.trips := rfl
@[simp] theorem noteTrips_deferred : (s.noteTrips).deferred = s.deferred := rfl
@[simp] theorem noteTrips_faults : (s.noteTrips).faults = s.faults := rfl
@[simp] theorem noteTrips_manifest : (s.noteTrips).manifest = s.manifest := rfl
@[simp] theorem noteTrips_agenda : (s.noteTrips).agenda = { s.agenda with trips := true } := rfl
@[simp] theorem noteTrips_senseCount : (s.noteTrips).senseCount = s.senseCount := rfl

/-! ### noteManifest -/

@[simp] theorem noteManifest_pending : (s.noteManifest).pending = s.pending := rfl
@[simp] theorem noteManifest_settings : (s.noteManifest).settings = s.settings := rfl
@[simp] theorem noteManifest_clock : (s.noteManifest).clock = s.clock := rfl
@[simp] theorem noteManifest_supply : (s.noteManifest).supply = s.supply := rfl
@[simp] theorem noteManifest_fare : (s.noteManifest).fare = s.fare := rfl
@[simp] theorem noteManifest_port : (s.noteManifest).port = s.port := rfl
@[simp] theorem noteManifest_string : (s.noteManifest).string = s.string := rfl
@[simp] theorem noteManifest_docks : (s.noteManifest).docks = s.docks := rfl
@[simp] theorem noteManifest_cards : (s.noteManifest).cards = s.cards := rfl
@[simp] theorem noteManifest_refers : (s.noteManifest).refers = s.refers := rfl
@[simp] theorem noteManifest_terminal : (s.noteManifest).terminal = s.terminal := rfl
@[simp] theorem noteManifest_hire : (s.noteManifest).hire = s.hire := rfl
@[simp] theorem noteManifest_trips : (s.noteManifest).trips = s.trips := rfl
@[simp] theorem noteManifest_deferred : (s.noteManifest).deferred = s.deferred := rfl
@[simp] theorem noteManifest_faults : (s.noteManifest).faults = s.faults := rfl
@[simp] theorem noteManifest_manifest : (s.noteManifest).manifest = s.manifest := rfl
@[simp] theorem noteManifest_agenda : (s.noteManifest).agenda = { s.agenda with manifest := true } := rfl
@[simp] theorem noteManifest_senseCount : (s.noteManifest).senseCount = s.senseCount := rfl

/-! ### noteFollowOn -/

@[simp] theorem noteFollowOn_pending : (s.noteFollowOn).pending = s.pending := rfl
@[simp] theorem noteFollowOn_settings : (s.noteFollowOn).settings = s.settings := rfl
@[simp] theorem noteFollowOn_clock : (s.noteFollowOn).clock = s.clock := rfl
@[simp] theorem noteFollowOn_supply : (s.noteFollowOn).supply = s.supply := rfl
@[simp] theorem noteFollowOn_fare : (s.noteFollowOn).fare = s.fare := rfl
@[simp] theorem noteFollowOn_port : (s.noteFollowOn).port = s.port := rfl
@[simp] theorem noteFollowOn_string : (s.noteFollowOn).string = s.string := rfl
@[simp] theorem noteFollowOn_docks : (s.noteFollowOn).docks = s.docks := rfl
@[simp] theorem noteFollowOn_cards : (s.noteFollowOn).cards = s.cards := rfl
@[simp] theorem noteFollowOn_refers : (s.noteFollowOn).refers = s.refers := rfl
@[simp] theorem noteFollowOn_terminal : (s.noteFollowOn).terminal = s.terminal := rfl
@[simp] theorem noteFollowOn_hire : (s.noteFollowOn).hire = s.hire := rfl
@[simp] theorem noteFollowOn_trips : (s.noteFollowOn).trips = s.trips := rfl
@[simp] theorem noteFollowOn_deferred : (s.noteFollowOn).deferred = s.deferred := rfl
@[simp] theorem noteFollowOn_faults : (s.noteFollowOn).faults = s.faults := rfl
@[simp] theorem noteFollowOn_manifest : (s.noteFollowOn).manifest = s.manifest := rfl
@[simp] theorem noteFollowOn_agenda : (s.noteFollowOn).agenda = { s.agenda with followOn := true } := rfl
@[simp] theorem noteFollowOn_senseCount : (s.noteFollowOn).senseCount = s.senseCount := rfl

/-! ### noteFailure -/

@[simp] theorem noteFailure_pending (e : QueueEntry) : (s.noteFailure e).pending = s.pending := rfl
@[simp] theorem noteFailure_settings (e : QueueEntry) : (s.noteFailure e).settings = s.settings := rfl
@[simp] theorem noteFailure_clock (e : QueueEntry) : (s.noteFailure e).clock = s.clock := rfl
@[simp] theorem noteFailure_supply (e : QueueEntry) : (s.noteFailure e).supply = s.supply := rfl
@[simp] theorem noteFailure_fare (e : QueueEntry) : (s.noteFailure e).fare = s.fare := rfl
@[simp] theorem noteFailure_port (e : QueueEntry) : (s.noteFailure e).port = s.port := rfl
@[simp] theorem noteFailure_string (e : QueueEntry) : (s.noteFailure e).string = s.string := rfl
@[simp] theorem noteFailure_docks (e : QueueEntry) : (s.noteFailure e).docks = s.docks := rfl
@[simp] theorem noteFailure_cards (e : QueueEntry) : (s.noteFailure e).cards = s.cards := rfl
@[simp] theorem noteFailure_refers (e : QueueEntry) : (s.noteFailure e).refers = s.refers := rfl
@[simp] theorem noteFailure_terminal (e : QueueEntry) : (s.noteFailure e).terminal = s.terminal := rfl
@[simp] theorem noteFailure_hire (e : QueueEntry) : (s.noteFailure e).hire = s.hire := rfl
@[simp] theorem noteFailure_trips (e : QueueEntry) : (s.noteFailure e).trips = s.trips := rfl
@[simp] theorem noteFailure_deferred (e : QueueEntry) : (s.noteFailure e).deferred = s.deferred := rfl
@[simp] theorem noteFailure_faults (e : QueueEntry) : (s.noteFailure e).faults = s.faults := rfl
@[simp] theorem noteFailure_manifest (e : QueueEntry) : (s.noteFailure e).manifest = s.manifest := rfl
@[simp] theorem noteFailure_agenda (e : QueueEntry) : (s.noteFailure e).agenda = { s.agenda with failures := s.agenda.failures ++ [e] } := rfl
@[simp] theorem noteFailure_senseCount (e : QueueEntry) : (s.noteFailure e).senseCount = s.senseCount := rfl

/-! ### popFailure -/

@[simp] theorem popFailure_pending : (s.popFailure).pending = s.pending := rfl
@[simp] theorem popFailure_settings : (s.popFailure).settings = s.settings := rfl
@[simp] theorem popFailure_clock : (s.popFailure).clock = s.clock := rfl
@[simp] theorem popFailure_supply : (s.popFailure).supply = s.supply := rfl
@[simp] theorem popFailure_fare : (s.popFailure).fare = s.fare := rfl
@[simp] theorem popFailure_port : (s.popFailure).port = s.port := rfl
@[simp] theorem popFailure_string : (s.popFailure).string = s.string := rfl
@[simp] theorem popFailure_docks : (s.popFailure).docks = s.docks := rfl
@[simp] theorem popFailure_cards : (s.popFailure).cards = s.cards := rfl
@[simp] theorem popFailure_refers : (s.popFailure).refers = s.refers := rfl
@[simp] theorem popFailure_terminal : (s.popFailure).terminal = s.terminal := rfl
@[simp] theorem popFailure_hire : (s.popFailure).hire = s.hire := rfl
@[simp] theorem popFailure_trips : (s.popFailure).trips = s.trips := rfl
@[simp] theorem popFailure_deferred : (s.popFailure).deferred = s.deferred := rfl
@[simp] theorem popFailure_faults : (s.popFailure).faults = s.faults := rfl
@[simp] theorem popFailure_manifest : (s.popFailure).manifest = s.manifest := rfl
@[simp] theorem popFailure_agenda : (s.popFailure).agenda = { s.agenda with failures := s.agenda.failures.drop 1 } := rfl
@[simp] theorem popFailure_senseCount : (s.popFailure).senseCount = s.senseCount := rfl

/-! ### clearTrips -/

@[simp] theorem clearTrips_pending : (s.clearTrips).pending = s.pending := rfl
@[simp] theorem clearTrips_settings : (s.clearTrips).settings = s.settings := rfl
@[simp] theorem clearTrips_clock : (s.clearTrips).clock = s.clock := rfl
@[simp] theorem clearTrips_supply : (s.clearTrips).supply = s.supply := rfl
@[simp] theorem clearTrips_fare : (s.clearTrips).fare = s.fare := rfl
@[simp] theorem clearTrips_port : (s.clearTrips).port = s.port := rfl
@[simp] theorem clearTrips_string : (s.clearTrips).string = s.string := rfl
@[simp] theorem clearTrips_docks : (s.clearTrips).docks = s.docks := rfl
@[simp] theorem clearTrips_cards : (s.clearTrips).cards = s.cards := rfl
@[simp] theorem clearTrips_refers : (s.clearTrips).refers = s.refers := rfl
@[simp] theorem clearTrips_terminal : (s.clearTrips).terminal = s.terminal := rfl
@[simp] theorem clearTrips_hire : (s.clearTrips).hire = s.hire := rfl
@[simp] theorem clearTrips_trips : (s.clearTrips).trips = s.trips := rfl
@[simp] theorem clearTrips_deferred : (s.clearTrips).deferred = s.deferred := rfl
@[simp] theorem clearTrips_faults : (s.clearTrips).faults = s.faults := rfl
@[simp] theorem clearTrips_manifest : (s.clearTrips).manifest = s.manifest := rfl
@[simp] theorem clearTrips_agenda : (s.clearTrips).agenda = { s.agenda with trips := false } := rfl
@[simp] theorem clearTrips_senseCount : (s.clearTrips).senseCount = s.senseCount := rfl

/-! ### clearManifest -/

@[simp] theorem clearManifest_pending : (s.clearManifest).pending = s.pending := rfl
@[simp] theorem clearManifest_settings : (s.clearManifest).settings = s.settings := rfl
@[simp] theorem clearManifest_clock : (s.clearManifest).clock = s.clock := rfl
@[simp] theorem clearManifest_supply : (s.clearManifest).supply = s.supply := rfl
@[simp] theorem clearManifest_fare : (s.clearManifest).fare = s.fare := rfl
@[simp] theorem clearManifest_port : (s.clearManifest).port = s.port := rfl
@[simp] theorem clearManifest_string : (s.clearManifest).string = s.string := rfl
@[simp] theorem clearManifest_docks : (s.clearManifest).docks = s.docks := rfl
@[simp] theorem clearManifest_cards : (s.clearManifest).cards = s.cards := rfl
@[simp] theorem clearManifest_refers : (s.clearManifest).refers = s.refers := rfl
@[simp] theorem clearManifest_terminal : (s.clearManifest).terminal = s.terminal := rfl
@[simp] theorem clearManifest_hire : (s.clearManifest).hire = s.hire := rfl
@[simp] theorem clearManifest_trips : (s.clearManifest).trips = s.trips := rfl
@[simp] theorem clearManifest_deferred : (s.clearManifest).deferred = s.deferred := rfl
@[simp] theorem clearManifest_faults : (s.clearManifest).faults = s.faults := rfl
@[simp] theorem clearManifest_manifest : (s.clearManifest).manifest = s.manifest := rfl
@[simp] theorem clearManifest_agenda : (s.clearManifest).agenda = { s.agenda with manifest := false } := rfl
@[simp] theorem clearManifest_senseCount : (s.clearManifest).senseCount = s.senseCount := rfl

/-! ### clearFollowOn -/

@[simp] theorem clearFollowOn_pending : (s.clearFollowOn).pending = s.pending := rfl
@[simp] theorem clearFollowOn_settings : (s.clearFollowOn).settings = s.settings := rfl
@[simp] theorem clearFollowOn_clock : (s.clearFollowOn).clock = s.clock := rfl
@[simp] theorem clearFollowOn_supply : (s.clearFollowOn).supply = s.supply := rfl
@[simp] theorem clearFollowOn_fare : (s.clearFollowOn).fare = s.fare := rfl
@[simp] theorem clearFollowOn_port : (s.clearFollowOn).port = s.port := rfl
@[simp] theorem clearFollowOn_string : (s.clearFollowOn).string = s.string := rfl
@[simp] theorem clearFollowOn_docks : (s.clearFollowOn).docks = s.docks := rfl
@[simp] theorem clearFollowOn_cards : (s.clearFollowOn).cards = s.cards := rfl
@[simp] theorem clearFollowOn_refers : (s.clearFollowOn).refers = s.refers := rfl
@[simp] theorem clearFollowOn_terminal : (s.clearFollowOn).terminal = s.terminal := rfl
@[simp] theorem clearFollowOn_hire : (s.clearFollowOn).hire = s.hire := rfl
@[simp] theorem clearFollowOn_trips : (s.clearFollowOn).trips = s.trips := rfl
@[simp] theorem clearFollowOn_deferred : (s.clearFollowOn).deferred = s.deferred := rfl
@[simp] theorem clearFollowOn_faults : (s.clearFollowOn).faults = s.faults := rfl
@[simp] theorem clearFollowOn_manifest : (s.clearFollowOn).manifest = s.manifest := rfl
@[simp] theorem clearFollowOn_agenda : (s.clearFollowOn).agenda = { s.agenda with followOn := false } := rfl
@[simp] theorem clearFollowOn_senseCount : (s.clearFollowOn).senseCount = s.senseCount := rfl

/-! ### setHold -/

@[simp] theorem setHold_pending (b : Bool) : (s.setHold b).pending = s.pending := rfl
@[simp] theorem setHold_settings (b : Bool) : (s.setHold b).settings = s.settings := rfl
@[simp] theorem setHold_clock (b : Bool) : (s.setHold b).clock = s.clock := rfl
@[simp] theorem setHold_supply (b : Bool) : (s.setHold b).supply = s.supply := rfl
@[simp] theorem setHold_fare (b : Bool) : (s.setHold b).fare = s.fare := rfl
@[simp] theorem setHold_port (b : Bool) : (s.setHold b).port = s.port := rfl
@[simp] theorem setHold_string (b : Bool) : (s.setHold b).string = s.string := rfl
@[simp] theorem setHold_docks (b : Bool) : (s.setHold b).docks = s.docks := rfl
@[simp] theorem setHold_cards (b : Bool) : (s.setHold b).cards = s.cards := rfl
@[simp] theorem setHold_refers (b : Bool) : (s.setHold b).refers = s.refers := rfl
@[simp] theorem setHold_terminal (b : Bool) : (s.setHold b).terminal = s.terminal := rfl
@[simp] theorem setHold_hire (b : Bool) : (s.setHold b).hire = s.hire := rfl
@[simp] theorem setHold_trips (b : Bool) : (s.setHold b).trips = s.trips := rfl
@[simp] theorem setHold_deferred (b : Bool) : (s.setHold b).deferred = s.deferred := rfl
@[simp] theorem setHold_faults (b : Bool) : (s.setHold b).faults = s.faults := rfl
@[simp] theorem setHold_manifest (b : Bool) : (s.setHold b).manifest = s.manifest := rfl
@[simp] theorem setHold_agenda (b : Bool) : (s.setHold b).agenda = { s.agenda with hold := b } := rfl
@[simp] theorem setHold_senseCount (b : Bool) : (s.setHold b).senseCount = s.senseCount := rfl

/-! ### clearAgenda -/

@[simp] theorem clearAgenda_pending : (s.clearAgenda).pending = s.pending := rfl
@[simp] theorem clearAgenda_settings : (s.clearAgenda).settings = s.settings := rfl
@[simp] theorem clearAgenda_clock : (s.clearAgenda).clock = s.clock := rfl
@[simp] theorem clearAgenda_supply : (s.clearAgenda).supply = s.supply := rfl
@[simp] theorem clearAgenda_fare : (s.clearAgenda).fare = s.fare := rfl
@[simp] theorem clearAgenda_port : (s.clearAgenda).port = s.port := rfl
@[simp] theorem clearAgenda_string : (s.clearAgenda).string = s.string := rfl
@[simp] theorem clearAgenda_docks : (s.clearAgenda).docks = s.docks := rfl
@[simp] theorem clearAgenda_cards : (s.clearAgenda).cards = s.cards := rfl
@[simp] theorem clearAgenda_refers : (s.clearAgenda).refers = s.refers := rfl
@[simp] theorem clearAgenda_terminal : (s.clearAgenda).terminal = s.terminal := rfl
@[simp] theorem clearAgenda_hire : (s.clearAgenda).hire = s.hire := rfl
@[simp] theorem clearAgenda_trips : (s.clearAgenda).trips = s.trips := rfl
@[simp] theorem clearAgenda_deferred : (s.clearAgenda).deferred = s.deferred := rfl
@[simp] theorem clearAgenda_faults : (s.clearAgenda).faults = s.faults := rfl
@[simp] theorem clearAgenda_manifest : (s.clearAgenda).manifest = s.manifest := rfl
@[simp] theorem clearAgenda_agenda : (s.clearAgenda).agenda = { Agenda.empty with hold := s.agenda.hold } := rfl
@[simp] theorem clearAgenda_senseCount : (s.clearAgenda).senseCount = s.senseCount := rfl

/-! ### setTrip -/

@[simp] theorem setTrip_pending (b : Bike) (f : TripRecord → TripRecord) : (s.setTrip b f).pending = s.pending := rfl
@[simp] theorem setTrip_settings (b : Bike) (f : TripRecord → TripRecord) : (s.setTrip b f).settings = s.settings := rfl
@[simp] theorem setTrip_clock (b : Bike) (f : TripRecord → TripRecord) : (s.setTrip b f).clock = s.clock := rfl
@[simp] theorem setTrip_supply (b : Bike) (f : TripRecord → TripRecord) : (s.setTrip b f).supply = s.supply := rfl
@[simp] theorem setTrip_fare (b : Bike) (f : TripRecord → TripRecord) : (s.setTrip b f).fare = s.fare := rfl
@[simp] theorem setTrip_port (b : Bike) (f : TripRecord → TripRecord) : (s.setTrip b f).port = s.port := rfl
@[simp] theorem setTrip_string (b : Bike) (f : TripRecord → TripRecord) : (s.setTrip b f).string = s.string := rfl
@[simp] theorem setTrip_docks (b : Bike) (f : TripRecord → TripRecord) : (s.setTrip b f).docks = s.docks := rfl
@[simp] theorem setTrip_cards (b : Bike) (f : TripRecord → TripRecord) : (s.setTrip b f).cards = s.cards := rfl
@[simp] theorem setTrip_refers (b : Bike) (f : TripRecord → TripRecord) : (s.setTrip b f).refers = s.refers := rfl
@[simp] theorem setTrip_terminal (b : Bike) (f : TripRecord → TripRecord) : (s.setTrip b f).terminal = s.terminal := rfl
@[simp] theorem setTrip_hire (b : Bike) (f : TripRecord → TripRecord) : (s.setTrip b f).hire = s.hire := rfl
@[simp] theorem setTrip_deferred (b : Bike) (f : TripRecord → TripRecord) : (s.setTrip b f).deferred = s.deferred := rfl
@[simp] theorem setTrip_faults (b : Bike) (f : TripRecord → TripRecord) : (s.setTrip b f).faults = s.faults := rfl
@[simp] theorem setTrip_manifest (b : Bike) (f : TripRecord → TripRecord) : (s.setTrip b f).manifest = s.manifest := rfl
@[simp] theorem setTrip_agenda (b : Bike) (f : TripRecord → TripRecord) : (s.setTrip b f).agenda = s.agenda := rfl
@[simp] theorem setTrip_senseCount (b : Bike) (f : TripRecord → TripRecord) : (s.setTrip b f).senseCount = s.senseCount := rfl

/-! ### mapTrips -/

@[simp] theorem mapTrips_pending (f : TripRecord → TripRecord) : (s.mapTrips f).pending = s.pending := rfl
@[simp] theorem mapTrips_settings (f : TripRecord → TripRecord) : (s.mapTrips f).settings = s.settings := rfl
@[simp] theorem mapTrips_clock (f : TripRecord → TripRecord) : (s.mapTrips f).clock = s.clock := rfl
@[simp] theorem mapTrips_supply (f : TripRecord → TripRecord) : (s.mapTrips f).supply = s.supply := rfl
@[simp] theorem mapTrips_fare (f : TripRecord → TripRecord) : (s.mapTrips f).fare = s.fare := rfl
@[simp] theorem mapTrips_port (f : TripRecord → TripRecord) : (s.mapTrips f).port = s.port := rfl
@[simp] theorem mapTrips_string (f : TripRecord → TripRecord) : (s.mapTrips f).string = s.string := rfl
@[simp] theorem mapTrips_docks (f : TripRecord → TripRecord) : (s.mapTrips f).docks = s.docks := rfl
@[simp] theorem mapTrips_cards (f : TripRecord → TripRecord) : (s.mapTrips f).cards = s.cards := rfl
@[simp] theorem mapTrips_refers (f : TripRecord → TripRecord) : (s.mapTrips f).refers = s.refers := rfl
@[simp] theorem mapTrips_terminal (f : TripRecord → TripRecord) : (s.mapTrips f).terminal = s.terminal := rfl
@[simp] theorem mapTrips_hire (f : TripRecord → TripRecord) : (s.mapTrips f).hire = s.hire := rfl
@[simp] theorem mapTrips_deferred (f : TripRecord → TripRecord) : (s.mapTrips f).deferred = s.deferred := rfl
@[simp] theorem mapTrips_faults (f : TripRecord → TripRecord) : (s.mapTrips f).faults = s.faults := rfl
@[simp] theorem mapTrips_manifest (f : TripRecord → TripRecord) : (s.mapTrips f).manifest = s.manifest := rfl
@[simp] theorem mapTrips_agenda (f : TripRecord → TripRecord) : (s.mapTrips f).agenda = s.agenda := rfl
@[simp] theorem mapTrips_senseCount (f : TripRecord → TripRecord) : (s.mapTrips f).senseCount = s.senseCount := rfl

/-! ### setDeferral -/

@[simp] theorem setDeferral_pending (d : Dock) (x : Option Deferral) : (s.setDeferral d x).pending = s.pending := rfl
@[simp] theorem setDeferral_settings (d : Dock) (x : Option Deferral) : (s.setDeferral d x).settings = s.settings := rfl
@[simp] theorem setDeferral_clock (d : Dock) (x : Option Deferral) : (s.setDeferral d x).clock = s.clock := rfl
@[simp] theorem setDeferral_supply (d : Dock) (x : Option Deferral) : (s.setDeferral d x).supply = s.supply := rfl
@[simp] theorem setDeferral_fare (d : Dock) (x : Option Deferral) : (s.setDeferral d x).fare = s.fare := rfl
@[simp] theorem setDeferral_port (d : Dock) (x : Option Deferral) : (s.setDeferral d x).port = s.port := rfl
@[simp] theorem setDeferral_string (d : Dock) (x : Option Deferral) : (s.setDeferral d x).string = s.string := rfl
@[simp] theorem setDeferral_docks (d : Dock) (x : Option Deferral) : (s.setDeferral d x).docks = s.docks := rfl
@[simp] theorem setDeferral_cards (d : Dock) (x : Option Deferral) : (s.setDeferral d x).cards = s.cards := rfl
@[simp] theorem setDeferral_refers (d : Dock) (x : Option Deferral) : (s.setDeferral d x).refers = s.refers := rfl
@[simp] theorem setDeferral_terminal (d : Dock) (x : Option Deferral) : (s.setDeferral d x).terminal = s.terminal := rfl
@[simp] theorem setDeferral_hire (d : Dock) (x : Option Deferral) : (s.setDeferral d x).hire = s.hire := rfl
@[simp] theorem setDeferral_trips (d : Dock) (x : Option Deferral) : (s.setDeferral d x).trips = s.trips := rfl
@[simp] theorem setDeferral_deferred (d : Dock) (x : Option Deferral) : (s.setDeferral d x).deferred = s.deferred.set d.val x d.isLt := rfl
@[simp] theorem setDeferral_faults (d : Dock) (x : Option Deferral) : (s.setDeferral d x).faults = s.faults := rfl
@[simp] theorem setDeferral_manifest (d : Dock) (x : Option Deferral) : (s.setDeferral d x).manifest = s.manifest := rfl
@[simp] theorem setDeferral_agenda (d : Dock) (x : Option Deferral) : (s.setDeferral d x).agenda = s.agenda := rfl
@[simp] theorem setDeferral_senseCount (d : Dock) (x : Option Deferral) : (s.setDeferral d x).senseCount = s.senseCount := rfl

/-! ### setFault -/

@[simp] theorem setFault_pending (i : Fin 32) (f : FaultRecord → FaultRecord) : (s.setFault i f).pending = s.pending := rfl
@[simp] theorem setFault_settings (i : Fin 32) (f : FaultRecord → FaultRecord) : (s.setFault i f).settings = s.settings := rfl
@[simp] theorem setFault_clock (i : Fin 32) (f : FaultRecord → FaultRecord) : (s.setFault i f).clock = s.clock := rfl
@[simp] theorem setFault_supply (i : Fin 32) (f : FaultRecord → FaultRecord) : (s.setFault i f).supply = s.supply := rfl
@[simp] theorem setFault_fare (i : Fin 32) (f : FaultRecord → FaultRecord) : (s.setFault i f).fare = s.fare := rfl
@[simp] theorem setFault_port (i : Fin 32) (f : FaultRecord → FaultRecord) : (s.setFault i f).port = s.port := rfl
@[simp] theorem setFault_string (i : Fin 32) (f : FaultRecord → FaultRecord) : (s.setFault i f).string = s.string := rfl
@[simp] theorem setFault_docks (i : Fin 32) (f : FaultRecord → FaultRecord) : (s.setFault i f).docks = s.docks := rfl
@[simp] theorem setFault_cards (i : Fin 32) (f : FaultRecord → FaultRecord) : (s.setFault i f).cards = s.cards := rfl
@[simp] theorem setFault_refers (i : Fin 32) (f : FaultRecord → FaultRecord) : (s.setFault i f).refers = s.refers := rfl
@[simp] theorem setFault_terminal (i : Fin 32) (f : FaultRecord → FaultRecord) : (s.setFault i f).terminal = s.terminal := rfl
@[simp] theorem setFault_hire (i : Fin 32) (f : FaultRecord → FaultRecord) : (s.setFault i f).hire = s.hire := rfl
@[simp] theorem setFault_trips (i : Fin 32) (f : FaultRecord → FaultRecord) : (s.setFault i f).trips = s.trips := rfl
@[simp] theorem setFault_deferred (i : Fin 32) (f : FaultRecord → FaultRecord) : (s.setFault i f).deferred = s.deferred := rfl
@[simp] theorem setFault_manifest (i : Fin 32) (f : FaultRecord → FaultRecord) : (s.setFault i f).manifest = s.manifest := rfl
@[simp] theorem setFault_agenda (i : Fin 32) (f : FaultRecord → FaultRecord) : (s.setFault i f).agenda = s.agenda := rfl
@[simp] theorem setFault_senseCount (i : Fin 32) (f : FaultRecord → FaultRecord) : (s.setFault i f).senseCount = s.senseCount := rfl

/-! ### filterFaults -/

@[simp] theorem filterFaults_pending (p : FaultRecord → Bool) : (s.filterFaults p).pending = s.pending := rfl
@[simp] theorem filterFaults_settings (p : FaultRecord → Bool) : (s.filterFaults p).settings = s.settings := rfl
@[simp] theorem filterFaults_clock (p : FaultRecord → Bool) : (s.filterFaults p).clock = s.clock := rfl
@[simp] theorem filterFaults_supply (p : FaultRecord → Bool) : (s.filterFaults p).supply = s.supply := rfl
@[simp] theorem filterFaults_fare (p : FaultRecord → Bool) : (s.filterFaults p).fare = s.fare := rfl
@[simp] theorem filterFaults_port (p : FaultRecord → Bool) : (s.filterFaults p).port = s.port := rfl
@[simp] theorem filterFaults_string (p : FaultRecord → Bool) : (s.filterFaults p).string = s.string := rfl
@[simp] theorem filterFaults_docks (p : FaultRecord → Bool) : (s.filterFaults p).docks = s.docks := rfl
@[simp] theorem filterFaults_cards (p : FaultRecord → Bool) : (s.filterFaults p).cards = s.cards := rfl
@[simp] theorem filterFaults_refers (p : FaultRecord → Bool) : (s.filterFaults p).refers = s.refers := rfl
@[simp] theorem filterFaults_terminal (p : FaultRecord → Bool) : (s.filterFaults p).terminal = s.terminal := rfl
@[simp] theorem filterFaults_hire (p : FaultRecord → Bool) : (s.filterFaults p).hire = s.hire := rfl
@[simp] theorem filterFaults_trips (p : FaultRecord → Bool) : (s.filterFaults p).trips = s.trips := rfl
@[simp] theorem filterFaults_deferred (p : FaultRecord → Bool) : (s.filterFaults p).deferred = s.deferred := rfl
@[simp] theorem filterFaults_faults (p : FaultRecord → Bool) : (s.filterFaults p).faults = { s.faults with records := s.faults.records.filter p } := rfl
@[simp] theorem filterFaults_manifest (p : FaultRecord → Bool) : (s.filterFaults p).manifest = s.manifest := rfl
@[simp] theorem filterFaults_agenda (p : FaultRecord → Bool) : (s.filterFaults p).agenda = s.agenda := rfl
@[simp] theorem filterFaults_senseCount (p : FaultRecord → Bool) : (s.filterFaults p).senseCount = s.senseCount := rfl

/-! ### setFaultFull -/

@[simp] theorem setFaultFull_pending (b : Bool) : (s.setFaultFull b).pending = s.pending := rfl
@[simp] theorem setFaultFull_settings (b : Bool) : (s.setFaultFull b).settings = s.settings := rfl
@[simp] theorem setFaultFull_clock (b : Bool) : (s.setFaultFull b).clock = s.clock := rfl
@[simp] theorem setFaultFull_supply (b : Bool) : (s.setFaultFull b).supply = s.supply := rfl
@[simp] theorem setFaultFull_fare (b : Bool) : (s.setFaultFull b).fare = s.fare := rfl
@[simp] theorem setFaultFull_port (b : Bool) : (s.setFaultFull b).port = s.port := rfl
@[simp] theorem setFaultFull_string (b : Bool) : (s.setFaultFull b).string = s.string := rfl
@[simp] theorem setFaultFull_docks (b : Bool) : (s.setFaultFull b).docks = s.docks := rfl
@[simp] theorem setFaultFull_cards (b : Bool) : (s.setFaultFull b).cards = s.cards := rfl
@[simp] theorem setFaultFull_refers (b : Bool) : (s.setFaultFull b).refers = s.refers := rfl
@[simp] theorem setFaultFull_terminal (b : Bool) : (s.setFaultFull b).terminal = s.terminal := rfl
@[simp] theorem setFaultFull_hire (b : Bool) : (s.setFaultFull b).hire = s.hire := rfl
@[simp] theorem setFaultFull_trips (b : Bool) : (s.setFaultFull b).trips = s.trips := rfl
@[simp] theorem setFaultFull_deferred (b : Bool) : (s.setFaultFull b).deferred = s.deferred := rfl
@[simp] theorem setFaultFull_faults (b : Bool) : (s.setFaultFull b).faults = { s.faults with full := b } := rfl
@[simp] theorem setFaultFull_manifest (b : Bool) : (s.setFaultFull b).manifest = s.manifest := rfl
@[simp] theorem setFaultFull_agenda (b : Bool) : (s.setFaultFull b).agenda = s.agenda := rfl
@[simp] theorem setFaultFull_senseCount (b : Bool) : (s.setFaultFull b).senseCount = s.senseCount := rfl

/-! ### setFaultDock -/

@[simp] theorem setFaultDock_pending (d : Dock) (f : FaultDock → FaultDock) : (s.setFaultDock d f).pending = s.pending := rfl
@[simp] theorem setFaultDock_settings (d : Dock) (f : FaultDock → FaultDock) : (s.setFaultDock d f).settings = s.settings := rfl
@[simp] theorem setFaultDock_clock (d : Dock) (f : FaultDock → FaultDock) : (s.setFaultDock d f).clock = s.clock := rfl
@[simp] theorem setFaultDock_supply (d : Dock) (f : FaultDock → FaultDock) : (s.setFaultDock d f).supply = s.supply := rfl
@[simp] theorem setFaultDock_fare (d : Dock) (f : FaultDock → FaultDock) : (s.setFaultDock d f).fare = s.fare := rfl
@[simp] theorem setFaultDock_port (d : Dock) (f : FaultDock → FaultDock) : (s.setFaultDock d f).port = s.port := rfl
@[simp] theorem setFaultDock_string (d : Dock) (f : FaultDock → FaultDock) : (s.setFaultDock d f).string = s.string := rfl
@[simp] theorem setFaultDock_docks (d : Dock) (f : FaultDock → FaultDock) : (s.setFaultDock d f).docks = s.docks := rfl
@[simp] theorem setFaultDock_cards (d : Dock) (f : FaultDock → FaultDock) : (s.setFaultDock d f).cards = s.cards := rfl
@[simp] theorem setFaultDock_refers (d : Dock) (f : FaultDock → FaultDock) : (s.setFaultDock d f).refers = s.refers := rfl
@[simp] theorem setFaultDock_terminal (d : Dock) (f : FaultDock → FaultDock) : (s.setFaultDock d f).terminal = s.terminal := rfl
@[simp] theorem setFaultDock_hire (d : Dock) (f : FaultDock → FaultDock) : (s.setFaultDock d f).hire = s.hire := rfl
@[simp] theorem setFaultDock_trips (d : Dock) (f : FaultDock → FaultDock) : (s.setFaultDock d f).trips = s.trips := rfl
@[simp] theorem setFaultDock_deferred (d : Dock) (f : FaultDock → FaultDock) : (s.setFaultDock d f).deferred = s.deferred := rfl
@[simp] theorem setFaultDock_faults (d : Dock) (f : FaultDock → FaultDock) : (s.setFaultDock d f).faults = { s.faults with docks := upd s.faults.docks d f } := rfl
@[simp] theorem setFaultDock_manifest (d : Dock) (f : FaultDock → FaultDock) : (s.setFaultDock d f).manifest = s.manifest := rfl
@[simp] theorem setFaultDock_agenda (d : Dock) (f : FaultDock → FaultDock) : (s.setFaultDock d f).agenda = s.agenda := rfl
@[simp] theorem setFaultDock_senseCount (d : Dock) (f : FaultDock → FaultDock) : (s.setFaultDock d f).senseCount = s.senseCount := rfl

/-! ### mapFaultDocks -/

@[simp] theorem mapFaultDocks_pending (f : FaultDock → FaultDock) : (s.mapFaultDocks f).pending = s.pending := rfl
@[simp] theorem mapFaultDocks_settings (f : FaultDock → FaultDock) : (s.mapFaultDocks f).settings = s.settings := rfl
@[simp] theorem mapFaultDocks_clock (f : FaultDock → FaultDock) : (s.mapFaultDocks f).clock = s.clock := rfl
@[simp] theorem mapFaultDocks_supply (f : FaultDock → FaultDock) : (s.mapFaultDocks f).supply = s.supply := rfl
@[simp] theorem mapFaultDocks_fare (f : FaultDock → FaultDock) : (s.mapFaultDocks f).fare = s.fare := rfl
@[simp] theorem mapFaultDocks_port (f : FaultDock → FaultDock) : (s.mapFaultDocks f).port = s.port := rfl
@[simp] theorem mapFaultDocks_string (f : FaultDock → FaultDock) : (s.mapFaultDocks f).string = s.string := rfl
@[simp] theorem mapFaultDocks_docks (f : FaultDock → FaultDock) : (s.mapFaultDocks f).docks = s.docks := rfl
@[simp] theorem mapFaultDocks_cards (f : FaultDock → FaultDock) : (s.mapFaultDocks f).cards = s.cards := rfl
@[simp] theorem mapFaultDocks_refers (f : FaultDock → FaultDock) : (s.mapFaultDocks f).refers = s.refers := rfl
@[simp] theorem mapFaultDocks_terminal (f : FaultDock → FaultDock) : (s.mapFaultDocks f).terminal = s.terminal := rfl
@[simp] theorem mapFaultDocks_hire (f : FaultDock → FaultDock) : (s.mapFaultDocks f).hire = s.hire := rfl
@[simp] theorem mapFaultDocks_trips (f : FaultDock → FaultDock) : (s.mapFaultDocks f).trips = s.trips := rfl
@[simp] theorem mapFaultDocks_deferred (f : FaultDock → FaultDock) : (s.mapFaultDocks f).deferred = s.deferred := rfl
@[simp] theorem mapFaultDocks_faults (f : FaultDock → FaultDock) : (s.mapFaultDocks f).faults = { s.faults with docks := mapTable f s.faults.docks } := rfl
@[simp] theorem mapFaultDocks_manifest (f : FaultDock → FaultDock) : (s.mapFaultDocks f).manifest = s.manifest := rfl
@[simp] theorem mapFaultDocks_agenda (f : FaultDock → FaultDock) : (s.mapFaultDocks f).agenda = s.agenda := rfl
@[simp] theorem mapFaultDocks_senseCount (f : FaultDock → FaultDock) : (s.mapFaultDocks f).senseCount = s.senseCount := rfl

/-! ### setManifest -/

@[simp] theorem setManifest_pending (f : ManifestUnit → ManifestUnit) : (s.setManifest f).pending = s.pending := rfl
@[simp] theorem setManifest_settings (f : ManifestUnit → ManifestUnit) : (s.setManifest f).settings = s.settings := rfl
@[simp] theorem setManifest_clock (f : ManifestUnit → ManifestUnit) : (s.setManifest f).clock = s.clock := rfl
@[simp] theorem setManifest_supply (f : ManifestUnit → ManifestUnit) : (s.setManifest f).supply = s.supply := rfl
@[simp] theorem setManifest_fare (f : ManifestUnit → ManifestUnit) : (s.setManifest f).fare = s.fare := rfl
@[simp] theorem setManifest_port (f : ManifestUnit → ManifestUnit) : (s.setManifest f).port = s.port := rfl
@[simp] theorem setManifest_string (f : ManifestUnit → ManifestUnit) : (s.setManifest f).string = s.string := rfl
@[simp] theorem setManifest_docks (f : ManifestUnit → ManifestUnit) : (s.setManifest f).docks = s.docks := rfl
@[simp] theorem setManifest_cards (f : ManifestUnit → ManifestUnit) : (s.setManifest f).cards = s.cards := rfl
@[simp] theorem setManifest_refers (f : ManifestUnit → ManifestUnit) : (s.setManifest f).refers = s.refers := rfl
@[simp] theorem setManifest_terminal (f : ManifestUnit → ManifestUnit) : (s.setManifest f).terminal = s.terminal := rfl
@[simp] theorem setManifest_hire (f : ManifestUnit → ManifestUnit) : (s.setManifest f).hire = s.hire := rfl
@[simp] theorem setManifest_trips (f : ManifestUnit → ManifestUnit) : (s.setManifest f).trips = s.trips := rfl
@[simp] theorem setManifest_deferred (f : ManifestUnit → ManifestUnit) : (s.setManifest f).deferred = s.deferred := rfl
@[simp] theorem setManifest_faults (f : ManifestUnit → ManifestUnit) : (s.setManifest f).faults = s.faults := rfl
@[simp] theorem setManifest_manifest (f : ManifestUnit → ManifestUnit) : (s.setManifest f).manifest = f s.manifest := rfl
@[simp] theorem setManifest_agenda (f : ManifestUnit → ManifestUnit) : (s.setManifest f).agenda = s.agenda := rfl
@[simp] theorem setManifest_senseCount (f : ManifestUnit → ManifestUnit) : (s.setManifest f).senseCount = s.senseCount := rfl

/-! ### setFare -/

@[simp] theorem setFare_pending (f : FareUnit → FareUnit) : (s.setFare f).pending = s.pending := rfl
@[simp] theorem setFare_settings (f : FareUnit → FareUnit) : (s.setFare f).settings = s.settings := rfl
@[simp] theorem setFare_clock (f : FareUnit → FareUnit) : (s.setFare f).clock = s.clock := rfl
@[simp] theorem setFare_supply (f : FareUnit → FareUnit) : (s.setFare f).supply = s.supply := rfl
@[simp] theorem setFare_fare (f : FareUnit → FareUnit) : (s.setFare f).fare = f s.fare := rfl
@[simp] theorem setFare_port (f : FareUnit → FareUnit) : (s.setFare f).port = s.port := rfl
@[simp] theorem setFare_string (f : FareUnit → FareUnit) : (s.setFare f).string = s.string := rfl
@[simp] theorem setFare_docks (f : FareUnit → FareUnit) : (s.setFare f).docks = s.docks := rfl
@[simp] theorem setFare_cards (f : FareUnit → FareUnit) : (s.setFare f).cards = s.cards := rfl
@[simp] theorem setFare_refers (f : FareUnit → FareUnit) : (s.setFare f).refers = s.refers := rfl
@[simp] theorem setFare_terminal (f : FareUnit → FareUnit) : (s.setFare f).terminal = s.terminal := rfl
@[simp] theorem setFare_hire (f : FareUnit → FareUnit) : (s.setFare f).hire = s.hire := rfl
@[simp] theorem setFare_trips (f : FareUnit → FareUnit) : (s.setFare f).trips = s.trips := rfl
@[simp] theorem setFare_deferred (f : FareUnit → FareUnit) : (s.setFare f).deferred = s.deferred := rfl
@[simp] theorem setFare_faults (f : FareUnit → FareUnit) : (s.setFare f).faults = s.faults := rfl
@[simp] theorem setFare_manifest (f : FareUnit → FareUnit) : (s.setFare f).manifest = s.manifest := rfl
@[simp] theorem setFare_agenda (f : FareUnit → FareUnit) : (s.setFare f).agenda = s.agenda := rfl
@[simp] theorem setFare_senseCount (f : FareUnit → FareUnit) : (s.setFare f).senseCount = s.senseCount := rfl

/-! ### setClock -/

@[simp] theorem setClock_pending (f : Clock → Clock) : (s.setClock f).pending = s.pending := rfl
@[simp] theorem setClock_settings (f : Clock → Clock) : (s.setClock f).settings = s.settings := rfl
@[simp] theorem setClock_clock (f : Clock → Clock) : (s.setClock f).clock = f s.clock := rfl
@[simp] theorem setClock_supply (f : Clock → Clock) : (s.setClock f).supply = s.supply := rfl
@[simp] theorem setClock_fare (f : Clock → Clock) : (s.setClock f).fare = s.fare := rfl
@[simp] theorem setClock_port (f : Clock → Clock) : (s.setClock f).port = s.port := rfl
@[simp] theorem setClock_string (f : Clock → Clock) : (s.setClock f).string = s.string := rfl
@[simp] theorem setClock_docks (f : Clock → Clock) : (s.setClock f).docks = s.docks := rfl
@[simp] theorem setClock_cards (f : Clock → Clock) : (s.setClock f).cards = s.cards := rfl
@[simp] theorem setClock_refers (f : Clock → Clock) : (s.setClock f).refers = s.refers := rfl
@[simp] theorem setClock_terminal (f : Clock → Clock) : (s.setClock f).terminal = s.terminal := rfl
@[simp] theorem setClock_hire (f : Clock → Clock) : (s.setClock f).hire = s.hire := rfl
@[simp] theorem setClock_trips (f : Clock → Clock) : (s.setClock f).trips = s.trips := rfl
@[simp] theorem setClock_deferred (f : Clock → Clock) : (s.setClock f).deferred = s.deferred := rfl
@[simp] theorem setClock_faults (f : Clock → Clock) : (s.setClock f).faults = s.faults := rfl
@[simp] theorem setClock_manifest (f : Clock → Clock) : (s.setClock f).manifest = s.manifest := rfl
@[simp] theorem setClock_agenda (f : Clock → Clock) : (s.setClock f).agenda = s.agenda := rfl
@[simp] theorem setClock_senseCount (f : Clock → Clock) : (s.setClock f).senseCount = s.senseCount := rfl

/-! ### setSupply -/

@[simp] theorem setSupply_pending (f : Supply → Supply) : (s.setSupply f).pending = s.pending := rfl
@[simp] theorem setSupply_settings (f : Supply → Supply) : (s.setSupply f).settings = s.settings := rfl
@[simp] theorem setSupply_clock (f : Supply → Supply) : (s.setSupply f).clock = s.clock := rfl
@[simp] theorem setSupply_supply (f : Supply → Supply) : (s.setSupply f).supply = f s.supply := rfl
@[simp] theorem setSupply_fare (f : Supply → Supply) : (s.setSupply f).fare = s.fare := rfl
@[simp] theorem setSupply_port (f : Supply → Supply) : (s.setSupply f).port = s.port := rfl
@[simp] theorem setSupply_string (f : Supply → Supply) : (s.setSupply f).string = s.string := rfl
@[simp] theorem setSupply_docks (f : Supply → Supply) : (s.setSupply f).docks = s.docks := rfl
@[simp] theorem setSupply_cards (f : Supply → Supply) : (s.setSupply f).cards = s.cards := rfl
@[simp] theorem setSupply_refers (f : Supply → Supply) : (s.setSupply f).refers = s.refers := rfl
@[simp] theorem setSupply_terminal (f : Supply → Supply) : (s.setSupply f).terminal = s.terminal := rfl
@[simp] theorem setSupply_hire (f : Supply → Supply) : (s.setSupply f).hire = s.hire := rfl
@[simp] theorem setSupply_trips (f : Supply → Supply) : (s.setSupply f).trips = s.trips := rfl
@[simp] theorem setSupply_deferred (f : Supply → Supply) : (s.setSupply f).deferred = s.deferred := rfl
@[simp] theorem setSupply_faults (f : Supply → Supply) : (s.setSupply f).faults = s.faults := rfl
@[simp] theorem setSupply_manifest (f : Supply → Supply) : (s.setSupply f).manifest = s.manifest := rfl
@[simp] theorem setSupply_agenda (f : Supply → Supply) : (s.setSupply f).agenda = s.agenda := rfl
@[simp] theorem setSupply_senseCount (f : Supply → Supply) : (s.setSupply f).senseCount = s.senseCount := rfl

/-! ### setSettings -/

@[simp] theorem setSettings_pending (f : Settings → Settings) : (s.setSettings f).pending = s.pending := rfl
@[simp] theorem setSettings_settings (f : Settings → Settings) : (s.setSettings f).settings = f s.settings := rfl
@[simp] theorem setSettings_clock (f : Settings → Settings) : (s.setSettings f).clock = s.clock := rfl
@[simp] theorem setSettings_supply (f : Settings → Settings) : (s.setSettings f).supply = s.supply := rfl
@[simp] theorem setSettings_fare (f : Settings → Settings) : (s.setSettings f).fare = s.fare := rfl
@[simp] theorem setSettings_port (f : Settings → Settings) : (s.setSettings f).port = s.port := rfl
@[simp] theorem setSettings_string (f : Settings → Settings) : (s.setSettings f).string = s.string := rfl
@[simp] theorem setSettings_docks (f : Settings → Settings) : (s.setSettings f).docks = s.docks := rfl
@[simp] theorem setSettings_cards (f : Settings → Settings) : (s.setSettings f).cards = s.cards := rfl
@[simp] theorem setSettings_refers (f : Settings → Settings) : (s.setSettings f).refers = s.refers := rfl
@[simp] theorem setSettings_terminal (f : Settings → Settings) : (s.setSettings f).terminal = s.terminal := rfl
@[simp] theorem setSettings_hire (f : Settings → Settings) : (s.setSettings f).hire = s.hire := rfl
@[simp] theorem setSettings_trips (f : Settings → Settings) : (s.setSettings f).trips = s.trips := rfl
@[simp] theorem setSettings_deferred (f : Settings → Settings) : (s.setSettings f).deferred = s.deferred := rfl
@[simp] theorem setSettings_faults (f : Settings → Settings) : (s.setSettings f).faults = s.faults := rfl
@[simp] theorem setSettings_manifest (f : Settings → Settings) : (s.setSettings f).manifest = s.manifest := rfl
@[simp] theorem setSettings_agenda (f : Settings → Settings) : (s.setSettings f).agenda = s.agenda := rfl
@[simp] theorem setSettings_senseCount (f : Settings → Settings) : (s.setSettings f).senseCount = s.senseCount := rfl

/-! ### setPort -/

@[simp] theorem setPort_pending (f : Port → Port) : (s.setPort f).pending = s.pending := rfl
@[simp] theorem setPort_settings (f : Port → Port) : (s.setPort f).settings = s.settings := rfl
@[simp] theorem setPort_clock (f : Port → Port) : (s.setPort f).clock = s.clock := rfl
@[simp] theorem setPort_supply (f : Port → Port) : (s.setPort f).supply = s.supply := rfl
@[simp] theorem setPort_fare (f : Port → Port) : (s.setPort f).fare = s.fare := rfl
@[simp] theorem setPort_port (f : Port → Port) : (s.setPort f).port = f s.port := rfl
@[simp] theorem setPort_string (f : Port → Port) : (s.setPort f).string = s.string := rfl
@[simp] theorem setPort_docks (f : Port → Port) : (s.setPort f).docks = s.docks := rfl
@[simp] theorem setPort_cards (f : Port → Port) : (s.setPort f).cards = s.cards := rfl
@[simp] theorem setPort_refers (f : Port → Port) : (s.setPort f).refers = s.refers := rfl
@[simp] theorem setPort_terminal (f : Port → Port) : (s.setPort f).terminal = s.terminal := rfl
@[simp] theorem setPort_hire (f : Port → Port) : (s.setPort f).hire = s.hire := rfl
@[simp] theorem setPort_trips (f : Port → Port) : (s.setPort f).trips = s.trips := rfl
@[simp] theorem setPort_deferred (f : Port → Port) : (s.setPort f).deferred = s.deferred := rfl
@[simp] theorem setPort_faults (f : Port → Port) : (s.setPort f).faults = s.faults := rfl
@[simp] theorem setPort_manifest (f : Port → Port) : (s.setPort f).manifest = s.manifest := rfl
@[simp] theorem setPort_agenda (f : Port → Port) : (s.setPort f).agenda = s.agenda := rfl
@[simp] theorem setPort_senseCount (f : Port → Port) : (s.setPort f).senseCount = s.senseCount := rfl

end Sys2Proof.Machine
end

