-- ==== Sys2Proof/Laws/Closed.lean ====
section
/-! SUPPORT. What the work of an event can do, said once: a property of states that the primitive
updates keep is kept by every operation built from them. -/

set_option linter.unusedTactic false
set_option linter.unreachableTactic false

namespace Sys2Proof.Machine

open Sys2Proof

variable {P : State → Prop}

/-- What selecting a lamp, showing a refusal or reserving a dock can do: change a dock record where answers
give it nothing, place SHOW requests, and let a free string take its next call. -/
structure LampClosed (P : State → Prop) : Prop where
  lampDock : ∀ (d : Dock) (f : DockRecord → DockRecord) (s : State), (∀ r, (f r).known = r.known) → P s →
    P (s.setDock d f)
  show_ : ∀ (d : Dock) (args : List Byte) (s : State), P s →
    P (enqueue (request (dockNode d) .lampShow args .dockMonitor) s)
  takeNext : ∀ s : State, P s → P (takeNext s)

/-- What the work of an event can do that leaves in every dock record what answers gave it. -/
structure CalmClosed (P : State → Prop) : Prop extends LampClosed P where
  enqueue : ∀ (r : QueueEntry) (s : State), P s → P (enqueue r s)
  buttonMask : ∀ (n : Node) (b : Bool) (s : State), P s →
    P (s.setLink n (fun l => { l with buttonMask := b }))
  setCard : ∀ (c : CardNo) (f : CardEntry → CardEntry) (s : State), P s → P (s.setCard c f)
  mapCards : ∀ (f : CardEntry → CardEntry) (s : State), P s → P (s.mapCards f)
  addCard : ∀ (e : CardEntry) (s : State), P s → P (s.addCard e)
  dropCard : ∀ (c : CardNo) (s : State), P s → P (s.dropCard c)
  addRefer : ∀ (r : ReferSlot) (s : State), P s → P (s.addRefer r)
  setRefer : ∀ (c : CardNo) (f : ReferSlot → ReferSlot) (s : State), P s → P (s.setRefer c f)
  dropRefer : ∀ (c : CardNo) (s : State), P s → P (s.dropRefer c)
  setTerminal : ∀ (f : Terminal → Terminal) (s : State), P s → P (s.setTerminal f)
  joinHire : ∀ (r : HireRequest) (s : State), P s → P (s.joinHire r)
  filterHire : ∀ (p : HireRequest → Bool) (s : State), P s → P (s.filterHire p)
  popHire : ∀ s : State, P s → P s.popHire
  setToken : ∀ (i : Fin 3) (x : Token) (s : State), P s → P (s.setToken i x)
  setRelease : ∀ (d : Dock) (x : Option ReleaseContext) (s : State), P s → P (s.setRelease d x)
  setCancel : ∀ (d : Dock) (x : Option CancelContext) (s : State), P s → P (s.setCancel d x)
  noteTrips : ∀ s : State, P s → P s.noteTrips
  noteManifest : ∀ s : State, P s → P s.noteManifest
  noteFollowOn : ∀ s : State, P s → P s.noteFollowOn
  popFailure : ∀ s : State, P s → P s.popFailure
  clearTrips : ∀ s : State, P s → P s.clearTrips
  clearManifest : ∀ s : State, P s → P s.clearManifest
  clearFollowOn : ∀ s : State, P s → P s.clearFollowOn
  clearAgenda : ∀ s : State, P s → P s.clearAgenda
  addTrip : ∀ (r : TripRecord) (s : State), P s → P (s.addTrip r)
  setTrip : ∀ (b : Bike) (f : TripRecord → TripRecord) (s : State), P s → P (s.setTrip b f)
  filterTrips : ∀ (p : TripRecord → Bool) (s : State), P s → P (s.filterTrips p)
  setDeferral : ∀ (d : Dock) (x : Option Deferral) (s : State), P s → P (s.setDeferral d x)
  addFault : ∀ (r : FaultRecord) (s : State), P s → P (s.addFault r)
  setFault : ∀ (i : Fin 32) (f : FaultRecord → FaultRecord) (s : State), P s → P (s.setFault i f)
  filterFaults : ∀ (p : FaultRecord → Bool) (s : State), P s → P (s.filterFaults p)
  setFaultFull : ∀ (b : Bool) (s : State), P s → P (s.setFaultFull b)
  setFaultDock : ∀ (d : Dock) (f : FaultDock → FaultDock) (s : State), P s → P (s.setFaultDock d f)
  mapFaultDocks : ∀ (f : FaultDock → FaultDock) (s : State), P s → P (s.mapFaultDocks f)
  setManifest : ∀ (f : ManifestUnit → ManifestUnit) (s : State), P s → P (s.setManifest f)

/-- What the work of an event can do outside the String Controller, the settings, the clock, the
supply, the banks and the port. -/
structure Closed (P : State → Prop) : Prop extends CalmClosed P where
  setDock : ∀ (d : Dock) (f : DockRecord → DockRecord) (s : State), P s → P (s.setDock d f)
  mapDocks : ∀ (f : DockRecord → DockRecord) (s : State), P s → P (s.mapDocks f)

theorem closed_foldl {α : Type} {f : State → α → State} (hf : ∀ s x, P s → P (f s x)) :
    ∀ (l : List α) (s : State), P s → P (l.foldl f s)
  | [], _, hs => hs
  | x :: l, s, hs => closed_foldl hf l (f s x) (hf s x hs)

/-! ### Operations -/

theorem closed_moveTrip (h : CalmClosed P) (a : Bike) (b : (TripRecord → TripRecord)) (s : State) (hs : P s) :
    P (s.moveTrip a b) := by
  unfold State.moveTrip
  try dsimp only
  repeat' first | with_reducible assumption | with_reducible apply h.noteTrips | with_reducible apply h.setTrip | intro _ | split

theorem closed_dropTrip (h : CalmClosed P) (a : Bike) (s : State) (hs : P s) :
    P (s.dropTrip a) := by
  unfold State.dropTrip
  try dsimp only
  repeat' first | with_reducible assumption | with_reducible apply h.filterTrips | intro _ | split

theorem closed_setMove (h : CalmClosed P) (a : Nat) (b : (Move → Move)) (s : State) (hs : P s) :
    P (s.setMove a b) := by
  unfold State.setMove
  try dsimp only
  repeat' first | with_reducible assumption | with_reducible apply h.setManifest | intro _ | split

theorem closed_place (h : CalmClosed P) (a : QueueEntry) (s : State) (hs : P s) :
    P (place a s) := by
  unfold place
  try dsimp only
  repeat' first | with_reducible assumption | with_reducible apply h.enqueue | with_reducible apply h.takeNext | intro _ | split

theorem closed_placeDock (h : CalmClosed P) (a : Dock) (b : Verb) (c : List Byte) (d : Originator) (s : State) (hs : P s) :
    P (placeDock a b c d s) := by
  unfold placeDock
  try dsimp only
  repeat' first | with_reducible assumption | with_reducible apply closed_place h | intro _ | split

theorem closed_showLamp (h : LampClosed P) (d : Dock) (args : List Byte) (s : State) (hs : P s) :
    P (placeDock d .lampShow args .dockMonitor s) := h.takeNext _ (h.show_ d args s hs)

theorem closed_selectLamp (h : LampClosed P) (a : Dock) (s : State) (hs : P s) :
    P (selectLamp a s) := by
  unfold selectLamp
  dsimp only
  repeat' first | with_reducible assumption | with_reducible refine h.lampDock _ _ _ (fun _ => rfl) ?_ | with_reducible apply closed_showLamp h | split

theorem closed_selectAllLamps (h : LampClosed P) (s : State) (hs : P s) :
    P (selectAllLamps s) := by
  unfold selectAllLamps
  try dsimp only
  repeat' first | with_reducible assumption | with_reducible apply closed_selectLamp h | with_reducible apply closed_foldl (P := P) | intro _ | split

theorem closed_selectLampsOfBike (h : LampClosed P) (a : Bike) (s : State) (hs : P s) :
    P (selectLampsOfBike a s) := by
  unfold selectLampsOfBike
  try dsimp only
  repeat' first | with_reducible assumption | with_reducible apply closed_selectLamp h | with_reducible apply closed_foldl (P := P) | intro _ | split

theorem closed_showRefusal (h : LampClosed P) (a : Nat) (b : Dock) (s : State) (hs : P s) :
    P (showRefusal a b s) := by
  unfold showRefusal
  try dsimp only
  repeat' first | with_reducible assumption | with_reducible refine h.lampDock _ _ _ (fun _ => rfl) ?_ | with_reducible apply closed_selectLamp h | intro _ | split

theorem closed_setReservation (h : LampClosed P) (a : Dock) (b : Reservation) (s : State) (hs : P s) :
    P (setReservation a b s) := by
  unfold setReservation
  try dsimp only
  repeat' first | with_reducible assumption | with_reducible refine h.lampDock _ _ _ (fun _ => rfl) ?_ | with_reducible apply closed_selectLamp h | intro _ | split

theorem closed_reportDock (h : Closed P) (a : Dock) (b : Bike) (c : (DockRecord → DockRecord)) (s : State) (hs : P s) :
    P (reportDock a b c s) := by
  unfold reportDock
  try dsimp only
  repeat' first | with_reducible assumption | with_reducible apply h.setDock | with_reducible apply closed_selectLamp h.toLampClosed | intro _ | split

theorem closed_reportStamped (h : Closed P) (a : Dock) (b : Bike) (c : StampKind) (s : State) (hs : P s) :
    P (reportStamped a b c s) := by
  unfold reportStamped
  try dsimp only
  repeat' first | with_reducible assumption | with_reducible apply closed_reportDock h | intro _ | split

theorem closed_reportUnstamped (h : Closed P) (a : Dock) (b : Bike) (s : State) (hs : P s) :
    P (reportUnstamped a b s) := by
  unfold reportUnstamped
  try dsimp only
  repeat' first | with_reducible assumption | with_reducible apply closed_reportStamped h | intro _ | split

theorem closed_reportMarked (h : Closed P) (a : Dock) (b : Bike) (c : Bool) (s : State) (hs : P s) :
    P (reportMarked a b c s) := by
  unfold reportMarked
  try dsimp only
  repeat' first | with_reducible assumption | with_reducible apply closed_reportDock h | intro _ | split

theorem closed_reportUnpriced (h : Closed P) (a : Dock) (b : Bike) (c : Bool) (s : State) (hs : P s) :
    P (reportUnpriced a b c s) := by
  unfold reportUnpriced
  try dsimp only
  repeat' first | with_reducible assumption | with_reducible apply closed_reportDock h | intro _ | split

theorem closed_takeDock (h : CalmClosed P) (a : Nat) (b : MoveKind) (c : Option Dock) (s : State) (hs : P s) :
    P (takeDock a b c s) := by
  unfold takeDock
  try dsimp only
  repeat' first | with_reducible assumption | with_reducible apply closed_setMove h | with_reducible apply closed_setReservation h.toLampClosed | intro _ | split

theorem closed_placeMove (h : CalmClosed P) (a : Nat) (s : State) (hs : P s) :
    P (placeMove a s) := by
  unfold placeMove
  try dsimp only
  repeat' first | with_reducible assumption | with_reducible apply closed_takeDock h | intro _ | split

theorem closed_manifestRetry (h : CalmClosed P) (s : State) (hs : P s) :
    P (manifestRetry s) := by
  unfold manifestRetry
  try dsimp only
  repeat' first | with_reducible assumption | with_reducible apply closed_placeMove h | with_reducible apply closed_foldl (P := P) | intro _ | split

theorem closed_giveUp (h : CalmClosed P) (a : Nat) (s : State) (hs : P s) :
    P (giveUp a s) := by
  unfold giveUp
  try dsimp only
  repeat' first | with_reducible assumption | with_reducible apply h.noteManifest | with_reducible apply closed_setMove h | with_reducible apply closed_setReservation h.toLampClosed | intro _ | split

theorem closed_migrate (h : CalmClosed P) (a : Nat) (s : State) (hs : P s) :
    P (migrate a s) := by
  unfold migrate
  try dsimp only
  repeat' first | with_reducible assumption | with_reducible apply closed_setMove h | with_reducible apply closed_takeDock h | intro _ | split

theorem closed_shorten (h : CalmClosed P) (a : Nat) (s : State) (hs : P s) :
    P (shorten a s) := by
  unfold shorten
  try dsimp only
  repeat' first | with_reducible assumption | with_reducible apply closed_giveUp h | with_reducible apply closed_setMove h | intro _ | split

theorem closed_onMove (h : CalmClosed P) (a : (Move → Bool)) (b : (Nat → State → State)) (s : State) (hf : ∀ i s, P s → P (b i s)) (hs : P s) :
    P (onMove a b s) := by
  unfold onMove
  try dsimp only
  repeat' first | with_reducible assumption | with_reducible apply hf | intro _ | split

theorem closed_tellOccupancy (h : CalmClosed P) (a : Dock) (s : State) (hs : P s) :
    P (tellOccupancy a s) := by
  unfold tellOccupancy
  try dsimp only
  repeat' first | with_reducible assumption | with_reducible apply h.noteManifest | with_reducible apply closed_migrate h | with_reducible apply closed_onMove h | with_reducible apply closed_shorten h | intro _ | split

theorem closed_tellBikeNumber (h : CalmClosed P) (a : Dock) (s : State) (hs : P s) :
    P (tellBikeNumber a s) := by
  unfold tellBikeNumber
  try dsimp only
  repeat' first | with_reducible assumption | with_reducible apply h.noteManifest | with_reducible apply closed_migrate h | with_reducible apply closed_onMove h | with_reducible apply closed_shorten h | intro _ | split

theorem closed_tellArrival (h : CalmClosed P) (a : Dock) (s : State) (hs : P s) :
    P (tellArrival a s) := by
  unfold tellArrival
  try dsimp only
  repeat' first | with_reducible assumption | with_reducible apply closed_giveUp h | with_reducible apply closed_setMove h | intro _ | split

theorem closed_tellFault (h : CalmClosed P) (a : Option Dock) (s : State) (hs : P s) :
    P (tellFault a s) := by
  unfold tellFault
  try dsimp only
  repeat' first | with_reducible assumption | with_reducible apply h.noteManifest | with_reducible apply closed_giveUp h | with_reducible apply closed_migrate h | with_reducible apply closed_onMove h | with_reducible apply closed_shorten h | intro _ | split

theorem closed_tellContact (h : CalmClosed P) (s : State) (hs : P s) :
    P (tellContact s) := by
  unfold tellContact
  try dsimp only
  repeat' first | with_reducible assumption | with_reducible apply h.noteManifest | intro _ | split

theorem closed_activate (h : CalmClosed P) (a : StagedManifest) (s : State) (hs : P s) :
    P (activate a s) := by
  unfold activate
  try dsimp only
  repeat' first | with_reducible assumption | with_reducible apply h.setManifest | with_reducible apply closed_placeMove h | with_reducible apply closed_foldl (P := P) | intro _ | split

theorem closed_followOn (h : CalmClosed P) (s : State) (hs : P s) :
    P (followOn s) := by
  unfold followOn
  try dsimp only
  repeat' first | with_reducible assumption | with_reducible apply closed_activate h | intro _ | split

theorem closed_dropReservations (h : CalmClosed P) (s : State) (hs : P s) :
    P (dropReservations s) := by
  unfold dropReservations
  try dsimp only
  repeat' first | with_reducible assumption | with_reducible apply closed_setReservation h.toLampClosed | with_reducible apply closed_foldl (P := P) | intro _ | split

theorem closed_endManifest (h : CalmClosed P) (a : ManifestOutcome) (s : State) (hs : P s) :
    P (endManifest a s) := by
  unfold endManifest
  try dsimp only
  repeat' first | with_reducible assumption | with_reducible apply h.filterHire | with_reducible apply h.setManifest | with_reducible apply closed_dropReservations h | with_reducible apply closed_followOn h | intro _ | split

theorem closed_doneMove (h : CalmClosed P) (a : Nat) (b : Dock) (c : Bike) (d : Bool) (s : State) (hs : P s) :
    P (doneMove a b c d s) := by
  unfold doneMove
  try dsimp only
  repeat' first | with_reducible assumption | with_reducible apply h.setManifest | with_reducible apply closed_endManifest h | with_reducible apply closed_giveUp h | with_reducible apply closed_setMove h | intro _ | split

theorem closed_reportMove (h : CalmClosed P) (a : Nat) (b : CrewReport) (c : Dock) (d : Bike) (e : Move) (s : State) (hs : P s) :
    P (reportMove a b c d e s) := by
  unfold reportMove
  try dsimp only
  repeat' first | with_reducible assumption | with_reducible apply closed_doneMove h | with_reducible apply closed_setMove h | intro _ | split

theorem closed_crewReport (h : CalmClosed P) (a : Nat) (b : Nat) (c : CrewReport) (d : Dock) (e : Bike) (s : State) (hs : P s) :
    P (crewReport a b c d e s) := by
  unfold crewReport
  try dsimp only
  repeat' first | with_reducible assumption | with_reducible apply h.noteFollowOn | with_reducible apply closed_reportMove h | intro _ | split

theorem closed_matchDrop (h : CalmClosed P) (a : Dock) (b : Bike) (s : State) (hs : P s) :
    P (matchDrop a b s) := by
  unfold matchDrop
  try dsimp only
  repeat' first | with_reducible assumption | with_reducible apply closed_doneMove h | intro _ | split

theorem closed_setVanUnstamp (h : CalmClosed P) (a : Dock) (b : Option Bike) (s : State) (hs : P s) :
    P (s.setVanUnstamp a b) := by
  unfold State.setVanUnstamp
  try dsimp only
  repeat' first | with_reducible assumption | with_reducible apply h.setManifest | intro _ | split

theorem closed_vanDrop (h : CalmClosed P) (a : Dock) (b : Bike) (c : Nat) (s : State) (hs : P s) :
    P (vanDrop a b c s) := by
  unfold vanDrop
  try dsimp only
  repeat' first | with_reducible assumption | with_reducible apply closed_matchDrop h | with_reducible apply closed_placeDock h | with_reducible apply closed_setVanUnstamp h | intro _ | split

theorem closed_vanUnstampEnd (h : Closed P) (a : Dock) (b : Bike) (c : Bool) (s : State) (hs : P s) :
    P (vanUnstampEnd a b c s) := by
  unfold vanUnstampEnd
  try dsimp only
  repeat' first | with_reducible assumption | with_reducible apply closed_reportUnstamped h | with_reducible apply closed_setVanUnstamp h.toCalmClosed | intro _ | split

theorem closed_vanTick (h : CalmClosed P) (a : Dock) (s : State) (hs : P s) :
    P (vanTick a s) := by
  unfold vanTick
  try dsimp only
  repeat' first | with_reducible assumption | with_reducible apply closed_placeDock h | with_reducible apply closed_setVanUnstamp h | intro _ | split

theorem closed_setOccupancy (h : Closed P) (a : Dock) (b : Occupancy) (s : State) (hs : P s) :
    P (setOccupancy a b s) := by
  unfold setOccupancy
  try dsimp only
  repeat' first | with_reducible assumption | with_reducible apply h.setDock | with_reducible apply closed_selectLamp h.toLampClosed | with_reducible apply closed_tellOccupancy h.toCalmClosed | intro _ | split

theorem closed_emptyDock (h : Closed P) (a : Dock) (s : State) (hs : P s) :
    P (emptyDock a s) := by
  unfold emptyDock
  try dsimp only
  repeat' first | with_reducible assumption | with_reducible apply h.setDeferral | with_reducible apply h.setDock | with_reducible apply closed_selectLamp h.toLampClosed | with_reducible apply closed_tellOccupancy h.toCalmClosed | intro _ | split

theorem closed_evalMark (h : CalmClosed P) (a : Dock) (s : State) (hs : P s) :
    P (evalMark a s) := by
  unfold evalMark
  try dsimp only
  repeat' first | with_reducible assumption | with_reducible apply h.setFaultDock | with_reducible apply closed_placeDock h | intro _ | split

theorem closed_evalMarkOfBike (h : CalmClosed P) (a : Bike) (s : State) (hs : P s) :
    P (evalMarkOfBike a s) := by
  unfold evalMarkOfBike
  try dsimp only
  repeat' first | with_reducible assumption | with_reducible apply closed_evalMark h | intro _ | split

theorem closed_setUnmark (h : CalmClosed P) (a : Dock) (b : Bike) (s : State) (hs : P s) :
    P (setUnmark a b s) := by
  unfold setUnmark
  try dsimp only
  repeat' first | with_reducible assumption | with_reducible apply h.setFaultDock | with_reducible apply closed_evalMark h | intro _ | split

theorem closed_tellChange (h : CalmClosed P) (a : Subject) (b : Option Dock) (s : State) (hs : P s) :
    P (tellChange a b s) := by
  unfold tellChange
  try dsimp only
  repeat' first | with_reducible assumption | with_reducible apply closed_selectLamp h.toLampClosed | with_reducible apply closed_selectLampsOfBike h.toLampClosed | with_reducible apply closed_tellFault h | intro _ | split

theorem closed_activeEffects (h : CalmClosed P) (a : Subject) (b : FaultKind) (s : State) (hs : P s) :
    P (activeEffects a b s) := by
  unfold activeEffects
  try dsimp only
  repeat' first | with_reducible assumption | with_reducible apply h.mapFaultDocks | with_reducible apply h.buttonMask | with_reducible apply closed_evalMarkOfBike h | intro _ | split

theorem closed_confirmFault (h : CalmClosed P) (a : FaultRecord) (s : State) (hs : P s) :
    P (confirmFault a s) := by
  unfold confirmFault
  try dsimp only
  repeat' first | with_reducible assumption | with_reducible apply h.setFault | with_reducible apply closed_activeEffects h | with_reducible apply closed_tellChange h | intro _ | split

theorem closed_removeFault (h : CalmClosed P) (a : FaultRecord) (s : State) (hs : P s) :
    P (removeFault a s) := by
  unfold removeFault
  try dsimp only
  repeat' first | with_reducible assumption | with_reducible apply h.filterFaults | with_reducible apply h.buttonMask | with_reducible apply closed_tellChange h | intro _ | split

theorem closed_retireFault (h : CalmClosed P) (a : FaultRecord) (s : State) (hs : P s) :
    P (retireFault a s) := by
  unfold retireFault
  try dsimp only
  repeat' first | with_reducible assumption | with_reducible apply h.setFaultFull | with_reducible apply closed_removeFault h | intro _ | split

theorem closed_createSuspect (h : CalmClosed P) (a : Subject) (b : FaultKind) (c : Nat) (d : List CardNo) (s : State) (hs : P s) :
    P (createSuspect a b c d s) := by
  unfold createSuspect
  try dsimp only
  repeat' first | with_reducible assumption | with_reducible apply h.addFault | with_reducible apply closed_tellChange h | intro _ | split

theorem closed_makeRoom (h : CalmClosed P) (s t : State) (hs : P s) (ht : makeRoom s = some t) : P t := by
  unfold makeRoom at ht
  split at ht
  · exact Option.some.inj ht ▸ hs
  · split at ht
    · exact Option.some.inj ht ▸ closed_removeFault h _ s hs
    · cases ht

theorem closed_createActiveIn (h : CalmClosed P) (a : Subject) (b : FaultKind) (c : List CardNo) (s : State) (hs : P s) :
    P (createActiveIn a b c s) := by
  unfold createActiveIn
  try dsimp only
  repeat' first | with_reducible assumption | with_reducible apply h.addFault | with_reducible apply closed_activeEffects h | with_reducible apply closed_tellChange h | intro _ | split

theorem closed_createActive (h : CalmClosed P) (a : Subject) (b : FaultKind) (c : List CardNo) (s : State) (hs : P s) :
    P (createActive a b c s) := by
  unfold createActive
  try dsimp only
  repeat' first | with_reducible assumption | with_reducible apply h.setFaultFull | with_reducible apply closed_makeRoom h _ _ hs ‹_› | with_reducible apply closed_createActiveIn h | intro _ | split

theorem closed_judgeKind (h : CalmClosed P) (a : Dock) (b : FaultKind) (c : Nat) (d : Bool) (s : State) (hs : P s) :
    P (judgeKind a b c d s) := by
  unfold judgeKind
  try dsimp only
  repeat' first | with_reducible assumption | with_reducible apply h.setFault | with_reducible apply closed_confirmFault h | with_reducible apply closed_createSuspect h | with_reducible apply closed_retireFault h | intro _ | split

theorem closed_riderReport (h : CalmClosed P) (a : Bike) (b : CardNo) (s : State) (hs : P s) :
    P (riderReport a b s) := by
  unfold riderReport
  try dsimp only
  repeat' first | with_reducible assumption | with_reducible apply h.setFault | with_reducible apply closed_confirmFault h | with_reducible apply closed_createActive h | with_reducible apply closed_createSuspect h | intro _ | split

theorem closed_pressButton (h : CalmClosed P) (a : Dock) (s : State) (hs : P s) :
    P (pressButton a s) := by
  unfold pressButton
  try dsimp only
  repeat' first | with_reducible assumption | with_reducible apply h.setFaultDock | with_reducible apply closed_riderReport h | intro _ | split

theorem closed_sensedSet (h : CalmClosed P) (a : Dock) (b : SensedSet) (s : State) (hs : P s) :
    P (sensedSet a b s) := by
  unfold sensedSet
  try dsimp only
  repeat' first | with_reducible assumption | with_reducible apply h.setFaultDock | with_reducible apply closed_judgeKind h | with_reducible apply closed_pressButton h | intro _ | split

theorem closed_forcedRemoval (h : CalmClosed P) (a : Dock) (s : State) (hs : P s) :
    P (forcedRemoval a s) := by
  unfold forcedRemoval
  try dsimp only
  repeat' first | with_reducible assumption | with_reducible apply closed_confirmFault h | with_reducible apply closed_createActive h | intro _ | split

theorem closed_tagFailed (h : CalmClosed P) (a : Dock) (s : State) (hs : P s) :
    P (tagFailed a s) := by
  unfold tagFailed
  try dsimp only
  repeat' first | with_reducible assumption | with_reducible apply h.setFaultDock | intro _ | split

theorem closed_conditionFault (h : CalmClosed P) (a : Subject) (b : FaultKind) (c : Bool) (s : State) (hs : P s) :
    P (conditionFault a b c s) := by
  unfold conditionFault
  try dsimp only
  repeat' first | with_reducible assumption | with_reducible apply closed_createActive h | with_reducible apply closed_retireFault h | intro _ | split

theorem closed_importMark (h : CalmClosed P) (a : Dock) (b : Bike) (s : State) (hs : P s) :
    P (importMark a b s) := by
  unfold importMark
  try dsimp only
  repeat' first | with_reducible assumption | with_reducible apply closed_createActive h | intro _ | split

theorem closed_openReport (h : CalmClosed P) (a : Dock) (b : Bike) (c : CardNo) (s : State) (hs : P s) :
    P (openReport a b c s) := by
  unfold openReport
  try dsimp only
  repeat' first | with_reducible assumption | with_reducible apply h.setFaultDock | intro _ | split

theorem closed_serviceClear (h : CalmClosed P) (a : Dock) (s : State) (hs : P s) :
    P (serviceClear a s) := by
  unfold serviceClear
  try dsimp only
  repeat' first | with_reducible assumption | with_reducible apply h.noteManifest | with_reducible apply closed_retireFault h | with_reducible apply closed_setUnmark h | with_reducible apply closed_foldl (P := P) | intro _ | split

theorem closed_markEnd (h : Closed P) (a : Dock) (b : Bike) (c : Bool) (d : Bool) (s : State) (hs : P s) :
    P (markEnd a b c d s) := by
  unfold markEnd
  try dsimp only
  repeat' first | with_reducible assumption | with_reducible apply h.setFaultDock | with_reducible apply closed_reportMarked h | intro _ | split

theorem closed_dropStaleUnmark (h : CalmClosed P) (a : Dock) (s : State) (hs : P s) :
    P (dropStaleUnmark a s) := by
  unfold dropStaleUnmark
  try dsimp only
  repeat' first | with_reducible assumption | with_reducible apply h.setFaultDock | intro _ | split

theorem closed_faultTick (h : CalmClosed P) (s : State) (hs : P s) :
    P (faultTick s) := by
  unfold faultTick
  try dsimp only
  repeat' first | with_reducible assumption | with_reducible apply closed_dropStaleUnmark h | with_reducible apply closed_evalMark h | with_reducible apply closed_foldl (P := P) | intro _ | split

theorem closed_cardWaiting (h : CalmClosed P) (a : CardNo) (b : Dock) (s : State) (hs : P s) :
    P (cardWaiting a b s) := by
  unfold cardWaiting
  try dsimp only
  repeat' first | with_reducible assumption | with_reducible apply h.setCard | intro _ | split

theorem closed_cardWithdrawn (h : CalmClosed P) (a : CardNo) (s : State) (hs : P s) :
    P (cardWithdrawn a s) := by
  unfold cardWithdrawn
  try dsimp only
  repeat' first | with_reducible assumption | with_reducible apply h.setCard | intro _ | split

theorem closed_cardLink (h : CalmClosed P) (a : CardNo) (b : Dock) (c : Bike) (d : Time) (s : State) (hs : P s) :
    P (cardLink a b c d s) := by
  unfold cardLink
  try dsimp only
  repeat' first | with_reducible assumption | with_reducible apply h.setCard | intro _ | split

theorem closed_cardPulled (h : CalmClosed P) (a : CardNo) (s : State) (hs : P s) :
    P (cardPulled a s) := by
  unfold cardPulled
  try dsimp only
  repeat' first | with_reducible assumption | with_reducible apply h.setCard | intro _ | split

theorem closed_cardFree (h : CalmClosed P) (a : CardNo) (b : Bike) (c : Time) (d : Option Nat) (s : State) (hs : P s) :
    P (cardFree a b c d s).1 := by
  unfold cardFree
  try dsimp only
  repeat' first | with_reducible assumption | with_reducible apply h.setCard | intro _ | split

theorem closed_cardRelink (h : CalmClosed P) (a : CardNo) (b : Bike) (c : Time) (s : State) (hs : P s) :
    P (cardRelink a b c s).1 := by
  unfold cardRelink
  try dsimp only
  repeat' first | with_reducible assumption | with_reducible apply h.setCard | intro _ | split

theorem closed_loadRecord (h : CalmClosed P) (a : CardRecord) (s : State) (hs : P s) :
    P (loadRecord a s).2 := by
  unfold loadRecord
  try dsimp only
  repeat' first | with_reducible assumption | with_reducible apply h.addCard | with_reducible apply h.setCard | intro _ | split

theorem closed_retireRefer (h : CalmClosed P) (a : CardNo) (s : State) (hs : P s) :
    P (retireRefer a s) := by
  unfold retireRefer
  try dsimp only
  repeat' first | with_reducible assumption | with_reducible apply h.dropRefer | with_reducible apply closed_selectLamp h.toLampClosed | intro _ | split

theorem closed_missTap (h : CalmClosed P) (a : CardNo) (b : Dock) (s : State) (hs : P s) :
    P (missTap a b s) := by
  unfold missTap
  try dsimp only
  repeat' first | with_reducible assumption | with_reducible apply h.addRefer | with_reducible apply h.setRefer | with_reducible apply closed_selectLamp h.toLampClosed | with_reducible apply closed_showRefusal h.toLampClosed | intro _ | split

theorem closed_cardTick (h : CalmClosed P) (s : State) (hs : P s) :
    P (cardTick s) := by
  unfold cardTick
  try dsimp only
  repeat' first | with_reducible assumption | with_reducible apply h.mapCards | intro _ | split

theorem closed_placeTerminal (h : CalmClosed P) (a : Verb) (b : List Byte) (s : State) (hs : P s) :
    P (placeTerminal a b s) := by
  unfold placeTerminal
  try dsimp only
  repeat' first | with_reducible assumption | with_reducible apply closed_place h | intro _ | split

theorem closed_settlementStep (h : CalmClosed P) (s : State) (hs : P s) :
    P (settlementStep s) := by
  unfold settlementStep
  try dsimp only
  repeat' first | with_reducible assumption | with_reducible apply h.setTerminal | with_reducible apply closed_placeTerminal h | intro _ | split

theorem closed_terminalSurvey (h : CalmClosed P) (a : Byte) (s : State) (hs : P s) :
    P (terminalSurvey a s) := by
  unfold terminalSurvey
  try dsimp only
  repeat' first | with_reducible assumption | with_reducible apply closed_placeTerminal h | with_reducible apply closed_settlementStep h | intro _ | split

theorem closed_replySale (h : CalmClosed P) (a : Nat) (b : SaleOutcome) (s : State) (hs : P s) :
    P (replySale a b s) := by
  unfold replySale
  try dsimp only
  repeat' first | with_reducible assumption | with_reducible apply closed_placeTerminal h | intro _ | split

theorem closed_saleRead (h : CalmClosed P) (a : Sale) (s : State) (hs : P s) :
    P (saleRead a s) := by
  unfold saleRead
  try dsimp only
  repeat' first | with_reducible assumption | with_reducible apply h.addCard | with_reducible apply h.setTerminal | with_reducible apply closed_replySale h | intro _ | split

theorem closed_settleEnd (h : CalmClosed P) (a : Bool) (s : State) (hs : P s) :
    P (settleEnd a s) := by
  unfold settleEnd
  try dsimp only
  repeat' first | with_reducible assumption | with_reducible apply h.dropCard | with_reducible apply h.setTerminal | intro _ | split

theorem closed_tripOut (h : CalmClosed P) (a : Bike) (b : Bool) (s : State) (hs : P s) :
    P (tripOut a b s) := by
  unfold tripOut
  try dsimp only
  repeat' first | with_reducible assumption | with_reducible apply closed_moveTrip h | intro _ | split

theorem closed_startRelease (h : Closed P) (a : Dock) (b : ReleaseContext) (c : List Byte) (d : (State → State)) (s : State) (hf : ∀ s, P s → P (d s)) (hs : P s) :
    P (startRelease a b c d s) := by
  unfold startRelease
  try dsimp only
  repeat' first | with_reducible assumption | with_reducible apply h.setCancel | with_reducible apply h.setRelease | with_reducible apply h.setToken | with_reducible apply hf | with_reducible apply closed_placeDock h.toCalmClosed | with_reducible apply closed_setOccupancy h | intro _ | split

theorem closed_grantMember (h : Closed P) (a : Dock) (b : Bike) (c : CardEntry) (s : State) (hs : P s) :
    P (grantMember a b c s) := by
  unfold grantMember
  try dsimp only
  repeat' first | with_reducible assumption | with_reducible apply h.addTrip | with_reducible apply closed_cardLink h.toCalmClosed | with_reducible apply closed_startRelease h | intro _ | split

theorem closed_grantCrew (h : Closed P) (a : Dock) (b : Bike) (c : CardNo) (d : Nat) (s : State) (hs : P s) :
    P (grantCrew a b c d s) := by
  unfold grantCrew
  try dsimp only
  repeat' first | with_reducible assumption | with_reducible apply closed_crewReport h.toCalmClosed | with_reducible apply closed_startRelease h | intro _ | split

theorem closed_dropRequest (h : CalmClosed P) (a : HireRequest) (b : Nat) (s : State) (hs : P s) :
    P (dropRequest a b s) := by
  unfold dropRequest
  try dsimp only
  repeat' first | with_reducible assumption | with_reducible apply closed_cardWithdrawn h | with_reducible apply closed_crewReport h | with_reducible apply closed_showRefusal h.toLampClosed | intro _ | split

theorem closed_grantHead (h : Closed P) (a : HireRequest) (s : State) (hs : P s) :
    P (grantHead a s) := by
  unfold grantHead
  try dsimp only
  repeat' first | with_reducible assumption | with_reducible apply closed_dropRequest h.toCalmClosed | with_reducible apply closed_grantCrew h | with_reducible apply closed_grantMember h | intro _ | split

theorem closed_grantLoop (h : Closed P) : ∀ (n : Nat) (s : State), P s → P (grantLoop n s)
  | 0, _, hs => hs
  | n + 1, s, hs => by
    unfold grantLoop
    split
    · exact hs
    · split
      · exact closed_grantLoop h n _ (closed_grantHead h _ _ (h.popHire s hs))
      · exact hs

theorem closed_grantPass (h : Closed P) (s : State) (hs : P s) :
    P (grantPass s) := by
  unfold grantPass
  try dsimp only
  repeat' first | with_reducible assumption | with_reducible apply closed_grantLoop h | intro _ | split

theorem closed_decideTap (h : Closed P) (a : CardEntry) (b : Dock) (s : State) (hs : P s) :
    P (decideTap a b s).1 := by
  unfold decideTap
  try dsimp only
  repeat' first | with_reducible assumption | with_reducible apply h.joinHire | with_reducible apply closed_cardWaiting h.toCalmClosed | with_reducible apply closed_grantPass h | with_reducible apply closed_showRefusal h.toLampClosed | intro _ | split

theorem closed_crewRequest (h : Closed P) (a : Dock) (b : CardNo) (c : Nat) (s : State) (hs : P s) :
    P (crewRequest a b c s).1 := by
  unfold crewRequest
  try dsimp only
  repeat' first | with_reducible assumption | with_reducible apply h.joinHire | with_reducible apply closed_grantPass h | with_reducible apply closed_showRefusal h.toLampClosed | intro _ | split

theorem closed_crewTap (h : Closed P) (a : CardNo) (b : Dock) (s : State) (hs : P s) :
    P (crewTap a b s).1 := by
  unfold crewTap
  try dsimp only
  repeat' first | with_reducible assumption | with_reducible apply closed_crewRequest h | with_reducible apply closed_serviceClear h.toCalmClosed | with_reducible apply closed_showRefusal h.toLampClosed | intro _ | split

theorem closed_hitTap (h : Closed P) (a : CardEntry) (b : Dock) (s : State) (hs : P s) :
    P (hitTap a b s).1 := by
  unfold hitTap
  try dsimp only
  repeat' first | with_reducible assumption | with_reducible apply closed_crewTap h | with_reducible apply closed_decideTap h | with_reducible apply closed_showRefusal h.toLampClosed | intro _ | split

theorem closed_takeTap (h : Closed P) (a : CardNo) (b : Dock) (s : State) (hs : P s) :
    P (takeTap a b s) := by
  unfold takeTap
  try dsimp only
  repeat' first | with_reducible assumption | with_reducible apply closed_hitTap h | with_reducible apply closed_missTap h.toCalmClosed | with_reducible apply closed_retireRefer h.toCalmClosed | intro _ | split

theorem closed_freeToken (h : Closed P) (a : Fin 3) (s : State) (hs : P s) :
    P (freeToken a s) := by
  unfold freeToken
  try dsimp only
  repeat' first | with_reducible assumption | with_reducible apply h.setToken | with_reducible apply closed_grantPass h | intro _ | split

theorem closed_stampedToken (h : Closed P) (a : Dock) (b : Bool) (s : State) (hs : P s) :
    P (stampedToken a b s) := by
  unfold stampedToken
  try dsimp only
  repeat' first | with_reducible assumption | with_reducible apply h.setToken | with_reducible apply closed_freeToken h | intro _ | split

theorem closed_undoRelease (h : Closed P) (a : Dock) (b : ReleaseContext) (s : State) (hs : P s) :
    P (undoRelease a b s) := by
  unfold undoRelease
  try dsimp only
  repeat' first | with_reducible assumption | with_reducible apply h.setRelease | with_reducible apply closed_cardFree h.toCalmClosed | with_reducible apply closed_crewReport h.toCalmClosed | with_reducible apply closed_dropTrip h.toCalmClosed | with_reducible apply closed_setOccupancy h | with_reducible apply closed_showRefusal h.toLampClosed | intro _ | split

theorem closed_stampEnd (h : Closed P) (a : Dock) (b : Bike) (c : Bool) (s : State) (hs : P s) :
    P (stampEnd a b c s) := by
  unfold stampEnd
  try dsimp only
  repeat' first | with_reducible assumption | with_reducible apply h.setRelease | with_reducible apply closed_placeDock h.toCalmClosed | with_reducible apply closed_reportStamped h | with_reducible apply closed_stampedToken h | with_reducible apply closed_undoRelease h | intro _ | split

theorem closed_releaseEnd (h : CalmClosed P) (a : Dock) (b : Bike) (c : Nat) (s : State) (hs : P s) :
    P (releaseEnd a b c s) := by
  unfold releaseEnd
  try dsimp only
  repeat' first | with_reducible assumption | with_reducible apply h.setRelease | with_reducible apply h.setToken | intro _ | split

theorem closed_cancelRelease (h : Closed P) (a : Dock) (b : ReleaseContext) (s : State) (hs : P s) :
    P (cancelRelease a b s) := by
  unfold cancelRelease
  try dsimp only
  repeat' first | with_reducible assumption | with_reducible apply h.setCancel | with_reducible apply h.setRelease | with_reducible apply closed_cardFree h.toCalmClosed | with_reducible apply closed_crewReport h.toCalmClosed | with_reducible apply closed_moveTrip h.toCalmClosed | with_reducible apply closed_placeDock h.toCalmClosed | with_reducible apply closed_setOccupancy h | with_reducible apply closed_showRefusal h.toLampClosed | intro _ | split

theorem closed_cancelFlag (h : CalmClosed P) (a : Dock) (b : Bike) (c : (CancelContext → CancelContext)) (s : State) (hs : P s) :
    P (cancelFlag a b c s) := by
  unfold cancelFlag
  try dsimp only
  repeat' first | with_reducible assumption | with_reducible apply h.setCancel | intro _ | split

theorem closed_relockEnd (h : CalmClosed P) (a : Dock) (b : Bike) (c : Bool) (s : State) (hs : P s) :
    P (relockEnd a b c s) := by
  unfold relockEnd
  try dsimp only
  repeat' first | with_reducible assumption | with_reducible apply closed_cancelFlag h | intro _ | split

theorem closed_retireCancelled (h : CalmClosed P) (a : Dock) (b : Bike) (s : State) (hs : P s) :
    P (retireCancelled a b s) := by
  unfold retireCancelled
  try dsimp only
  repeat' first | with_reducible assumption | with_reducible apply closed_dropTrip h | intro _ | split

theorem closed_hireUnstampEnd (h : Closed P) (a : Dock) (b : Bike) (c : Bool) (s : State) (hs : P s) :
    P (hireUnstampEnd a b c s) := by
  unfold hireUnstampEnd
  try dsimp only
  repeat' first | with_reducible assumption | with_reducible apply closed_cancelFlag h.toCalmClosed | with_reducible apply closed_reportUnstamped h | with_reducible apply closed_retireCancelled h.toCalmClosed | intro _ | split

theorem closed_cancelTick (h : CalmClosed P) (a : Dock) (s : State) (hs : P s) :
    P (cancelTick a s) := by
  unfold cancelTick
  try dsimp only
  repeat' first | with_reducible assumption | with_reducible apply closed_placeDock h | intro _ | split

theorem closed_stillPresent (h : Closed P) (a : Dock) (s : State) (hs : P s) :
    P (stillPresent a s) := by
  unfold stillPresent
  try dsimp only
  repeat' first | with_reducible assumption | with_reducible apply h.setRelease | with_reducible apply closed_cancelRelease h | intro _ | split

theorem closed_pullRelease (h : CalmClosed P) (a : Dock) (b : ReleaseContext) (s : State) (hs : P s) :
    P (pullRelease a b s) := by
  unfold pullRelease
  try dsimp only
  repeat' first | with_reducible assumption | with_reducible apply h.setRelease | with_reducible apply closed_cardPulled h | with_reducible apply closed_crewReport h | with_reducible apply closed_tripOut h | intro _ | split

theorem closed_abandonRelease (h : CalmClosed P) (a : Dock) (b : ReleaseContext) (s : State) (hs : P s) :
    P (abandonRelease a b s) := by
  unfold abandonRelease
  try dsimp only
  repeat' first | with_reducible assumption | with_reducible apply h.setRelease | with_reducible apply closed_cardFree h | with_reducible apply closed_crewReport h | with_reducible apply closed_dropTrip h | with_reducible apply closed_forcedRemoval h | intro _ | split

theorem closed_releaseDeparture (h : CalmClosed P) (a : Dock) (s : State) (hs : P s) :
    P (releaseDeparture a s) := by
  unfold releaseDeparture
  try dsimp only
  repeat' first | with_reducible assumption | with_reducible apply closed_abandonRelease h | with_reducible apply closed_pullRelease h | intro _ | split

theorem closed_dropCancelOf (h : CalmClosed P) (a : Bike) (s : State) (hs : P s) :
    P (dropCancelOf a s) := by
  unfold dropCancelOf
  try dsimp only
  repeat' first | with_reducible assumption | with_reducible apply h.setCancel | with_reducible apply closed_foldl (P := P) | intro _ | split

theorem closed_latePullTrip (h : CalmClosed P) (a : TripRecord) (s : State) (hs : P s) :
    P (latePullTrip a s) := by
  unfold latePullTrip
  try dsimp only
  repeat' first | with_reducible assumption | with_reducible apply h.setTrip | with_reducible apply closed_cardRelink h | with_reducible apply closed_dropCancelOf h | with_reducible apply closed_tripOut h | intro _ | split

theorem closed_crewDeparture (h : CalmClosed P) (a : Dock) (b : Bike) (s : State) (hs : P s) :
    P (crewDeparture a b s) := by
  unfold crewDeparture
  try dsimp only
  repeat' first | with_reducible assumption | with_reducible apply closed_dropCancelOf h | with_reducible apply closed_crewReport h | with_reducible apply closed_forcedRemoval h | intro _ | split

theorem closed_occupiedDeparture (h : CalmClosed P) (a : Dock) (s : State) (hs : P s) :
    P (occupiedDeparture a s) := by
  unfold occupiedDeparture
  try dsimp only
  repeat' first | with_reducible assumption | with_reducible apply closed_crewDeparture h | with_reducible apply closed_forcedRemoval h | with_reducible apply closed_latePullTrip h | intro _ | split

theorem closed_dropQueued (h : CalmClosed P) (a : (HireRequest → Bool)) (s : State) (hs : P s) :
    P (dropQueued a s) := by
  unfold dropQueued
  try dsimp only
  repeat' first | with_reducible assumption | with_reducible apply h.filterHire | with_reducible apply closed_dropRequest h | with_reducible apply closed_foldl (P := P) | intro _ | split

theorem closed_supplyChanged (h : Closed P) (s : State) (hs : P s) :
    P (supplyChanged s) := by
  unfold supplyChanged
  try dsimp only
  repeat' first | with_reducible assumption | with_reducible apply closed_dropQueued h.toCalmClosed | with_reducible apply closed_grantPass h | intro _ | split

theorem closed_queueUnstamp (h : CalmClosed P) (a : Dock) (b : Bike) (s : State) (hs : P s) :
    P (queueUnstamp a b s) := by
  unfold queueUnstamp
  try dsimp only
  repeat' first | with_reducible assumption | with_reducible apply h.setTrip | with_reducible apply closed_placeDock h | intro _ | split

theorem closed_tripUnstampEnd (h : Closed P) (a : Dock) (b : Bike) (c : Bool) (s : State) (hs : P s) :
    P (tripUnstampEnd a b c s) := by
  unfold tripUnstampEnd
  try dsimp only
  repeat' first | with_reducible assumption | with_reducible apply h.setTrip | with_reducible apply closed_dropTrip h.toCalmClosed | with_reducible apply closed_reportUnstamped h | intro _ | split

theorem closed_tripTickOne (h : CalmClosed P) (a : TripRecord) (s : State) (hs : P s) :
    P (tripTickOne a s) := by
  unfold tripTickOne
  try dsimp only
  repeat' first | with_reducible assumption | with_reducible apply closed_queueUnstamp h | intro _ | split

theorem closed_tripTick (h : CalmClosed P) (s : State) (hs : P s) :
    P (tripTick s) := by
  unfold tripTick
  try dsimp only
  repeat' first | with_reducible assumption | with_reducible apply closed_tripTickOne h | with_reducible apply closed_foldl (P := P) | intro _ | split

theorem closed_deferArrival (h : Closed P) (a : Dock) (b : Bike) (c : StampFields) (s : State) (hs : P s) :
    P (deferArrival a b c s) := by
  unfold deferArrival
  try dsimp only
  repeat' first | with_reducible assumption | with_reducible apply h.setDeferral | with_reducible apply closed_reportUnpriced h | intro _ | split

theorem closed_finishPricing (h : Closed P) (a : Dock) (b : Bike) (s : State) (hs : P s) :
    P (finishPricing a b s) := by
  unfold finishPricing
  try dsimp only
  repeat' first | with_reducible assumption | with_reducible apply h.setDeferral | with_reducible apply closed_queueUnstamp h.toCalmClosed | with_reducible apply closed_reportUnpriced h | intro _ | split

theorem closed_priceInPlace (h : Closed P) (a : Dock) (b : Bike) (c : StampFields) (s : State) (hs : P s) :
    P (priceInPlace a b c s) := by
  unfold priceInPlace
  try dsimp only
  repeat' first | with_reducible assumption | with_reducible apply closed_cardFree h.toCalmClosed | with_reducible apply closed_deferArrival h | with_reducible apply closed_finishPricing h | with_reducible apply closed_moveTrip h.toCalmClosed | intro _ | split

theorem closed_priceForeign (h : Closed P) (a : Dock) (b : Bike) (c : StampFields) (s : State) (hs : P s) :
    P (priceForeign a b c s) := by
  unfold priceForeign
  try dsimp only
  repeat' first | with_reducible assumption | with_reducible apply h.addTrip | with_reducible apply closed_deferArrival h | with_reducible apply closed_finishPricing h | intro _ | split

theorem closed_clearDeferred (h : Closed P) (a : Dock) (b : Bike) (s : State) (hs : P s) :
    P (clearDeferred a b s) := by
  unfold clearDeferred
  try dsimp only
  repeat' first | with_reducible assumption | with_reducible apply h.setDeferral | with_reducible apply closed_reportUnpriced h | with_reducible apply closed_foldl (P := P) | intro _ | split

theorem closed_emptyReleaseDock (h : Closed P) (a : Option Dock) (b : Bike) (s : State) (hs : P s) :
    P (emptyReleaseDock a b s) := by
  unfold emptyReleaseDock
  try dsimp only
  repeat' first | with_reducible assumption | with_reducible apply closed_emptyDock h | intro _ | split

theorem closed_endByArrival (h : Closed P) (a : TripRecord) (s : State) (hs : P s) :
    P (endByArrival a s) := by
  unfold endByArrival
  try dsimp only
  repeat' first | with_reducible assumption | with_reducible apply closed_emptyReleaseDock h | with_reducible apply closed_latePullTrip h.toCalmClosed | with_reducible apply closed_pullRelease h.toCalmClosed | with_reducible apply closed_tripOut h.toCalmClosed | intro _ | split

theorem closed_supersede (h : CalmClosed P) (a : TripRecord) (s : State) (hs : P s) :
    P (supersede a s) := by
  unfold supersede
  try dsimp only
  repeat' first | with_reducible assumption | with_reducible apply closed_cardFree h | with_reducible apply closed_dropTrip h | intro _ | split

theorem closed_arrivalCases (h : Closed P) (a : Dock) (b : Bike) (c : StampFields) (s : State) (hs : P s) :
    P (arrivalCases a b c s) := by
  unfold arrivalCases
  try dsimp only
  repeat' first | with_reducible assumption | with_reducible apply closed_deferArrival h | with_reducible apply closed_endByArrival h | with_reducible apply closed_priceForeign h | with_reducible apply closed_priceInPlace h | with_reducible apply closed_queueUnstamp h.toCalmClosed | with_reducible apply closed_supersede h.toCalmClosed | intro _ | split

theorem closed_handleArrival (h : Closed P) (a : Dock) (b : Bike) (c : StampFields) (s : State) (hs : P s) :
    P (handleArrival a b c s) := by
  unfold handleArrival
  try dsimp only
  repeat' first | with_reducible assumption | with_reducible apply closed_arrivalCases h | with_reducible apply closed_clearDeferred h | intro _ | split

theorem closed_tripArrival (h : Closed P) (a : Dock) (b : Bike) (c : StampFields) (s : State) (hs : P s) :
    P (tripArrival a b c s) := by
  unfold tripArrival
  try dsimp only
  repeat' first | with_reducible assumption | with_reducible apply closed_handleArrival h | with_reducible apply closed_openReport h.toCalmClosed | intro _ | split

theorem closed_retryDock (h : Closed P) (a : Dock) (s : State) (hs : P s) :
    P (retryDock a s) := by
  unfold retryDock
  try dsimp only
  repeat' first | with_reducible assumption | with_reducible apply h.setDeferral | with_reducible apply closed_handleArrival h | with_reducible apply closed_reportUnpriced h | intro _ | split

theorem closed_retryPass (h : Closed P) (s : State) (hs : P s) :
    P (retryPass s) := by
  unfold retryPass
  try dsimp only
  repeat' first | with_reducible assumption | with_reducible apply closed_retryDock h | with_reducible apply closed_foldl (P := P) | intro _ | split

theorem closed_watchReport (h : CalmClosed P) (a : Dock) (b : Option Bike) (s : State) (hs : P s) :
    P (watchReport a b s) := by
  unfold watchReport
  try dsimp only
  repeat' first | with_reducible assumption | with_reducible apply closed_moveTrip h | with_reducible apply closed_foldl (P := P) | intro _ | split

theorem closed_queueTagread (h : CalmClosed P) (a : Dock) (s : State) (hs : P s) :
    P (queueTagread a s) := by
  unfold queueTagread
  try dsimp only
  repeat' first | with_reducible assumption | with_reducible apply closed_placeDock h | intro _ | split

theorem closed_arrival (h : Closed P) (a : Dock) (s : State) (hs : P s) :
    P (arrival a s) := by
  unfold arrival
  try dsimp only
  repeat' first | with_reducible assumption | with_reducible apply h.noteManifest | with_reducible apply h.setDeferral | with_reducible apply h.setDock | with_reducible apply closed_queueTagread h.toCalmClosed | with_reducible apply closed_tellArrival h.toCalmClosed | intro _ | split

theorem closed_departure (h : Closed P) (a : Dock) (s : State) (hs : P s) :
    P (departure a s) := by
  unfold departure
  try dsimp only
  repeat' first | with_reducible assumption | with_reducible apply closed_emptyDock h | with_reducible apply closed_occupiedDeparture h.toCalmClosed | with_reducible apply closed_releaseDeparture h.toCalmClosed | intro _ | split

theorem closed_foundEmpty (h : Closed P) (a : Dock) (s : State) (hs : P s) :
    P (foundEmpty a s) := by
  unfold foundEmpty
  try dsimp only
  repeat' first | with_reducible assumption | with_reducible apply h.setDock | with_reducible apply closed_tellOccupancy h.toCalmClosed | intro _ | split

theorem closed_presence (h : Closed P) (a : Dock) (b : Bool) (c : Bool) (s : State) (hs : P s) :
    P (presence a b c s) := by
  unfold presence
  try dsimp only
  repeat' first | with_reducible assumption | with_reducible apply closed_arrival h | with_reducible apply closed_departure h | with_reducible apply closed_foundEmpty h | with_reducible apply closed_queueTagread h.toCalmClosed | with_reducible apply closed_stillPresent h | intro _ | split

theorem closed_surveyAnswer (h : Closed P) (a : Dock) (b : Byte) (c : Bool) (s : State) (hs : P s) :
    P (surveyAnswer a b c s) := by
  unfold surveyAnswer
  try dsimp only
  repeat' first | with_reducible assumption | with_reducible apply h.setDock | with_reducible apply closed_placeDock h.toCalmClosed | with_reducible apply closed_presence h | with_reducible apply closed_selectLamp h.toLampClosed | with_reducible apply closed_sensedSet h.toCalmClosed | with_reducible apply closed_watchReport h.toCalmClosed | intro _ | split

theorem closed_noteButton (h : Closed P) (a : Dock) (b : Byte) (s : State) (hs : P s) :
    P (noteButton a b s) := by
  unfold noteButton
  try dsimp only
  repeat' first | with_reducible assumption | with_reducible apply h.setDock | intro _ | split

theorem closed_tapAnswer (h : Closed P) (a : Dock) (b : List Byte) (s : State) (hs : P s) :
    P (tapAnswer a b s) := by
  unfold tapAnswer
  try dsimp only
  repeat' first | with_reducible assumption | with_reducible apply h.setDock | with_reducible apply closed_takeTap h | intro _ | split

theorem closed_takeTag (h : Closed P) (a : Dock) (b : TagImage) (s : State) (hs : P s) :
    P (takeTag a b s) := by
  unfold takeTag
  try dsimp only
  repeat' first | with_reducible assumption | with_reducible apply h.setDock | with_reducible apply closed_importMark h.toCalmClosed | with_reducible apply closed_selectLamp h.toLampClosed | with_reducible apply closed_tellBikeNumber h.toCalmClosed | with_reducible apply closed_tripArrival h | with_reducible apply closed_vanDrop h.toCalmClosed | with_reducible apply closed_watchReport h.toCalmClosed | intro _ | split

theorem closed_tagAnswer (h : Closed P) (a : Dock) (b : List Byte) (s : State) (hs : P s) :
    P (tagAnswer a b s) := by
  unfold tagAnswer
  try dsimp only
  repeat' first | with_reducible assumption | with_reducible apply closed_tagFailed h.toCalmClosed | with_reducible apply closed_takeTag h | intro _ | split

theorem closed_showEnd (h : Closed P) (a : Dock) (b : List Byte) (c : Bool) (s : State) (hs : P s) :
    P (showEnd a b c s) := by
  unfold showEnd
  try dsimp only
  repeat' first | with_reducible assumption | with_reducible apply h.setDock | intro _ | split

theorem closed_broadcastShown (h : Closed P) (a : List Byte) (s : State) (hs : P s) :
    P (broadcastShown a s) := by
  unfold broadcastShown
  try dsimp only
  repeat' first | with_reducible assumption | with_reducible apply h.mapDocks | intro _ | split

theorem closed_unstampOutcome (h : Closed P) (a : Dock) (b : Bool) (c : Originator) (s : State) (hs : P s) :
    P (unstampOutcome a b c s) := by
  unfold unstampOutcome
  try dsimp only
  repeat' first | with_reducible assumption | with_reducible apply closed_hireUnstampEnd h | with_reducible apply closed_tripUnstampEnd h | with_reducible apply closed_vanUnstampEnd h | intro _ | split

theorem closed_dockOutcome (h : Closed P) (a : Dock) (b : QueueEntry) (c : Option Answer) (d : Bool) (e : Originator) (s : State) (hs : P s) :
    P (dockOutcome a b c d e s) := by
  unfold dockOutcome
  try dsimp only
  repeat' first | with_reducible assumption | with_reducible apply closed_markEnd h | with_reducible apply closed_releaseEnd h.toCalmClosed | with_reducible apply closed_relockEnd h.toCalmClosed | with_reducible apply closed_showEnd h | with_reducible apply closed_stampEnd h | with_reducible apply closed_surveyAnswer h | with_reducible apply closed_tagAnswer h | with_reducible apply closed_tapAnswer h | with_reducible apply closed_unstampOutcome h | intro _ | split

theorem closed_terminalOutcome (h : CalmClosed P) (a : QueueEntry) (b : Option Answer) (s : State) (hs : P s) :
    P (terminalOutcome a b s) := by
  unfold terminalOutcome
  try dsimp only
  repeat' first | with_reducible assumption | with_reducible apply closed_saleRead h | with_reducible apply closed_settleEnd h | with_reducible apply closed_terminalSurvey h | intro _ | split

theorem closed_handOutcome (h : Closed P) (a : Node) (b : QueueEntry) (c : Option Answer) (d : Bool) (s : State) (hs : P s) :
    P (handOutcome a b c d s) := by
  unfold handOutcome
  try dsimp only
  repeat' first | with_reducible assumption | with_reducible apply closed_dockOutcome h | with_reducible apply closed_noteButton h | with_reducible apply closed_terminalOutcome h.toCalmClosed | with_reducible apply closed_foldl (P := P) | intro _ | split

theorem closed_deliverFailure (h : Closed P) (a : QueueEntry) (s : State) (hs : P s) :
    P (deliverFailure a s) := by
  unfold deliverFailure
  try dsimp only
  repeat' first | with_reducible assumption | with_reducible apply closed_handOutcome h | intro _ | split

theorem closed_settleStep (h : Closed P) (s : State) (hs : P s) : P (settleStep s) := by
  unfold settleStep
  dsimp only
  repeat' first | with_reducible assumption | with_reducible apply closed_deliverFailure h | with_reducible apply closed_followOn h.toCalmClosed | with_reducible apply closed_manifestRetry h.toCalmClosed | with_reducible apply closed_retryPass h | with_reducible apply h.popFailure | with_reducible apply h.clearFollowOn | with_reducible apply h.clearManifest | with_reducible apply h.clearTrips | split

theorem closed_settle (h : Closed P) : ∀ (n : Nat) (s : State), P s → P (settle n s)
  | 0, s, hs => h.clearAgenda s hs
  | n + 1, s, hs => by
    unfold settle
    split
    · exact hs
    · exact closed_settle h n _ (closed_settleStep h s hs)

theorem closed_finishEvent (h : Closed P) (s : State) (hs : P s) :
    P (finishEvent s) := by
  unfold finishEvent
  try dsimp only
  repeat' first | with_reducible assumption | with_reducible apply h.takeNext | with_reducible apply closed_settle h | intro _ | split

end Sys2Proof.Machine
end

