-- ==== Sys2Proof/Laws/Commands.lean ====
section
/-! SUPPORT. What exec of each command unfolds to. -/

namespace Sys2Proof.Machine

open Sys2Proof

theorem exec_resetPin (s : State) :
    exec .resetPin s =
  .next { State.reset with pending := s.pending, senseCount := s.senseCount } := rfl

theorem exec_frameBitCountError (bytes : List Byte) (extra : Nat) (s : State) :
    exec (.frameBitCountError bytes extra) s =
  if 1 ≤ extra ∧ extra ≤ 7 then
    .next ((clockFrame bytes true s).setPort (fun p => { p with frame := true }))
  else .refused .illFormed := rfl

theorem exec_unknownOpcode (opcode : Byte) (args : List Byte) (s : State) :
    exec (.unknownOpcode opcode args) s =
  if knownOpcodes.contains opcode.toNat then .refused .illFormed
  else
    let s := sendStatus (args.length + 1) s
    if s.busy then .next (s.setPort (fun p => { p with discarded := true }))
    else .next (s.setPort (fun p => { p with command := .holding (.plain .unknown) })) := rfl

theorem exec_readStatus (args : List Byte) (s : State) :
    exec (.readStatus args) s =
  .next (clockFrame (0x01 :: args) false s) := rfl

theorem exec_fetchResult (args : List Byte) (s : State) :
    exec (.fetchResult args) s =
  .next (clockFrame (0x02 :: args) false s) := rfl

theorem exec_readNotices (args : List Byte) (s : State) :
    exec (.readNotices args) s =
  pureRead 0 args (fun _ s => .ok (beBytes 2 s.noticeSet ++ beBytes 2 s.settings.attentionMask)) s := rfl

theorem exec_setConfig (args : List Byte) (s : State) :
    exec (.setConfig args) s =
  changeCommand 3 args (fun a => setConfig (field a 0 1) (field a 1 2)) s := rfl

theorem exec_readConfig (args : List Byte) (s : State) :
    exec (.readConfig args) s =
  pureRead 1 args (fun a s =>
    if field a 0 1 < 1 ∨ 20 < field a 0 1 then .plain .badArg
    else .ok (beBytes 2 (s.settings.item (field a 0 1)))) s := rfl

theorem exec_setTime (args : List Byte) (s : State) :
    exec (.setTime args) s =
  changeCommand 4 args (fun a => setTime (BitVec.ofNat 32 (field a 0 4))) s := rfl

theorem exec_readTime (args : List Byte) (s : State) :
    exec (.readTime args) s =
  pureRead 0 args (fun _ s => .ok (timeImage s)) s := rfl

theorem exec_reinit (args : List Byte) (s : State) :
    exec (.reinit args) s =
  changeCommand 0 args (fun _ s => (.ok [], reinitWork s)) s := rfl

theorem exec_readDock (args : List Byte) (s : State) :
    exec (.readDock args) s =
  pureRead 1 args (fun a s =>
    match dockOfNumber (field a 0 1) with
    | some d => .ok (dockImage d s)
    | none => .plain .badArg) s := rfl

theorem exec_setMask (args : List Byte) (s : State) :
    exec (.setMask args) s =
  changeCommand 2 args (fun a => setMask (field a 0 1) (field a 1 1)) s := rfl

theorem exec_findCard (args : List Byte) (s : State) :
    exec (.findCard args) s =
  pureRead 5 args (fun a s =>
    match s.findCard (cardArg a) with
    | some e => .ok (cardImage e s)
    | none => .plain .notFound) s := rfl

theorem exec_scanCards (args : List Byte) (s : State) :
    exec (.scanCards args) s =
  pureRead 1 args (fun a s =>
    match s.scanFrom (field a 0 1) with
    | some e => .ok (cardImage e s)
    | none => .plain .notFound) s := rfl

theorem exec_loadCard (args : List Byte) (s : State) :
    exec (.loadCard args) s = changeCommand 13 args loadCard s := rfl

theorem exec_retireCard (args : List Byte) (s : State) :
    exec (.retireCard args) s =
  changeCommand 5 args (fun a => retireCard (cardArg a)) s := rfl

theorem exec_nextRefer (args : List Byte) (s : State) :
    exec (.nextRefer args) s =
  pureRead 0 args (fun _ s =>
    match s.refers.head? with
    | some r => .ok (referImage r s.refers.length)
    | none => .plain .notFound) s := rfl

theorem exec_admitCard (args : List Byte) (s : State) :
    exec (.admitCard args) s =
  changeCommand 13 args (fun a s =>
    match readCardRecord a with
    | none => refuse .badArg s
    | some r => admitRecord r s) s := rfl

theorem exec_refuseCard (args : List Byte) (s : State) :
    exec (.refuseCard args) s =
  changeCommand 5 args (fun a => refuseCard (cardArg a)) s := rfl

theorem exec_remoteHire (args : List Byte) (s : State) :
    exec (.remoteHire args) s =
  changeCommand 6 args (fun a => remoteHire (field a 0 5) (field a 5 1)) s := rfl

theorem exec_closeRemote (args : List Byte) (s : State) :
    exec (.closeRemote args) s =
  changeCommand 13 args (fun a =>
    closeRemote (field a 0 5) (field a 5 2) (BitVec.ofNat 32 (field a 7 4)) (field a 11 2)) s := rfl

theorem exec_readTrip (args : List Byte) (s : State) :
    exec (.readTrip args) s =
  pureRead 2 args (fun a s =>
    if field a 0 2 = 0 then .plain .badArg
    else
      match s.findTrip (BitVec.ofNat 16 (field a 0 2)) with
      | some r => .ok (tripImage r)
      | none => .plain .notFound) s := rfl

theorem exec_nextPriced (args : List Byte) (s : State) :
    exec (.nextPriced args) s =
  pureRead 0 args (fun _ s =>
    match s.oldestPriced with
    | some r => .ok (tripImage r ++ [byte (s.trips.filter Trip.isPriced).length])
    | none => .plain .notFound) s := rfl

theorem exec_collectTrip (args : List Byte) (s : State) :
    exec (.collectTrip args) s =
  changeCommand 6 args (fun a => collectTrip (field a 0 2) (BitVec.ofNat 32 (field a 2 4))) s := rfl

theorem exec_writePlan (args : List Byte) (s : State) :
    exec (.writePlan args) s = changeCommand 29 args writePlan s := rfl

theorem exec_writeStationTerms (args : List Byte) (s : State) :
    exec (.writeStationTerms args) s =
  changeCommand 3 args (fun a => writeTerms (field a 0 2) (field a 2 1)) s := rfl

theorem exec_activateTariff (args : List Byte) (s : State) :
    exec (.activateTariff args) s =
  changeCommand 5 args (fun a => activateTariff (field a 0 1) (BitVec.ofNat 32 (field a 1 4))) s := rfl

theorem exec_readPlan (args : List Byte) (s : State) :
    exec (.readPlan args) s =
  pureRead 2 args (fun a s => readPlan (field a 0 1) (field a 1 1) s) s := rfl

theorem exec_quoteFare (args : List Byte) (s : State) :
    exec (.quoteFare args) s =
  pureRead 8 args (fun a s => quoteFare (field a 0 4) (field a 4 1) (field a 5 2) (field a 7 1) s) s := rfl

theorem exec_readFault (args : List Byte) (s : State) :
    exec (.readFault args) s =
  readCommand 1 args (fun a => readFault (field a 0 1)) s := rfl

theorem exec_nextFault (args : List Byte) (s : State) :
    exec (.nextFault args) s =
  readCommand 0 args (fun _ => nextFault) s := rfl

theorem exec_raiseFault (args : List Byte) (s : State) :
    exec (.raiseFault args) s =
  changeCommand 3 args (fun a => raiseFault (field a 0 1) (field a 1 2)) s := rfl

theorem exec_clearFault (args : List Byte) (s : State) :
    exec (.clearFault args) s =
  changeCommand 4 args (fun a => clearFault (field a 0 1) (field a 1 2) (field a 3 1)) s := rfl

theorem exec_stageHeader (args : List Byte) (s : State) :
    exec (.stageHeader args) s = changeCommand 10 args stageHeader s := rfl

theorem exec_stageMove (args : List Byte) (s : State) :
    exec (.stageMove args) s =
  changeCommand 5 args (fun a => stageMove (field a 0 1) (field a 1 1) (field a 2 1) (field a 3 2)) s := rfl

theorem exec_commitManifest (args : List Byte) (s : State) :
    exec (.commitManifest args) s =
  changeCommand 0 args (fun _ => commitManifest) s := rfl

theorem exec_suspendManifest (args : List Byte) (s : State) :
    exec (.suspendManifest args) s =
  changeCommand 0 args (fun _ => suspendManifest) s := rfl

theorem exec_resumeManifest (args : List Byte) (s : State) :
    exec (.resumeManifest args) s =
  changeCommand 0 args (fun _ => resumeManifest) s := rfl

theorem exec_cancelManifest (args : List Byte) (s : State) :
    exec (.cancelManifest args) s =
  changeCommand 1 args (fun a => cancelManifest (field a 0 1)) s := rfl

theorem exec_setExpiry (args : List Byte) (s : State) :
    exec (.setExpiry args) s =
  changeCommand 1 args (fun a => setExpiry (field a 0 1)) s := rfl

theorem exec_readManifest (args : List Byte) (s : State) :
    exec (.readManifest args) s =
  pureRead 2 args (fun a s => readManifest (field a 0 1) (field a 1 1) s) s := rfl

theorem exec_ackManifest (args : List Byte) (s : State) :
    exec (.ackManifest args) s =
  changeCommand 2 args (fun a => ackManifest (field a 0 2)) s := rfl

theorem exec_roundTimerExpiry (s : State) :
    exec .roundTimerExpiry s = event roundExpiry s := rfl

theorem exec_stringCharacterReceived (on : StringEnd) (data : Byte) (mark : Bool) (s : State) :
    exec (.stringCharacterReceived on data mark) s =
  event (stringChar on data mark) s := rfl

theorem exec_answerWindowExpiry (s : State) :
    exec .answerWindowExpiry s = event windowEnd s := rfl

theorem exec_coilCountExpiry (token : Nat) (s : State) :
    exec (.coilCountExpiry token) s =
  if h : token < 3 then
    .next (finishEvent
      (if (s.hire.tokens.get ⟨token, h⟩).inCoil then freeToken ⟨token, h⟩ s else s))
  else .refused .illFormed := rfl

theorem exec_pullWindowExpiry (dock : Nat) (s : State) :
    exec (.pullWindowExpiry dock) s = dockEvent dock pullWindowEnd s := rfl

theorem exec_referTimeout (card : CardNo) (s : State) :
    exec (.referTimeout card) s = event (referEnd card) s := rfl

theorem exec_refusalFlashExpiry (dock : Nat) (s : State) :
    exec (.refusalFlashExpiry dock) s =
  dockEvent dock (fun d s =>
    if (s.dock d).flash.isSome then selectLamp d (s.setDock d (fun r => { r with flash := none }))
    else s) s := rfl

theorem exec_reportWindowExpiry (dock : Nat) (s : State) :
    exec (.reportWindowExpiry dock) s =
  dockEvent dock (fun d => State.setFaultDock d (fun f => { f with report := none })) s := rfl

theorem exec_manifestExpiry (s : State) :
    exec .manifestExpiry s =
  event (fun s =>
    if s.manifestActive then
      endManifest .expired (s.setManifest (fun m => { m with counter := 0 }))
    else s) s := rfl

theorem exec_activationReached (s : State) :
    exec .activationReached s = event testActivation s := rfl

theorem exec_changeCommandFinished (s : State) :
    exec .changeCommandFinished s =
  match s.port.running with
  | some r => .next (s.setPort (fun p => { p with running := none, command := .holding r }))
  | none => .next s := rfl

end Sys2Proof.Machine
end

