-- ==== Sys2Proof/Laws/FrameWork.lean ====
section
/-! SUPPORT. A read command and a change command, each in its three cases, over whatever its owner does
(R184 to R188). -/

namespace Sys2Proof.Machine

open Sys2Proof

/-- The lookup of a frame finds no command for a code that section 11.2 does not list. -/
theorem opcodeCommand_unknown {n : Nat} (args : List Byte) (h : knownOpcodes.contains n = false) :
    opcodeCommand n args = none := by
  unfold opcodeCommand
  split
  all_goals first | rfl | (exfalso; revert h; decide)

theorem recentStatus_eq_take (n : Nat) (l : List (Byte × Nat)) :
    recentStatus n l = (trailBytes l).take n := by
  induction l generalizing n with
  | nil => simp [recentStatus, trailBytes]
  | cons x l ih =>
    obtain ⟨b, k⟩ := x
    simp only [recentStatus, ih, trailBytes, List.flatMap_cons, List.take_append, List.take_replicate,
      List.length_replicate]

theorem trailBytes_noteStatus (b : Byte) (l : List (Byte × Nat)) :
    trailBytes (noteStatus b l) = b :: trailBytes l := by
  cases l with
  | nil => rfl
  | cons x l =>
    obtain ⟨c, k⟩ := x
    by_cases h : c = b
    · subst h
      simp [noteStatus, trailBytes, List.replicate_succ]
    · simp [noteStatus, trailBytes, h]

theorem frameStatus_length (n : Nat) (s : State) : (s.frameStatus n).length = n := by
  simp only [State.frameStatus, recentStatus_eq_take, List.length_append, List.length_reverse,
    List.length_take, List.length_replicate]
  omega

/-- Where no period has passed since the last frame, every byte shows the status byte as it stands. -/
theorem frameStatus_of_no_trail (n : Nat) (s : State) (h : s.port.trail = []) :
    s.frameStatus n = List.replicate n s.statusByte := by
  simp [State.frameStatus, recentStatus_eq_take, h, trailBytes]

/-- The state in which a read command's owner answers (R186, R188). -/
def State.asking (n : Nat) (s : State) : State :=
  { s with port := (s.framed n).executed }

theorem readCommand_length (n : Nat) (args : List Byte) (run : List Byte → State → Result × State)
    (s : State) (h : args.length ≠ n) : readCommand n args run s = .next (s.readLength args.length) := by
  unfold readCommand
  simp only [h, ne_eq, not_false_eq_true, if_true]
  rfl

theorem readCommand_taken (n : Nat) (args : List Byte) (run : List Byte → State → Result × State)
    (s : State) (h : args.length = n) : readCommand n args run s =
      .next ((run args (s.asking n)).2.setPort
        (fun p => { p with read := .holding (run args (s.asking n)).1 })) := by
  subst h
  unfold readCommand
  simp only [ne_eq, not_true, if_false]
  rfl

theorem pureRead_taken (n : Nat) (args : List Byte) (answer : List Byte → State → Result) (s : State)
    (r : Result) (h : args.length = n) (hr : answer args (s.asking n) = r) :
    pureRead n args answer s = .next (s.readAnswered n r) := by
  unfold pureRead
  rw [readCommand_taken n args _ s h]
  subst hr
  rfl

theorem changeCommand_busy (n : Nat) (args : List Byte) (run : List Byte → State → Result × State)
    (s : State) (h : s.busy = true) :
    changeCommand n args run s = .next (s.changeDiscarded args.length) := by
  unfold changeCommand
  have hb : (sendStatus (args.length + 1) s).busy = true := h
  simp only [hb, if_true]
  rfl

theorem changeCommand_length (n : Nat) (args : List Byte) (run : List Byte → State → Result × State)
    (s : State) (hb : s.busy = false) (h : args.length ≠ n) :
    changeCommand n args run s = .next (s.changeRefused args.length .length) := by
  unfold changeCommand
  have hb : (sendStatus (args.length + 1) s).busy = false := hb
  simp only [hb, h, ne_eq, not_false_eq_true, if_true, Bool.false_eq_true, if_false]
  rfl

theorem changeCommand_taken (n : Nat) (args : List Byte) (run : List Byte → State → Result × State)
    (s : State) (hb : s.busy = false) (h : args.length = n) :
    changeCommand n args run s = .next (finishEvent ((run args (s.taking n)).2.setPort
      (fun p => { p with running := some (run args (s.taking n)).1 }))) := by
  subst h
  unfold changeCommand
  have hb : (sendStatus (args.length + 1) s).busy = false := hb
  simp only [hb, ne_eq, not_true, Bool.false_eq_true, if_false]
  rfl

/-- A change command is taken with the result `r` and the records of `u` where its owner answers `r` and
leaves those records. -/
theorem changes_of (c : Instr) (n : Nat) (args : List Byte) (run : List Byte → State → Result × State)
    (s u : State) (r : Result) (he : exec c s = changeCommand n args run s) (hb : s.busy = false)
    (h : args.length = n)
    (hr : run args (s.taking n) = (r, { u with port := (s.taking n).port })) : changes c n r u s := by
  unfold changes
  rw [he, changeCommand_taken n args run s hb h, hr]
  rfl

end Sys2Proof.Machine
end

