-- ==== Sys2Proof/Laws/StringWork.lean ====
section
/-! SUPPORT. What the String Controller's work can do, said once: a property that the primitive updates
of Laws/Closed.lean and those of the link records, the call in flight, the splits and the round keep is
kept by every character, window and round. -/

set_option linter.unusedTactic false
set_option linter.unreachableTactic false

namespace Sys2Proof.Machine

open Sys2Proof

variable {P : State → Prop}

structure StringClosed (P : State → Prop) : Prop extends Closed P where
  setLink : ∀ (n : Node) (f : LinkRecord → LinkRecord) (s : State), P s → P (s.setLink n f)
  setCall : ∀ (c : Call) (s : State), P s → P (s.setCall c)
  setSent : ∀ (l : List (StringEnd × StringChar)) (s : State), P s → P (s.setSent l)
  setSplit : ∀ (k : Fin 30) (b : Bool) (s : State), P s → P (s.setSplit k b)
  setRound : ∀ (r m : Nat) (s : State), P s → P (s.setRound r m)
  freeString : ∀ s : State, P s → P (freeString s)

theorem closed_evalSplit (h : StringClosed P) (k : Fin 30) (x : Call × State) (hx : P x.2) :
    P (evalSplit k x).2 := by
  unfold evalSplit
  dsimp only
  split
  · exact hx
  · exact h.setSplit _ _ _ hx

theorem closed_evalSplits (h : StringClosed P) : ∀ (l : List (Fin 30)) (x : Call × State), P x.2 →
    P (l.foldl (fun x k => evalSplit k x) x).2
  | [], _, hx => hx
  | k :: l, x, hx => closed_evalSplits h l (evalSplit k x) (closed_evalSplit h k x hx)

theorem closed_updateReach (h : StringClosed P) (o : AttemptOutcome) (c : Call) (s : State) (hs : P s) :
    P (updateReach o c s).2 := by
  unfold updateReach
  dsimp only
  split
  · exact h.setLink _ _ _ hs
  · exact closed_evalSplits h _ _ (h.setLink _ _ _ hs)

theorem closed_sendOn (h : StringClosed P) (a : StringEnd) (b : QueueEntry) (s : State) (hs : P s) :
    P (sendOn a b s) := by
  unfold sendOn
  try dsimp only
  repeat' first | with_reducible assumption | with_reducible apply h.setSent | intro _ | split

theorem closed_sendReports (h : StringClosed P) (a : Call) (s : State) (hs : P s) :
    P (sendReports a s) := by
  unfold sendReports
  try dsimp only
  repeat' first | with_reducible assumption | with_reducible apply closed_conditionFault h.toCalmClosed | with_reducible apply closed_selectLamp h.toLampClosed | with_reducible apply h.setDock | with_reducible apply closed_tellContact h.toCalmClosed | with_reducible apply closed_foldl (P := P) | intro _ | split

theorem closed_handOn (h : StringClosed P) (a : Call) (b : Option Answer) (s : State) (hs : P s) :
    P (handOn a b s) := by
  unfold handOn
  try dsimp only
  repeat' first | with_reducible assumption | with_reducible apply closed_handOutcome h.toClosed | with_reducible apply h.setLink | intro _ | split

theorem closed_completeCall (h : StringClosed P) (a : Call) (b : Option Answer) (s : State) (hs : P s) :
    P (completeCall a b s) := by
  unfold completeCall
  try dsimp only
  repeat' first | with_reducible assumption | with_reducible apply h.freeString | with_reducible apply closed_handOn h | with_reducible apply closed_sendReports h | intro _ | split

theorem closed_sendAttempt (h : StringClosed P) (a : StringEnd) (b : Call) (s : State) (hs : P s) :
    P (sendAttempt a b s) := by
  unfold sendAttempt
  try dsimp only
  repeat' first | with_reducible assumption | with_reducible apply closed_sendOn h | with_reducible apply h.setCall | intro _ | split

theorem closed_ordinaryEnd (h : StringClosed P) (a : Call) (b : Option Answer) (s : State) (hs : P s) :
    P (ordinaryEnd a b s) := by
  unfold ordinaryEnd
  try dsimp only
  repeat' first | with_reducible assumption | with_reducible apply closed_completeCall h | with_reducible apply closed_sendAttempt h | with_reducible apply h.setLink | intro _ | split

theorem closed_crossEnd (h : StringClosed P) (a : Call) (b : AttemptOutcome) (c : Option Answer) (s : State) (hs : P s) :
    P (crossEnd a b c s) := by
  unfold crossEnd
  try dsimp only
  repeat' first | with_reducible assumption | with_reducible apply closed_completeCall h | with_reducible apply h.setLink | intro _ | split

theorem closed_attemptEnd (h : StringClosed P) (a : AttemptOutcome) (b : Call) (s : State) (hs : P s) :
    P (attemptEnd a b s) := by
  unfold attemptEnd
  try dsimp only
  repeat' first | with_reducible assumption | with_reducible apply closed_crossEnd h | with_reducible apply closed_ordinaryEnd h | with_reducible apply closed_sendAttempt h | with_reducible apply closed_updateReach h | intro _ | split

theorem closed_waitQuiet (h : StringClosed P) (a : QuietFinding) (b : Call) (s : State) (hs : P s) :
    P (waitQuiet a b s) := by
  unfold waitQuiet
  try dsimp only
  repeat' first | with_reducible assumption | with_reducible apply h.setCall | intro _ | split

theorem closed_judgeAnswer (h : StringClosed P) (a : List Byte) (b : Call) (s : State) (hs : P s) :
    P (judgeAnswer a b s) := by
  unfold judgeAnswer
  try dsimp only
  repeat' first | with_reducible assumption | with_reducible apply closed_attemptEnd h | with_reducible apply closed_waitQuiet h | intro _ | split

theorem closed_receiveChar (h : StringClosed P) (a : Byte) (b : Bool) (c : Call) (s : State) (hs : P s) :
    P (receiveChar a b c s) := by
  unfold receiveChar
  try dsimp only
  repeat' first | with_reducible assumption | with_reducible apply closed_judgeAnswer h | with_reducible apply h.setCall | with_reducible apply closed_waitQuiet h | intro _ | split

theorem closed_stringChar (h : StringClosed P) (a : StringEnd) (b : Byte) (c : Bool) (s : State) (hs : P s) :
    P (stringChar a b c s) := by
  unfold stringChar
  try dsimp only
  repeat' first | with_reducible assumption | with_reducible apply closed_receiveChar h | intro _ | split

theorem closed_broadcastDone (h : StringClosed P) (a : QueueEntry) (s : State) (hs : P s) :
    P (broadcastDone a s) := by
  unfold broadcastDone
  try dsimp only
  repeat' first | with_reducible assumption | with_reducible apply closed_broadcastShown h.toClosed | with_reducible apply h.freeString | with_reducible apply closed_settle h.toClosed | intro _ | split

theorem closed_windowEnd (h : StringClosed P) (s : State) (hs : P s) :
    P (windowEnd s) := by
  unfold windowEnd
  try dsimp only
  repeat' first | with_reducible assumption | with_reducible apply closed_attemptEnd h | with_reducible apply closed_broadcastDone h | intro _ | split

theorem closed_placeRound (h : StringClosed P) (a : Bool) (s : State) (hs : P s) :
    P (placeRound a s) := by
  unfold placeRound
  try dsimp only
  repeat' first | with_reducible assumption | with_reducible apply closed_place h.toCalmClosed | with_reducible apply closed_foldl (P := P) | intro _ | split

theorem closed_roundExpiry (h : StringClosed P) (s : State) (hs : P s) :
    P (roundExpiry s) := by
  unfold roundExpiry
  try dsimp only
  repeat' first | with_reducible assumption | with_reducible apply closed_placeRound h | with_reducible apply h.setRound | intro _ | split

end Sys2Proof.Machine
end

