-- ==== Sys2Proof/Laws/Steps.lean ====
section
/-! SUPPORT. What a command's work and a step can do, said once: a property that every primitive update
keeps is kept by every command and by every step. -/

set_option linter.unusedTactic false
set_option linter.unreachableTactic false

namespace Sys2Proof.Machine

open Sys2Proof

variable {P : State → Prop}

/-- What the owner of a command can do, outside the port. -/
structure WorkClosed (P : State → Prop) : Prop extends StringClosed P where
  testActivation : ∀ s : State, P s → P (testActivation s)
  setStaged : ∀ (f : Bank → Bank) (s : State),
    (∀ b, (f b).valid = b.valid ∧ (f b).generation = b.generation) → P s → P (setStaged f s)
  setActivation : ∀ (x : Option (Fin 16 × Time)) (s : State), P s →
    P (s.setFare (fun u => { u with activation := x }))
  setItem : ∀ (item v : Nat) (s : State), 1 ≤ item → item ≤ 20 → P s →
    P (s.setSettings (fun c => c.setItem item (s.settings.clamp item v)))
  setClock : ∀ (f : Clock → Clock) (s : State), P s → P (s.setClock f)
  endInstant : ∀ s : State, P s → P s.endInstant
  setSupply : ∀ (f : Supply → Supply) (s : State), P s → P (s.setSupply f)
  setHold : ∀ (b : Bool) (s : State), P s → P (s.setHold b)
  reinitString : ∀ s : State, P s → P (reinitString s)
  mapTrips : ∀ (f : TripRecord → TripRecord) (s : State), P s → P (s.mapTrips f)
  clearHire : ∀ s : State, P s → P { s with hire := .reset }
  clearRefers : ∀ s : State, P s → P { s with refers := [] }
  clearDeferrals : ∀ s : State, P s → P { s with deferred := Vector.replicate 30 none }

/-- What a command can do. -/
structure StepClosed (P : State → Prop) : Prop extends WorkClosed P where
  setPort : ∀ (f : Port → Port) (s : State), P s → P (s.setPort f)
  reset : ∀ s : State, P { State.reset with pending := s.pending, senseCount := s.senseCount }

/-! ### The work of commands -/

theorem closed_clockFrame (h : StepClosed P) (a : List Byte) (b : Bool) (s : State) (hs : P s) :
    P (clockFrame a b s) := by
  unfold clockFrame sendStatus
  dsimp only
  repeat' first | with_reducible assumption | with_reducible apply h.setPort | split

theorem closed_tellOwner (h : WorkClosed P) (a : Nat) (s : State) (hs : P s) :
    P (tellOwner a s) := by
  unfold tellOwner
  try unfold refuse
  try dsimp only
  repeat' first | with_reducible assumption | with_reducible apply closed_grantPass h.toClosed | with_reducible apply closed_selectAllLamps h.toLampClosed | intro _ | split

theorem closed_setConfig (h : WorkClosed P) (a b : Nat) (s : State) (hs : P s) : P (setConfig a b s).2 := by
  unfold setConfig
  split
  · exact hs
  · rename_i hr
    split
    · exact hs
    · exact closed_tellOwner h a _ (h.setItem a b s (by omega) (by omega) hs)

theorem closed_reinitHire (h : WorkClosed P) (s : State) (hs : P s) : P (reinitHire s) :=
  closed_place h.toCalmClosed _ _ (h.clearHire s hs)

theorem closed_reinitTrips (h : WorkClosed P) (s : State) (hs : P s) : P (reinitTrips s) :=
  h.clearDeferrals _ (h.mapTrips _ _ (h.filterTrips _ s hs))

theorem closed_reinitCards (h : WorkClosed P) (s : State) (hs : P s) : P (reinitCards s) := by
  unfold reinitCards
  exact h.setTerminal _ _ (h.clearRefers _ (h.mapCards _ s hs))

theorem closed_reinitFaults (h : WorkClosed P) (s : State) (hs : P s) :
    P (reinitFaults s) := by
  unfold reinitFaults
  try unfold refuse
  try dsimp only
  repeat' first | with_reducible assumption | with_reducible apply h.filterFaults | with_reducible apply h.mapFaultDocks | with_reducible apply h.setFaultFull | with_reducible apply closed_tagFailed h.toCalmClosed | intro _ | split

theorem closed_reinitManifest (h : WorkClosed P) (s : State) (hs : P s) : P (reinitManifest s) :=
  closed_dropReservations h.toCalmClosed _ (h.setManifest (fun _ => .reset) s hs)

theorem closed_reinitDocks (h : WorkClosed P) (s : State) (hs : P s) :
    P (reinitDocks s) := by
  unfold reinitDocks
  try unfold refuse
  try dsimp only
  repeat' first | with_reducible assumption | with_reducible apply h.mapDocks | with_reducible apply closed_place h.toCalmClosed | intro _ | split

theorem closed_reinitWork (h : WorkClosed P) (s : State) (hs : P s) :
    P (reinitWork s) := by
  unfold reinitWork
  try unfold refuse
  try dsimp only
  repeat' first | with_reducible assumption | with_reducible apply h.clearAgenda | with_reducible apply closed_reinitCards h | with_reducible apply closed_reinitDocks h | with_reducible apply closed_reinitFaults h | with_reducible apply closed_reinitHire h | with_reducible apply closed_reinitManifest h | with_reducible apply h.reinitString | with_reducible apply closed_reinitTrips h | with_reducible apply h.setHold | with_reducible apply h.takeNext | intro _ | split

theorem closed_setTime (h : WorkClosed P) (a : Time) (s : State) (hs : P s) :
    P (setTime a s).2 := by
  unfold setTime
  try unfold refuse
  try dsimp only
  repeat' first | with_reducible assumption | with_reducible apply h.noteTrips | with_reducible apply h.setClock | with_reducible apply h.testActivation | intro _ | split

theorem closed_supplyTick (h : WorkClosed P) (a : Byte) (s : State) (hs : P s) :
    P (supplyTick a s) := by
  unfold supplyTick
  try unfold refuse
  try dsimp only
  repeat' first | with_reducible assumption | with_reducible apply h.setSupply | with_reducible apply closed_supplyChanged h.toClosed | intro _ | split

theorem closed_counterTick (h : WorkClosed P) (s : State) (hs : P s) :
    P (counterTick s) := by
  unfold counterTick
  try unfold refuse
  try dsimp only
  repeat' first | with_reducible assumption | with_reducible apply closed_endManifest h.toCalmClosed | with_reducible apply h.setManifest | intro _ | split

theorem closed_manifestTick (h : WorkClosed P) (s : State) (hs : P s) :
    P (manifestTick s) := by
  unfold manifestTick
  try unfold refuse
  try dsimp only
  repeat' first | with_reducible assumption | with_reducible apply closed_counterTick h | with_reducible apply closed_vanTick h.toCalmClosed | with_reducible apply closed_foldl (P := P) | intro _ | split

theorem closed_hireTick (h : WorkClosed P) (s : State) (hs : P s) :
    P (hireTick s) := by
  unfold hireTick
  try unfold refuse
  try dsimp only
  repeat' first | with_reducible assumption | with_reducible apply closed_cancelTick h.toCalmClosed | with_reducible apply closed_foldl (P := P) | intro _ | split

theorem closed_advanceClock (h : WorkClosed P) (s : State) (hs : P s) :
    P (advanceClock s) := by
  exact h.endInstant _ (h.setClock _ s hs)

theorem closed_setMask (h : WorkClosed P) (a : Nat) (b : Nat) (s : State) (hs : P s) :
    P (setMask a b s).2 := by
  unfold setMask
  try unfold refuse
  try dsimp only
  repeat' first | with_reducible assumption | with_reducible apply h.setLink | intro _ | split

theorem closed_loadCard (h : WorkClosed P) (a : List Byte) (s : State) (hs : P s) :
    P (loadCard a s).2 := by
  unfold loadCard
  try unfold refuse
  try dsimp only
  repeat' first | with_reducible assumption | with_reducible apply closed_loadRecord h.toCalmClosed | intro _ | split

theorem closed_retireCard (h : WorkClosed P) (a : CardNo) (s : State) (hs : P s) :
    P (retireCard a s).2 := by
  unfold retireCard
  try unfold refuse
  try dsimp only
  repeat' first | with_reducible assumption | with_reducible apply h.dropCard | intro _ | split

theorem closed_replayTap (h : WorkClosed P) (a : CardNo) (s : State) (hs : P s) :
    P (replayTap a s).2 := by
  unfold replayTap
  try unfold refuse
  try dsimp only
  repeat' first | with_reducible assumption | with_reducible apply closed_hitTap h.toClosed | with_reducible apply closed_retireRefer h.toCalmClosed | intro _ | split

theorem closed_admitRecord (h : WorkClosed P) (a : CardRecord) (s : State) (hs : P s) :
    P (admitRecord a s).2 := by
  unfold admitRecord
  try unfold refuse
  try dsimp only
  repeat' first | with_reducible assumption | with_reducible apply closed_loadRecord h.toCalmClosed | with_reducible apply closed_replayTap h | with_reducible apply closed_retireRefer h.toCalmClosed | with_reducible apply closed_showRefusal h.toLampClosed | intro _ | split

theorem closed_refuseCard (h : WorkClosed P) (a : CardNo) (s : State) (hs : P s) :
    P (refuseCard a s).2 := by
  unfold refuseCard
  try unfold refuse
  try dsimp only
  repeat' first | with_reducible assumption | with_reducible apply closed_retireRefer h.toCalmClosed | with_reducible apply closed_showRefusal h.toLampClosed | intro _ | split

theorem closed_remoteHire (h : WorkClosed P) (a : Nat) (b : Nat) (s : State) (hs : P s) :
    P (remoteHire a b s).2 := by
  unfold remoteHire
  try unfold refuse
  try dsimp only
  repeat' first | with_reducible assumption | with_reducible apply closed_decideTap h.toClosed | with_reducible apply closed_retireRefer h.toCalmClosed | intro _ | split

theorem closed_pullWindowEnd (h : WorkClosed P) (a : Dock) (s : State) (hs : P s) :
    P (pullWindowEnd a s) := by
  unfold pullWindowEnd
  try unfold refuse
  try dsimp only
  repeat' first | with_reducible assumption | with_reducible apply closed_cancelRelease h.toClosed | with_reducible apply h.setRelease | intro _ | split

theorem closed_collectTrip (h : WorkClosed P) (a : Nat) (b : Time) (s : State) (hs : P s) :
    P (collectTrip a b s).2 := by
  unfold collectTrip
  try unfold refuse
  try dsimp only
  repeat' first | with_reducible assumption | with_reducible apply closed_dropTrip h.toCalmClosed | intro _ | split

theorem closed_closeRemote (h : WorkClosed P) (a : Nat) (b : Nat) (c : Time) (d : Nat) (s : State) (hs : P s) :
    P (closeRemote a b c d s).2 := by
  unfold closeRemote
  try unfold refuse
  try dsimp only
  repeat' first | with_reducible assumption | with_reducible apply closed_cardFree h.toCalmClosed | with_reducible apply closed_dropTrip h.toCalmClosed | intro _ | split

theorem closed_writePlan (h : WorkClosed P) (a : List Byte) (s : State) (hs : P s) :
    P (writePlan a s).2 := by
  unfold writePlan
  split
  · dsimp only
    refine h.setStaged _ s ?_ hs
    exact fun _ => ⟨rfl, rfl⟩
  · exact hs

theorem closed_writeTerms (h : WorkClosed P) (a b : Nat) (s : State) (hs : P s) :
    P (writeTerms a b s).2 := by
  unfold writeTerms
  split
  · exact hs
  · dsimp only
    refine h.setStaged _ s ?_ hs
    exact fun _ => ⟨rfl, rfl⟩

theorem closed_activateTariff (h : WorkClosed P) (a : Nat) (b : Time) (s : State) (hs : P s) :
    P (activateTariff a b s).2 := by
  unfold activateTariff refuse
  repeat' first | with_reducible assumption | with_reducible apply h.testActivation | with_reducible apply h.setActivation | split

theorem closed_seenRecord (h : WorkClosed P) (a : FaultRecord) (b : List Byte) (s : State) (hs : P s) :
    P (seenRecord a b s).2 := by
  unfold seenRecord
  try unfold refuse
  try dsimp only
  repeat' first | with_reducible assumption | with_reducible apply h.setFault | intro _ | split

theorem closed_readFault (h : WorkClosed P) (a : Nat) (s : State) (hs : P s) :
    P (readFault a s).2 := by
  unfold readFault
  try unfold refuse
  try dsimp only
  repeat' first | with_reducible assumption | with_reducible apply closed_seenRecord h | intro _ | split

theorem closed_nextFault (h : WorkClosed P) (s : State) (hs : P s) :
    P (nextFault s).2 := by
  unfold nextFault
  try unfold refuse
  try dsimp only
  repeat' first | with_reducible assumption | with_reducible apply closed_seenRecord h | intro _ | split

theorem closed_raiseFault (h : WorkClosed P) (a b : Nat) (s : State) (hs : P s) : P (raiseFault a b s).2 := by
  unfold raiseFault refuse
  dsimp only
  repeat' first | with_reducible assumption | with_reducible apply closed_createActiveIn h.toCalmClosed | with_reducible apply closed_makeRoom h.toCalmClosed _ _ hs ‹_› | split

theorem closed_unmarkAfter (h : WorkClosed P) (a : Subject) (s : State) (hs : P s) :
    P (unmarkAfter a s) := by
  unfold unmarkAfter
  try unfold refuse
  try dsimp only
  repeat' first | with_reducible assumption | with_reducible apply closed_setUnmark h.toCalmClosed | intro _ | split

theorem closed_clearRetire (h : WorkClosed P) (a : FaultRecord) (s : State) (hs : P s) :
    P (clearRetire a s).2 := by
  unfold clearRetire
  try unfold refuse
  try dsimp only
  repeat' first | with_reducible assumption | with_reducible apply closed_retireFault h.toCalmClosed | with_reducible apply closed_unmarkAfter h | intro _ | split

theorem closed_startClearing (h : WorkClosed P) (a : FaultRecord) (s : State) (hs : P s) :
    P (startClearing a s).2 := by
  unfold startClearing
  try unfold refuse
  try dsimp only
  repeat' first | with_reducible assumption | with_reducible apply h.setFault | with_reducible apply closed_tellChange h.toCalmClosed | intro _ | split

theorem closed_clearRecord (h : WorkClosed P) (a : FaultRecord) (s : State) (hs : P s) :
    P (clearRecord a s).2 := by
  unfold clearRecord
  try unfold refuse
  try dsimp only
  repeat' first | with_reducible assumption | with_reducible apply closed_clearRetire h | with_reducible apply closed_forcedRemoval h.toCalmClosed | with_reducible apply closed_riderReport h.toCalmClosed | with_reducible apply closed_startClearing h | intro _ | split

theorem closed_clearFault (h : WorkClosed P) (a : Nat) (b : Nat) (c : Nat) (s : State) (hs : P s) :
    P (clearFault a b c s).2 := by
  unfold clearFault
  try unfold refuse
  try dsimp only
  repeat' first | with_reducible assumption | with_reducible apply closed_clearRecord h | intro _ | split

theorem closed_stageHeader (h : WorkClosed P) (a : List Byte) (s : State) (hs : P s) :
    P (stageHeader a s).2 := by
  unfold stageHeader
  try unfold refuse
  try dsimp only
  repeat' first | with_reducible assumption | with_reducible apply h.setManifest | intro _ | split

theorem closed_stageMove (h : WorkClosed P) (a : Nat) (b : Nat) (c : Nat) (d : Nat) (s : State) (hs : P s) :
    P (stageMove a b c d s).2 := by
  unfold stageMove
  try unfold refuse
  try dsimp only
  repeat' first | with_reducible assumption | with_reducible apply h.setManifest | intro _ | split

theorem closed_commitManifest (h : WorkClosed P) (s : State) (hs : P s) :
    P (commitManifest s).2 := by
  unfold commitManifest
  try unfold refuse
  try dsimp only
  repeat' first | with_reducible assumption | with_reducible apply closed_activate h.toCalmClosed | with_reducible apply closed_followOn h.toCalmClosed | with_reducible apply h.setManifest | intro _ | split

theorem closed_setPhase (h : WorkClosed P) (a : ManifestPhase) (s : State) (hs : P s) :
    P (setPhase a s) := by
  unfold setPhase
  try unfold refuse
  try dsimp only
  repeat' first | with_reducible assumption | with_reducible apply h.setManifest | intro _ | split

theorem closed_suspendManifest (h : WorkClosed P) (s : State) (hs : P s) :
    P (suspendManifest s).2 := by
  unfold suspendManifest
  try unfold refuse
  try dsimp only
  repeat' first | with_reducible assumption | with_reducible apply closed_setPhase h | intro _ | split

theorem closed_resumeManifest (h : WorkClosed P) (s : State) (hs : P s) :
    P (resumeManifest s).2 := by
  unfold resumeManifest
  try unfold refuse
  try dsimp only
  repeat' first | with_reducible assumption | with_reducible apply h.noteManifest | with_reducible apply closed_setPhase h | intro _ | split

theorem closed_cancelManifest (h : WorkClosed P) (a : Nat) (s : State) (hs : P s) :
    P (cancelManifest a s).2 := by
  unfold cancelManifest
  try unfold refuse
  try dsimp only
  repeat' first | with_reducible assumption | with_reducible apply closed_endManifest h.toCalmClosed | with_reducible apply h.setManifest | intro _ | split

theorem closed_setExpiry (h : WorkClosed P) (a : Nat) (s : State) (hs : P s) :
    P (setExpiry a s).2 := by
  unfold setExpiry
  try unfold refuse
  try dsimp only
  repeat' first | with_reducible assumption | with_reducible apply h.setManifest | intro _ | split

theorem closed_ackManifest (h : WorkClosed P) (a : Nat) (s : State) (hs : P s) :
    P (ackManifest a s).2 := by
  unfold ackManifest
  try unfold refuse
  try dsimp only
  repeat' first | with_reducible assumption | with_reducible apply h.noteFollowOn | with_reducible apply h.setManifest | intro _ | split

/-! ### Commands -/

theorem closed_readCommand (h : StepClosed P) {run : List Byte → State → Result × State}
    (hr : ∀ a s, P s → P (run a s).2) (n : Nat) (args : List Byte) (s t : State) (hs : P s)
    (ht : readCommand n args run s = .next t) : P t := by
  unfold readCommand sendStatus at ht
  dsimp only at ht
  split at ht <;> cases ht
  · exact h.setPort _ _ (h.setPort _ _ hs)
  · exact h.setPort _ _ (hr _ _ (h.setPort _ _ (h.setPort _ _ hs)))

theorem closed_pureRead (h : StepClosed P) {answer : List Byte → State → Result} (n : Nat)
    (args : List Byte) (s t : State) (hs : P s) (ht : pureRead n args answer s = .next t) : P t :=
  closed_readCommand h (fun _ _ hs => hs) n args s t hs ht

theorem closed_changeCommand (h : StepClosed P) {run : List Byte → State → Result × State}
    (hr : ∀ a s, P s → P (run a s).2) (n : Nat) (args : List Byte) (s t : State) (hs : P s)
    (ht : changeCommand n args run s = .next t) : P t := by
  unfold changeCommand sendStatus at ht
  dsimp only at ht
  split at ht
  · cases ht
    exact h.setPort _ _ (h.setPort _ _ hs)
  · split at ht <;> cases ht
    · exact h.setPort _ _ (h.setPort _ _ hs)
    · exact closed_finishEvent h.toClosed _ (h.setPort _ _ (hr _ _ (h.setPort _ _ (h.setPort _ _ hs))))

theorem closed_event (h : StepClosed P) {run : State → State} (hr : ∀ s, P s → P (run s)) (s t : State)
    (hs : P s) (ht : event run s = .next t) : P t := by
  cases ht
  exact closed_finishEvent h.toClosed _ (hr s hs)

theorem closed_dockEvent (h : StepClosed P) {run : Dock → State → State}
    (hr : ∀ d s, P s → P (run d s)) (n : Nat) (s t : State) (hs : P s)
    (ht : dockEvent n run s = .next t) : P t := by
  unfold dockEvent at ht
  split at ht <;> cases ht
  exact closed_finishEvent h.toClosed _ (hr _ s hs)

theorem closed_secondsTick (h : StepClosed P) (r : Byte) (s t : State) (hs : P s)
    (ht : exec (.secondsTick r) s = .next t) : P t := by
  simp only [exec, execSecondsTick, Host.Outcome.next.injEq] at ht
  subst ht
  have e := fun x => closed_finishEvent (P := P) h.toClosed x
  refine e _ (h.testActivation _ (e _ (closed_manifestTick h.toWorkClosed _ (e _ (closed_faultTick h.toCalmClosed _
    (e _ (closed_tripTick h.toCalmClosed _ (e _ (closed_hireTick h.toWorkClosed _ (e _ ?_))))))))))
  have h0 := e _ (closed_supplyTick h.toWorkClosed r _ (closed_advanceClock h.toWorkClosed s hs))
  split
  · exact closed_cardTick h.toCalmClosed _ h0
  · exact h0

/-- A command keeps what every primitive update keeps. -/
theorem closed_exec (h : StepClosed P) (c : Instr) (s t : State) (hs : P s) (ht : exec c s = .next t) :
    P t := by
  cases c with
  | setConfig args =>
    simp only [exec, execSetConfig] at ht
    exact closed_changeCommand h (fun _ s hs => closed_setConfig h.toWorkClosed _ _ s hs) _ args s t hs ht
  | setTime args =>
    simp only [exec, execSetTime] at ht
    exact closed_changeCommand h (fun _ s hs => closed_setTime h.toWorkClosed _ s hs) _ args s t hs ht
  | setMask args =>
    simp only [exec, execSetMask] at ht
    exact closed_changeCommand h (fun _ s hs => closed_setMask h.toWorkClosed _ _ s hs) _ args s t hs ht
  | loadCard args =>
    simp only [exec, execLoadCard] at ht
    exact closed_changeCommand h (fun _ s hs => closed_loadCard h.toWorkClosed _ s hs) _ args s t hs ht
  | retireCard args =>
    simp only [exec, execRetireCard] at ht
    exact closed_changeCommand h (fun _ s hs => closed_retireCard h.toWorkClosed _ s hs) _ args s t hs ht
  | refuseCard args =>
    simp only [exec, execRefuseCard] at ht
    exact closed_changeCommand h (fun _ s hs => closed_refuseCard h.toWorkClosed _ s hs) _ args s t hs ht
  | remoteHire args =>
    simp only [exec, execRemoteHire] at ht
    exact closed_changeCommand h (fun _ s hs => closed_remoteHire h.toWorkClosed _ _ s hs) _ args s t hs ht
  | closeRemote args =>
    simp only [exec, execCloseRemote] at ht
    exact closed_changeCommand h (fun _ s hs => closed_closeRemote h.toWorkClosed _ _ _ _ s hs) _ args s t hs ht
  | collectTrip args =>
    simp only [exec, execCollectTrip] at ht
    exact closed_changeCommand h (fun _ s hs => closed_collectTrip h.toWorkClosed _ _ s hs) _ args s t hs ht
  | writePlan args =>
    simp only [exec, execWritePlan] at ht
    exact closed_changeCommand h (fun _ s hs => closed_writePlan h.toWorkClosed _ s hs) _ args s t hs ht
  | writeStationTerms args =>
    simp only [exec, execWriteStationTerms] at ht
    exact closed_changeCommand h (fun _ s hs => closed_writeTerms h.toWorkClosed _ _ s hs) _ args s t hs ht
  | activateTariff args =>
    simp only [exec, execActivateTariff] at ht
    exact closed_changeCommand h (fun _ s hs => closed_activateTariff h.toWorkClosed _ _ s hs) _ args s t hs ht
  | raiseFault args =>
    simp only [exec, execRaiseFault] at ht
    exact closed_changeCommand h (fun _ s hs => closed_raiseFault h.toWorkClosed _ _ s hs) _ args s t hs ht
  | clearFault args =>
    simp only [exec, execClearFault] at ht
    exact closed_changeCommand h (fun _ s hs => closed_clearFault h.toWorkClosed _ _ _ s hs) _ args s t hs ht
  | stageHeader args =>
    simp only [exec, execStageHeader] at ht
    exact closed_changeCommand h (fun _ s hs => closed_stageHeader h.toWorkClosed _ s hs) _ args s t hs ht
  | stageMove args =>
    simp only [exec, execStageMove] at ht
    exact closed_changeCommand h (fun _ s hs => closed_stageMove h.toWorkClosed _ _ _ _ s hs) _ args s t hs ht
  | commitManifest args =>
    simp only [exec, execCommitManifest] at ht
    exact closed_changeCommand h (fun _ s hs => closed_commitManifest h.toWorkClosed s hs) _ args s t hs ht
  | suspendManifest args =>
    simp only [exec, execSuspendManifest] at ht
    exact closed_changeCommand h (fun _ s hs => closed_suspendManifest h.toWorkClosed s hs) _ args s t hs ht
  | resumeManifest args =>
    simp only [exec, execResumeManifest] at ht
    exact closed_changeCommand h (fun _ s hs => closed_resumeManifest h.toWorkClosed s hs) _ args s t hs ht
  | cancelManifest args =>
    simp only [exec, execCancelManifest] at ht
    exact closed_changeCommand h (fun _ s hs => closed_cancelManifest h.toWorkClosed _ s hs) _ args s t hs ht
  | setExpiry args =>
    simp only [exec, execSetExpiry] at ht
    exact closed_changeCommand h (fun _ s hs => closed_setExpiry h.toWorkClosed _ s hs) _ args s t hs ht
  | ackManifest args =>
    simp only [exec, execAckManifest] at ht
    exact closed_changeCommand h (fun _ s hs => closed_ackManifest h.toWorkClosed _ s hs) _ args s t hs ht
  | reinit args =>
    simp only [exec, execReinit] at ht
    exact closed_changeCommand h (fun _ s hs => by dsimp only; exact closed_reinitWork h.toWorkClosed s hs) _ args s t hs ht
  | readNotices args =>
    simp only [exec, execReadNotices] at ht
    exact closed_pureRead h _ args s t hs ht
  | readConfig args =>
    simp only [exec, execReadConfig] at ht
    exact closed_pureRead h _ args s t hs ht
  | readTime args =>
    simp only [exec, execReadTime] at ht
    exact closed_pureRead h _ args s t hs ht
  | readDock args =>
    simp only [exec, execReadDock] at ht
    exact closed_pureRead h _ args s t hs ht
  | findCard args =>
    simp only [exec, execFindCard] at ht
    exact closed_pureRead h _ args s t hs ht
  | scanCards args =>
    simp only [exec, execScanCards] at ht
    exact closed_pureRead h _ args s t hs ht
  | nextRefer args =>
    simp only [exec, execNextRefer] at ht
    exact closed_pureRead h _ args s t hs ht
  | readTrip args =>
    simp only [exec, execReadTrip] at ht
    exact closed_pureRead h _ args s t hs ht
  | nextPriced args =>
    simp only [exec, execNextPriced] at ht
    exact closed_pureRead h _ args s t hs ht
  | readPlan args =>
    simp only [exec, execReadPlan] at ht
    exact closed_pureRead h _ args s t hs ht
  | quoteFare args =>
    simp only [exec, execQuoteFare] at ht
    exact closed_pureRead h _ args s t hs ht
  | readManifest args =>
    simp only [exec, execReadManifest] at ht
    exact closed_pureRead h _ args s t hs ht
  | readFault args =>
    simp only [exec, execReadFault] at ht
    exact closed_readCommand h (fun _ s hs => closed_readFault h.toWorkClosed _ s hs) _ args s t hs ht
  | nextFault args =>
    simp only [exec, execNextFault] at ht
    exact closed_readCommand h (fun _ s hs => closed_nextFault h.toWorkClosed s hs) _ args s t hs ht
  | admitCard args =>
    simp only [exec, execAdmitCard] at ht
    refine closed_changeCommand h (fun a s hs => ?_) 13 args s t hs ht
    split
    · exact hs
    · exact closed_admitRecord h.toWorkClosed _ s hs
  | resetPin => cases ht; exact h.reset s
  | frameBitCountError bytes extra =>
    simp only [exec, execFrameBitCountError] at ht
    split at ht <;> cases ht
    exact h.setPort _ _ (closed_clockFrame h _ _ s hs)
  | unknownOpcode opcode args =>
    simp only [exec, execUnknownOpcode] at ht
    split at ht
    · cases ht
    · cases hb : (sendStatus (args.length + 1) s).busy <;> rw [hb] at ht <;> cases ht <;>
        exact h.setPort _ _ (h.setPort _ _ hs)
  | readStatus args => cases ht; exact closed_clockFrame h _ _ s hs
  | fetchResult args => cases ht; exact closed_clockFrame h _ _ s hs
  | changeCommandFinished =>
    simp only [exec, execChangeCommandFinished] at ht
    split at ht <;> cases ht
    · exact h.setPort _ _ hs
    · exact hs
  | secondsTick r => exact closed_secondsTick h r s t hs ht
  | roundTimerExpiry =>
    simp only [exec, execRoundTimerExpiry] at ht
    exact closed_event h (fun s hs => closed_roundExpiry h.toStringClosed s hs) s t hs ht
  | stringCharacterReceived e b m =>
    simp only [exec, execStringCharacterReceived] at ht
    exact closed_event h (fun s hs => closed_stringChar h.toStringClosed e b m s hs) s t hs ht
  | answerWindowExpiry =>
    simp only [exec, execAnswerWindowExpiry] at ht
    exact closed_event h (fun s hs => closed_windowEnd h.toStringClosed s hs) s t hs ht
  | coilCountExpiry n =>
    simp only [exec, execCoilCountExpiry] at ht
    split at ht <;> cases ht
    apply closed_finishEvent h.toClosed
    split
    · exact closed_freeToken h.toClosed _ s hs
    · exact hs
  | pullWindowExpiry n =>
    simp only [exec, execPullWindowExpiry] at ht
    exact closed_dockEvent h (fun d s hs => closed_pullWindowEnd h.toWorkClosed d s hs) n s t hs ht
  | referTimeout c =>
    simp only [exec, execReferTimeout] at ht
    refine closed_event h (fun s hs => ?_) s t hs ht
    unfold referEnd
    split
    · split
      · exact hs
      · exact closed_showRefusal h.toLampClosed _ _ _ (closed_retireRefer h.toCalmClosed c s hs)
    · exact hs
  | refusalFlashExpiry n =>
    simp only [exec, execRefusalFlashExpiry] at ht
    refine closed_dockEvent h (fun d s hs => ?_) n s t hs ht
    split
    · exact closed_selectLamp h.toLampClosed _ _ (h.setDock _ _ _ hs)
    · exact hs
  | reportWindowExpiry n =>
    simp only [exec, execReportWindowExpiry] at ht
    exact closed_dockEvent h (fun d s hs => h.setFaultDock d _ s hs) n s t hs ht
  | manifestExpiry =>
    simp only [exec, execManifestExpiry] at ht
    refine closed_event h (fun s hs => ?_) s t hs ht
    split
    · exact closed_endManifest h.toCalmClosed _ _ (h.setManifest _ s hs)
    · exact hs
  | activationReached =>
    simp only [exec, execActivationReached] at ht
    exact closed_event h (fun s hs => h.testActivation s hs) s t hs ht

/-- A step keeps what every primitive update and the parts of a period of the reference clock keep. -/
theorem closed_step (h : StepClosed P) (hp : ∀ (l : List Instr) (s : State), P s → P { s with pending := l })
    (hb : ∀ s, P s → P (beginPeriod s)) (hm : ∀ s, P s → P (countDown s))
    (hc : ∀ s, P s → P (countPeriod s)) (s t : State) (hs : P s) (ht : step s = .next t) : P t := by
  unfold step at ht
  split at ht
  · exact closed_exec h _ _ t (hp _ s hs) ht
  · cases ht
    refine hc _ (hp _ _ ?_)
    have h0 := hb _ (h.takeNext s hs)
    split
    · exact hm _ h0
    · exact h0

end Sys2Proof.Machine
end

