-- ==== Sys2Proof/Laws/Tables.lean ====
section
/-! SUPPORT. Reading a table after one of its updates, and the operations that write only some of the
fields of State. -/

namespace Sys2Proof.Machine

open Sys2Proof

/-! ### Tables -/

@[simp] theorem get_set {α : Type} {n : Nat} (v : Vector α n) (i j : Fin n) (x : α) :
    (v.set i.val x i.isLt).get j = if i = j then x else v.get j := by
  simp only [Vector.get_eq_getElem, Vector.getElem_set, Fin.ext_iff]

@[simp] theorem upd_get {α : Type} {n : Nat} (v : Vector α n) (i j : Fin n) (f : α → α) :
    (upd v i f).get j = if i = j then f (v.get i) else v.get j := get_set v i j _

@[simp] theorem mapTable_get {α β : Type} {n : Nat} (f : α → β) (v : Vector α n) (i : Fin n) :
    (mapTable f v).get i = f (v.get i) := by
  simp [mapTable, Vector.get_eq_getElem]

@[simp] theorem replicate_get {α : Type} {n : Nat} (x : α) (i : Fin n) :
    (Vector.replicate n x).get i = x := by
  simp [Vector.get_eq_getElem]

@[simp] theorem ofFn_get {α : Type} {n : Nat} (f : Fin n → α) (i : Fin n) : (Vector.ofFn f).get i = f i := by
  simp [Vector.get_eq_getElem]

variable (s : State)

@[simp] theorem setDock_dock (d e : Dock) (f : DockRecord → DockRecord) :
    (s.setDock d f).dock e = if d = e then f (s.dock d) else s.dock e := upd_get _ _ _ _

@[simp] theorem mapDocks_dock (e : Dock) (f : DockRecord → DockRecord) :
    (s.mapDocks f).dock e = f (s.dock e) := mapTable_get _ _ _

@[simp] theorem setLink_link (n m : Node) (f : LinkRecord → LinkRecord) :
    (s.setLink n f).link m = if n = m then f (s.link n) else s.link m := upd_get _ _ _ _

@[simp] theorem setRelease_release (d e : Dock) (x : Option ReleaseContext) :
    (s.setRelease d x).release e = if d = e then x else s.release e := get_set _ _ _ _

@[simp] theorem setCancel_cancel (d e : Dock) (x : Option CancelContext) :
    (s.setCancel d x).cancel e = if d = e then x else s.cancel e := get_set _ _ _ _

@[simp] theorem setFaultDock_faultDock (d e : Dock) (f : FaultDock → FaultDock) :
    (s.setFaultDock d f).faultDock e = if d = e then f (s.faultDock d) else s.faultDock e :=
  upd_get _ _ _ _

@[simp] theorem setToken_get (i j : Fin 3) (x : Token) :
    (s.setToken i x).hire.tokens.get j = if i = j then x else s.hire.tokens.get j := get_set _ _ _ _

/-! ### Operations that write only some fields -/

theorem beginCall_only (e : QueueEntry) : beginCall e s = { s with string := (beginCall e s).string } := by
  unfold beginCall
  dsimp only
  split <;> rfl

theorem takeNext_only : takeNext s = { s with string := (takeNext s).string } := by
  unfold takeNext
  repeat' split
  · rfl
  · rfl
  · exact beginCall_only s _
  · rfl

theorem freeString_only : freeString s = { s with string := (freeString s).string } := by
  unfold freeString
  rw [takeNext_only]

theorem notShown_only (t : Target) : notShown t s = { s with docks := (notShown t s).docks } := by
  unfold notShown
  repeat' split
  all_goals rfl

theorem enqueue_only (r : QueueEntry) : enqueue r s =
    { s with
      string := (enqueue r s).string,
      docks := (enqueue r s).docks,
      agenda := (enqueue r s).agenda } := by
  unfold enqueue
  dsimp only
  repeat' split
  all_goals first
    | rfl
    | (rw [notShown_only]; rfl)
    | (rw [notShown_only])

theorem addCard_only (e : CardEntry) : s.addCard e = { s with cards := (s.addCard e).cards } := by
  unfold State.addCard
  repeat' split
  all_goals rfl

theorem addRefer_only (r : ReferSlot) : s.addRefer r = { s with refers := (s.addRefer r).refers } := by
  unfold State.addRefer
  split <;> rfl

theorem joinHire_only (r : HireRequest) : s.joinHire r = { s with hire := (s.joinHire r).hire } := by
  unfold State.joinHire
  split <;> rfl

theorem addTrip_only (r : TripRecord) : s.addTrip r =
    { s with trips := (s.addTrip r).trips, agenda := (s.addTrip r).agenda } := by
  unfold State.addTrip
  split <;> rfl

theorem addFault_only (r : FaultRecord) : s.addFault r = { s with faults := (s.addFault r).faults } := by
  unfold State.addFault
  repeat' split
  all_goals rfl

theorem testActivation_only : testActivation s =
    { s with fare := (testActivation s).fare, agenda := (testActivation s).agenda } := by
  unfold testActivation
  repeat' split
  all_goals rfl

/-! ### takeNext -/

@[simp] theorem takeNext_pending : (takeNext s).pending = s.pending := by rw [takeNext_only]
@[simp] theorem takeNext_settings : (takeNext s).settings = s.settings := by rw [takeNext_only]
@[simp] theorem takeNext_clock : (takeNext s).clock = s.clock := by rw [takeNext_only]
@[simp] theorem takeNext_supply : (takeNext s).supply = s.supply := by rw [takeNext_only]
@[simp] theorem takeNext_fare : (takeNext s).fare = s.fare := by rw [takeNext_only]
@[simp] theorem takeNext_port : (takeNext s).port = s.port := by rw [takeNext_only]
@[simp] theorem takeNext_docks : (takeNext s).docks = s.docks := by rw [takeNext_only]
@[simp] theorem takeNext_cards : (takeNext s).cards = s.cards := by rw [takeNext_only]
@[simp] theorem takeNext_refers : (takeNext s).refers = s.refers := by rw [takeNext_only]
@[simp] theorem takeNext_terminal : (takeNext s).terminal = s.terminal := by rw [takeNext_only]
@[simp] theorem takeNext_hire : (takeNext s).hire = s.hire := by rw [takeNext_only]
@[simp] theorem takeNext_trips : (takeNext s).trips = s.trips := by rw [takeNext_only]
@[simp] theorem takeNext_deferred : (takeNext s).deferred = s.deferred := by rw [takeNext_only]
@[simp] theorem takeNext_faults : (takeNext s).faults = s.faults := by rw [takeNext_only]
@[simp] theorem takeNext_manifest : (takeNext s).manifest = s.manifest := by rw [takeNext_only]
@[simp] theorem takeNext_agenda : (takeNext s).agenda = s.agenda := by rw [takeNext_only]
@[simp] theorem takeNext_senseCount : (takeNext s).senseCount = s.senseCount := by rw [takeNext_only]

/-! ### freeString -/

@[simp] theorem freeString_pending : (freeString s).pending = s.pending := by rw [freeString_only]
@[simp] theorem freeString_settings : (freeString s).settings = s.settings := by rw [freeString_only]
@[simp] theorem freeString_clock : (freeString s).clock = s.clock := by rw [freeString_only]
@[simp] theorem freeString_supply : (freeString s).supply = s.supply := by rw [freeString_only]
@[simp] theorem freeString_fare : (freeString s).fare = s.fare := by rw [freeString_only]
@[simp] theorem freeString_port : (freeString s).port = s.port := by rw [freeString_only]
@[simp] theorem freeString_docks : (freeString s).docks = s.docks := by rw [freeString_only]
@[simp] theorem freeString_cards : (freeString s).cards = s.cards := by rw [freeString_only]
@[simp] theorem freeString_refers : (freeString s).refers = s.refers := by rw [freeString_only]
@[simp] theorem freeString_terminal : (freeString s).terminal = s.terminal := by rw [freeString_only]
@[simp] theorem freeString_hire : (freeString s).hire = s.hire := by rw [freeString_only]
@[simp] theorem freeString_trips : (freeString s).trips = s.trips := by rw [freeString_only]
@[simp] theorem freeString_deferred : (freeString s).deferred = s.deferred := by rw [freeString_only]
@[simp] theorem freeString_faults : (freeString s).faults = s.faults := by rw [freeString_only]
@[simp] theorem freeString_manifest : (freeString s).manifest = s.manifest := by rw [freeString_only]
@[simp] theorem freeString_agenda : (freeString s).agenda = s.agenda := by rw [freeString_only]
@[simp] theorem freeString_senseCount : (freeString s).senseCount = s.senseCount := by rw [freeString_only]

/-! ### enqueue -/

@[simp] theorem enqueue_pending (r : QueueEntry) : (enqueue r s).pending = s.pending := by rw [enqueue_only]
@[simp] theorem enqueue_settings (r : QueueEntry) : (enqueue r s).settings = s.settings := by rw [enqueue_only]
@[simp] theorem enqueue_clock (r : QueueEntry) : (enqueue r s).clock = s.clock := by rw [enqueue_only]
@[simp] theorem enqueue_supply (r : QueueEntry) : (enqueue r s).supply = s.supply := by rw [enqueue_only]
@[simp] theorem enqueue_fare (r : QueueEntry) : (enqueue r s).fare = s.fare := by rw [enqueue_only]
@[simp] theorem enqueue_port (r : QueueEntry) : (enqueue r s).port = s.port := by rw [enqueue_only]
@[simp] theorem enqueue_cards (r : QueueEntry) : (enqueue r s).cards = s.cards := by rw [enqueue_only]
@[simp] theorem enqueue_refers (r : QueueEntry) : (enqueue r s).refers = s.refers := by rw [enqueue_only]
@[simp] theorem enqueue_terminal (r : QueueEntry) : (enqueue r s).terminal = s.terminal := by rw [enqueue_only]
@[simp] theorem enqueue_hire (r : QueueEntry) : (enqueue r s).hire = s.hire := by rw [enqueue_only]
@[simp] theorem enqueue_trips (r : QueueEntry) : (enqueue r s).trips = s.trips := by rw [enqueue_only]
@[simp] theorem enqueue_deferred (r : QueueEntry) : (enqueue r s).deferred = s.deferred := by rw [enqueue_only]
@[simp] theorem enqueue_faults (r : QueueEntry) : (enqueue r s).faults = s.faults := by rw [enqueue_only]
@[simp] theorem enqueue_manifest (r : QueueEntry) : (enqueue r s).manifest = s.manifest := by rw [enqueue_only]
@[simp] theorem enqueue_senseCount (r : QueueEntry) : (enqueue r s).senseCount = s.senseCount := by rw [enqueue_only]

/-! ### addCard -/

@[simp] theorem addCard_pending (e : CardEntry) : (s.addCard e).pending = s.pending := by rw [addCard_only]
@[simp] theorem addCard_settings (e : CardEntry) : (s.addCard e).settings = s.settings := by rw [addCard_only]
@[simp] theorem addCard_clock (e : CardEntry) : (s.addCard e).clock = s.clock := by rw [addCard_only]
@[simp] theorem addCard_supply (e : CardEntry) : (s.addCard e).supply = s.supply := by rw [addCard_only]
@[simp] theorem addCard_fare (e : CardEntry) : (s.addCard e).fare = s.fare := by rw [addCard_only]
@[simp] theorem addCard_port (e : CardEntry) : (s.addCard e).port = s.port := by rw [addCard_only]
@[simp] theorem addCard_string (e : CardEntry) : (s.addCard e).string = s.string := by rw [addCard_only]
@[simp] theorem addCard_docks (e : CardEntry) : (s.addCard e).docks = s.docks := by rw [addCard_only]
@[simp] theorem addCard_refers (e : CardEntry) : (s.addCard e).refers = s.refers := by rw [addCard_only]
@[simp] theorem addCard_terminal (e : CardEntry) : (s.addCard e).terminal = s.terminal := by rw [addCard_only]
@[simp] theorem addCard_hire (e : CardEntry) : (s.addCard e).hire = s.hire := by rw [addCard_only]
@[simp] theorem addCard_trips (e : CardEntry) : (s.addCard e).trips = s.trips := by rw [addCard_only]
@[simp] theorem addCard_deferred (e : CardEntry) : (s.addCard e).deferred = s.deferred := by rw [addCard_only]
@[simp] theorem addCard_faults (e : CardEntry) : (s.addCard e).faults = s.faults := by rw [addCard_only]
@[simp] theorem addCard_manifest (e : CardEntry) : (s.addCard e).manifest = s.manifest := by rw [addCard_only]
@[simp] theorem addCard_agenda (e : CardEntry) : (s.addCard e).agenda = s.agenda := by rw [addCard_only]
@[simp] theorem addCard_senseCount (e : CardEntry) : (s.addCard e).senseCount = s.senseCount := by rw [addCard_only]

/-! ### addRefer -/

@[simp] theorem addRefer_pending (r : ReferSlot) : (s.addRefer r).pending = s.pending := by rw [addRefer_only]
@[simp] theorem addRefer_settings (r : ReferSlot) : (s.addRefer r).settings = s.settings := by rw [addRefer_only]
@[simp] theorem addRefer_clock (r : ReferSlot) : (s.addRefer r).clock = s.clock := by rw [addRefer_only]
@[simp] theorem addRefer_supply (r : ReferSlot) : (s.addRefer r).supply = s.supply := by rw [addRefer_only]
@[simp] theorem addRefer_fare (r : ReferSlot) : (s.addRefer r).fare = s.fare := by rw [addRefer_only]
@[simp] theorem addRefer_port (r : ReferSlot) : (s.addRefer r).port = s.port := by rw [addRefer_only]
@[simp] theorem addRefer_string (r : ReferSlot) : (s.addRefer r).string = s.string := by rw [addRefer_only]
@[simp] theorem addRefer_docks (r : ReferSlot) : (s.addRefer r).docks = s.docks := by rw [addRefer_only]
@[simp] theorem addRefer_cards (r : ReferSlot) : (s.addRefer r).cards = s.cards := by rw [addRefer_only]
@[simp] theorem addRefer_terminal (r : ReferSlot) : (s.addRefer r).terminal = s.terminal := by rw [addRefer_only]
@[simp] theorem addRefer_hire (r : ReferSlot) : (s.addRefer r).hire = s.hire := by rw [addRefer_only]
@[simp] theorem addRefer_trips (r : ReferSlot) : (s.addRefer r).trips = s.trips := by rw [addRefer_only]
@[simp] theorem addRefer_deferred (r : ReferSlot) : (s.addRefer r).deferred = s.deferred := by rw [addRefer_only]
@[simp] theorem addRefer_faults (r : ReferSlot) : (s.addRefer r).faults = s.faults := by rw [addRefer_only]
@[simp] theorem addRefer_manifest (r : ReferSlot) : (s.addRefer r).manifest = s.manifest := by rw [addRefer_only]
@[simp] theorem addRefer_agenda (r : ReferSlot) : (s.addRefer r).agenda = s.agenda := by rw [addRefer_only]
@[simp] theorem addRefer_senseCount (r : ReferSlot) : (s.addRefer r).senseCount = s.senseCount := by rw [addRefer_only]

/-! ### joinHire -/

@[simp] theorem joinHire_pending (r : HireRequest) : (s.joinHire r).pending = s.pending := by rw [joinHire_only]
@[simp] theorem joinHire_settings (r : HireRequest) : (s.joinHire r).settings = s.settings := by rw [joinHire_only]
@[simp] theorem joinHire_clock (r : HireRequest) : (s.joinHire r).clock = s.clock := by rw [joinHire_only]
@[simp] theorem joinHire_supply (r : HireRequest) : (s.joinHire r).supply = s.supply := by rw [joinHire_only]
@[simp] theorem joinHire_fare (r : HireRequest) : (s.joinHire r).fare = s.fare := by rw [joinHire_only]
@[simp] theorem joinHire_port (r : HireRequest) : (s.joinHire r).port = s.port := by rw [joinHire_only]
@[simp] theorem joinHire_string (r : HireRequest) : (s.joinHire r).string = s.string := by rw [joinHire_only]
@[simp] theorem joinHire_docks (r : HireRequest) : (s.joinHire r).docks = s.docks := by rw [joinHire_only]
@[simp] theorem joinHire_cards (r : HireRequest) : (s.joinHire r).cards = s.cards := by rw [joinHire_only]
@[simp] theorem joinHire_refers (r : HireRequest) : (s.joinHire r).refers = s.refers := by rw [joinHire_only]
@[simp] theorem joinHire_terminal (r : HireRequest) : (s.joinHire r).terminal = s.terminal := by rw [joinHire_only]
@[simp] theorem joinHire_trips (r : HireRequest) : (s.joinHire r).trips = s.trips := by rw [joinHire_only]
@[simp] theorem joinHire_deferred (r : HireRequest) : (s.joinHire r).deferred = s.deferred := by rw [joinHire_only]
@[simp] theorem joinHire_faults (r : HireRequest) : (s.joinHire r).faults = s.faults := by rw [joinHire_only]
@[simp] theorem joinHire_manifest (r : HireRequest) : (s.joinHire r).manifest = s.manifest := by rw [joinHire_only]
@[simp] theorem joinHire_agenda (r : HireRequest) : (s.joinHire r).agenda = s.agenda := by rw [joinHire_only]
@[simp] theorem joinHire_senseCount (r : HireRequest) : (s.joinHire r).senseCount = s.senseCount := by rw [joinHire_only]

/-! ### addTrip -/

@[simp] theorem addTrip_pending (r : TripRecord) : (s.addTrip r).pending = s.pending := by rw [addTrip_only]
@[simp] theorem addTrip_settings (r : TripRecord) : (s.addTrip r).settings = s.settings := by rw [addTrip_only]
@[simp] theorem addTrip_clock (r : TripRecord) : (s.addTrip r).clock = s.clock := by rw [addTrip_only]
@[simp] theorem addTrip_supply (r : TripRecord) : (s.addTrip r).supply = s.supply := by rw [addTrip_only]
@[simp] theorem addTrip_fare (r : TripRecord) : (s.addTrip r).fare = s.fare := by rw [addTrip_only]
@[simp] theorem addTrip_port (r : TripRecord) : (s.addTrip r).port = s.port := by rw [addTrip_only]
@[simp] theorem addTrip_string (r : TripRecord) : (s.addTrip r).string = s.string := by rw [addTrip_only]
@[simp] theorem addTrip_docks (r : TripRecord) : (s.addTrip r).docks = s.docks := by rw [addTrip_only]
@[simp] theorem addTrip_cards (r : TripRecord) : (s.addTrip r).cards = s.cards := by rw [addTrip_only]
@[simp] theorem addTrip_refers (r : TripRecord) : (s.addTrip r).refers = s.refers := by rw [addTrip_only]
@[simp] theorem addTrip_terminal (r : TripRecord) : (s.addTrip r).terminal = s.terminal := by rw [addTrip_only]
@[simp] theorem addTrip_hire (r : TripRecord) : (s.addTrip r).hire = s.hire := by rw [addTrip_only]
@[simp] theorem addTrip_deferred (r : TripRecord) : (s.addTrip r).deferred = s.deferred := by rw [addTrip_only]
@[simp] theorem addTrip_faults (r : TripRecord) : (s.addTrip r).faults = s.faults := by rw [addTrip_only]
@[simp] theorem addTrip_manifest (r : TripRecord) : (s.addTrip r).manifest = s.manifest := by rw [addTrip_only]
@[simp] theorem addTrip_senseCount (r : TripRecord) : (s.addTrip r).senseCount = s.senseCount := by rw [addTrip_only]

/-! ### addFault -/

@[simp] theorem addFault_pending (r : FaultRecord) : (s.addFault r).pending = s.pending := by rw [addFault_only]
@[simp] theorem addFault_settings (r : FaultRecord) : (s.addFault r).settings = s.settings := by rw [addFault_only]
@[simp] theorem addFault_clock (r : FaultRecord) : (s.addFault r).clock = s.clock := by rw [addFault_only]
@[simp] theorem addFault_supply (r : FaultRecord) : (s.addFault r).supply = s.supply := by rw [addFault_only]
@[simp] theorem addFault_fare (r : FaultRecord) : (s.addFault r).fare = s.fare := by rw [addFault_only]
@[simp] theorem addFault_port (r : FaultRecord) : (s.addFault r).port = s.port := by rw [addFault_only]
@[simp] theorem addFault_string (r : FaultRecord) : (s.addFault r).string = s.string := by rw [addFault_only]
@[simp] theorem addFault_docks (r : FaultRecord) : (s.addFault r).docks = s.docks := by rw [addFault_only]
@[simp] theorem addFault_cards (r : FaultRecord) : (s.addFault r).cards = s.cards := by rw [addFault_only]
@[simp] theorem addFault_refers (r : FaultRecord) : (s.addFault r).refers = s.refers := by rw [addFault_only]
@[simp] theorem addFault_terminal (r : FaultRecord) : (s.addFault r).terminal = s.terminal := by rw [addFault_only]
@[simp] theorem addFault_hire (r : FaultRecord) : (s.addFault r).hire = s.hire := by rw [addFault_only]
@[simp] theorem addFault_trips (r : FaultRecord) : (s.addFault r).trips = s.trips := by rw [addFault_only]
@[simp] theorem addFault_deferred (r : FaultRecord) : (s.addFault r).deferred = s.deferred := by rw [addFault_only]
@[simp] theorem addFault_manifest (r : FaultRecord) : (s.addFault r).manifest = s.manifest := by rw [addFault_only]
@[simp] theorem addFault_agenda (r : FaultRecord) : (s.addFault r).agenda = s.agenda := by rw [addFault_only]
@[simp] theorem addFault_senseCount (r : FaultRecord) : (s.addFault r).senseCount = s.senseCount := by rw [addFault_only]

/-! ### testActivation -/

@[simp] theorem testActivation_pending : (testActivation s).pending = s.pending := by rw [testActivation_only]
@[simp] theorem testActivation_settings : (testActivation s).settings = s.settings := by rw [testActivation_only]
@[simp] theorem testActivation_clock : (testActivation s).clock = s.clock := by rw [testActivation_only]
@[simp] theorem testActivation_supply : (testActivation s).supply = s.supply := by rw [testActivation_only]
@[simp] theorem testActivation_port : (testActivation s).port = s.port := by rw [testActivation_only]
@[simp] theorem testActivation_string : (testActivation s).string = s.string := by rw [testActivation_only]
@[simp] theorem testActivation_docks : (testActivation s).docks = s.docks := by rw [testActivation_only]
@[simp] theorem testActivation_cards : (testActivation s).cards = s.cards := by rw [testActivation_only]
@[simp] theorem testActivation_refers : (testActivation s).refers = s.refers := by rw [testActivation_only]
@[simp] theorem testActivation_terminal : (testActivation s).terminal = s.terminal := by rw [testActivation_only]
@[simp] theorem testActivation_hire : (testActivation s).hire = s.hire := by rw [testActivation_only]
@[simp] theorem testActivation_trips : (testActivation s).trips = s.trips := by rw [testActivation_only]
@[simp] theorem testActivation_deferred : (testActivation s).deferred = s.deferred := by rw [testActivation_only]
@[simp] theorem testActivation_faults : (testActivation s).faults = s.faults := by rw [testActivation_only]
@[simp] theorem testActivation_manifest : (testActivation s).manifest = s.manifest := by rw [testActivation_only]
@[simp] theorem testActivation_senseCount : (testActivation s).senseCount = s.senseCount := by rw [testActivation_only]

end Sys2Proof.Machine
end

