-- ==== Sys2Proof/Laws/Kept.lean ====
section
/-! SUPPORT. What stays as it was: the settings, the clock, the supply, the banks and the port through the
string's work and the end of an event, the port and the waiting commands through a command's own work, the
link records through the work of the other blocks; and the keys of the ordered tables. -/

set_option linter.unusedTactic false
set_option linter.unreachableTactic false

namespace Sys2Proof.Machine

open Sys2Proof

/-! ### Fields that the work of an event leaves -/

theorem outside_closed (s0 : State) : StringClosed (fun t =>
    t.settings = s0.settings ∧ t.clock = s0.clock ∧ t.supply = s0.supply ∧ t.fare = s0.fare ∧
    t.port = s0.port ∧ t.pending = s0.pending ∧ t.senseCount = s0.senseCount) := by
  constructor
  · constructor
    · constructor
      · constructor <;> (intros; simp_all)
      all_goals (intros; simp_all [State.filterTrips])
    all_goals (intros; simp_all)
  all_goals (intros; simp_all)

theorem port_closed (p : Port) : WorkClosed (fun t => t.port = p) := by
  constructor
  · constructor
    · constructor
      · constructor
        · constructor <;> (intros; simp_all)
        all_goals (intros; simp_all [State.filterTrips])
      all_goals (intros; simp_all)
    all_goals (intros; simp_all)
  all_goals (intros; simp_all [setStaged, reinitString])

theorem pending_closed (l : List Instr) : WorkClosed (fun t => t.pending = l) := by
  constructor
  · constructor
    · constructor
      · constructor
        · constructor <;> (intros; simp_all)
        all_goals (intros; simp_all [State.filterTrips])
      all_goals (intros; simp_all)
    all_goals (intros; simp_all)
  all_goals (intros; simp_all [setStaged, reinitString])

/-! ### Link records -/

theorem link_of_links {s t : State} (h : t.string.links = s.string.links) (n : Node) :
    t.link n = s.link n := by
  unfold State.link
  rw [h]

theorem takeNext_links (s : State) : (takeNext s).string.links = s.string.links := by
  unfold takeNext beginCall
  repeat' split
  all_goals rfl

theorem enqueue_links (r : QueueEntry) (s : State) : (enqueue r s).string.links = s.string.links := by
  unfold enqueue
  dsimp only
  repeat' split
  all_goals first
    | rfl
    | (simp [notShown]; repeat' split)
  all_goals simp

/-- Outside the String Controller a link record's failures, contact state, preferred end and reach stay. -/
theorem link_closed (n : Node) (l : LinkRecord) : Closed (fun t =>
    (t.link n).failures = l.failures ∧ (t.link n).contact = l.contact ∧
    (t.link n).preferred = l.preferred ∧ (t.link n).reachA = l.reachA ∧ (t.link n).reachB = l.reachB) := by
  constructor
  · constructor
    · constructor
      · intros; simpa [State.link] using ‹_›
      · intro d a s h; rw [link_of_links (enqueue_links _ _)]; exact h
      · intro s h; rw [link_of_links (takeNext_links _)]; exact h
    · intro r s h; rw [link_of_links (enqueue_links _ _)]; exact h
    · intro m b s h
      rw [setLink_link]
      split
      · subst_vars; exact h
      · exact h
    all_goals (intros; simpa [State.link, State.filterTrips] using ‹_›)
  all_goals (intros; simpa [State.link] using ‹_›)

/-! ### What answers gave the dock records -/

theorem dock_of_docks {s t : State} (h : t.docks = s.docks) (d : Dock) : t.dock d = s.dock d := by
  unfold State.dock
  rw [h]

theorem setDock_known {f : DockRecord → DockRecord} (hf : ∀ r, (f r).known = r.known) (c d : Dock) (s : State) :
    ((s.setDock c f).dock d).known = (s.dock d).known := by
  rw [setDock_dock]
  split
  · subst_vars; exact hf _
  · rfl

theorem notShown_known (t : Target) (d : Dock) (s : State) :
    ((notShown t s).dock d).known = (s.dock d).known := by
  unfold notShown
  split
  · rw [mapDocks_dock]; rfl
  · split
    · rw [setDock_known]
      exact fun _ => rfl
    · rfl

theorem enqueue_known (r : QueueEntry) (d : Dock) (s : State) :
    ((enqueue r s).dock d).known = (s.dock d).known := by
  unfold enqueue
  dsimp only
  repeat' split
  all_goals first
    | rfl
    | exact notShown_known _ _ _
    | (rw [dock_of_docks (s := notShown _ _) rfl]; exact notShown_known _ _ _)

/-- The work of an event that is calm changes a dock record in its lamp, its flash and its reservation
alone. -/
theorem known_closed (d : Dock) (r : DockRecord) : CalmClosed (fun t => (t.dock d).known = r) := by
  constructor
  · constructor
    · intro c f s hf h; rw [setDock_known hf]; exact h
    · intro c a s h; rw [enqueue_known]; exact h
    · intro s h; rw [dock_of_docks (takeNext_docks _)]; exact h
  · intro e s h; rw [enqueue_known]; exact h
  all_goals (intros; simpa [State.dock, State.filterTrips] using ‹_›)

/-! ### Ordered tables -/

theorem mem_insertCard (e x : CardEntry) (l) : x ∈ insertCard e l ↔ x = e ∨ x ∈ l := by
  induction l with
  | nil => simp [insertCard]
  | cons y l ih => unfold insertCard; split <;> simp [ih]; tauto

theorem mem_insertTrip (e x : TripRecord) (l : List TripRecord) : x ∈ insertTrip e l ↔ x = e ∨ x ∈ l := by
  induction l with
  | nil => simp [insertTrip]
  | cons y l ih => unfold insertTrip; split <;> simp [ih]; tauto

theorem mem_insertFault (e x : FaultRecord) (l) : x ∈ insertFault e l ↔ x = e ∨ x ∈ l := by
  induction l with
  | nil => simp [insertFault]
  | cons y l ih => unfold insertFault; split <;> simp [ih]; tauto

theorem length_insertTrip (e : TripRecord) (l) : (insertTrip e l).length = l.length + 1 := by
  induction l with
  | nil => simp [insertTrip]
  | cons y l ih => unfold insertTrip; split <;> simp [ih]

theorem insertCard_ok (e : CardEntry) (l : List CardEntry) (h : l.Pairwise (fun a b => a.slot.val < b.slot.val ∧ a.card ≠ b.card))
   (h1 : ∀ x ∈ l, x.slot ≠ e.slot) (h2 : ∀ x ∈ l, x.card ≠ e.card) : (insertCard e l).Pairwise (fun a b => a.slot.val < b.slot.val ∧ a.card ≠ b.card) := by
  induction l with
  | nil => simp [insertCard]
  | cons y l ih =>
    unfold insertCard
    have hy := List.pairwise_cons.mp h
    split
    · rename_i hlt
      refine List.pairwise_cons.mpr ⟨?_, h⟩
      intro x hx
      refine ⟨?_, fun hh => h2 x hx hh.symm⟩
      rcases List.mem_cons.mp hx with rfl | hx
      · exact hlt
      · exact lt_trans hlt (hy.1 x hx).1
    · rename_i hge
      refine List.pairwise_cons.mpr ⟨?_, ih hy.2 (fun x hx => h1 x (List.mem_cons_of_mem _ hx)) (fun x hx => h2 x (List.mem_cons_of_mem _ hx))⟩
      intro x hx
      rcases (mem_insertCard _ _ _).mp hx with rfl | hx
      · have := h1 y (List.mem_cons_self ..)
        have h3 := h2 y (List.mem_cons_self ..)
        refine ⟨?_, h3⟩
        have : y.slot.val ≠ x.slot.val := fun hh => this (Fin.ext hh)
        omega
      · exact hy.1 x hx

theorem insertTrip_ok (e : TripRecord) (l : List TripRecord) (h : l.Pairwise (fun a b => a.bike.toNat < b.bike.toNat))
   (h1 : ∀ x ∈ l, x.bike ≠ e.bike) : (insertTrip e l).Pairwise (fun a b => a.bike.toNat < b.bike.toNat) := by
  induction l with
  | nil => simp [insertTrip]
  | cons y l ih =>
    unfold insertTrip
    have hy := List.pairwise_cons.mp h
    split
    · rename_i hlt
      refine List.pairwise_cons.mpr ⟨?_, h⟩
      intro x hx
      rcases List.mem_cons.mp hx with rfl | hx
      · exact hlt
      · exact lt_trans hlt (hy.1 x hx)
    · rename_i hge
      refine List.pairwise_cons.mpr ⟨?_, ih hy.2 (fun x hx => h1 x (List.mem_cons_of_mem _ hx))⟩
      intro x hx
      rcases (mem_insertTrip _ _ _).mp hx with rfl | hx
      · have := h1 y (List.mem_cons_self ..)
        have : y.bike.toNat ≠ x.bike.toNat := fun hh => this (BitVec.eq_of_toNat_eq hh)
        omega
      · exact hy.1 x hx

theorem insertFault_ok (e : FaultRecord) (l : List FaultRecord) (h : l.Pairwise (fun a b => a.slot.val < b.slot.val ∧ ¬(a.subject = b.subject ∧ a.kind = b.kind)))
   (h1 : ∀ x ∈ l, x.slot ≠ e.slot) (h2 : ∀ x ∈ l, ¬(x.subject = e.subject ∧ x.kind = e.kind)) : (insertFault e l).Pairwise (fun a b => a.slot.val < b.slot.val ∧ ¬(a.subject = b.subject ∧ a.kind = b.kind)) := by
  induction l with
  | nil => simp [insertFault]
  | cons y l ih =>
    unfold insertFault
    have hy := List.pairwise_cons.mp h
    split
    · rename_i hlt
      refine List.pairwise_cons.mpr ⟨?_, h⟩
      intro x hx
      refine ⟨?_, fun hh => h2 x hx ⟨hh.1.symm, hh.2.symm⟩⟩
      rcases List.mem_cons.mp hx with rfl | hx
      · exact hlt
      · exact lt_trans hlt (hy.1 x hx).1
    · rename_i hge
      refine List.pairwise_cons.mpr ⟨?_, ih hy.2 (fun x hx => h1 x (List.mem_cons_of_mem _ hx)) (fun x hx => h2 x (List.mem_cons_of_mem _ hx))⟩
      intro x hx
      rcases (mem_insertFault _ _ _).mp hx with rfl | hx
      · have := h1 y (List.mem_cons_self ..)
        have h3 := h2 y (List.mem_cons_self ..)
        refine ⟨?_, h3⟩
        have : y.slot.val ≠ x.slot.val := fun hh => this (Fin.ext hh)
        omega
      · exact hy.1 x hx


end Sys2Proof.Machine
end

