-- ==== Sys2Proof/Tests/Slice0.lean ====
section
/-! SUPPORT. Tests: ill-formed terms are refused, values worked out in the spec, and for every statement
with hypotheses a state and operands that meet them. -/

namespace Sys2Proof.Tests

set_option Elab.async false

open Sys2Proof Sys2Proof.Machine

/-! ### Well-formedness: each check refuses an ill-formed term -/

theorem test_bit_count_below : (Instr.frameBitCountError [] 0).wellFormed = false := by decide
theorem test_bit_count_above : (Instr.frameBitCountError [1] 8).wellFormed = false := by decide
theorem test_known_opcode : (Instr.unknownOpcode 0x20 []).wellFormed = false := by decide
theorem test_token_above : (Instr.coilCountExpiry 3).wellFormed = false := by decide
theorem test_pull_dock : (Instr.pullWindowExpiry 0).wellFormed = false := by decide
theorem test_flash_dock : (Instr.refusalFlashExpiry 31).wellFormed = false := by decide
theorem test_report_dock : (Instr.reportWindowExpiry 31).wellFormed = false := by decide

theorem test_well_formed_terms :
    [Instr.frameBitCountError [] 1, .frameBitCountError [2, 0, 0] 7, .unknownOpcode 0xFF [],
     .coilCountExpiry 2, .pullWindowExpiry 1, .refusalFlashExpiry 30, .reportWindowExpiry 30,
     .setConfig []].all Instr.wellFormed = true := by decide

theorem test_ill_formed_refused : exec (.coilCountExpiry 3) State.reset = .refused .illFormed ∧
    exec (.unknownOpcode 0x01 []) State.reset = .refused .illFormed := ⟨rfl, rfl⟩

theorem test_no_word_spells : decodeTableWord 8 0x01 = none ∧
    (State.withFetchWord State.reset 8 0x01).pending = [] := by decide

/-! ### Values worked out in the spec -/

theorem test_check_bytes : callBytes (.node 12) .survey [] = [0x0C, 0x10, 0xE4] ∧
    callBytes (.node 5) .mark [1] = [0x05, 0x22, 0x01, 0xD8] := by decide

/-- Plan 2 of the worked cases of chapter 6. -/
def planTwo : Plan :=
  { unlock := 100, grace := 120, factor := 96, cap := 2400, count := 3,
    band0 := { length := 30, block := 15, rate := 50 }, band1 := { length := 90, block := 30, rate := 150 },
    band2 := { length := 0, block := 60, rate := 300 }, band3 := .zero }

/-- Worked case A (section 6.8). -/
theorem test_case_a : (computeFare planTwo 50 5000 65535 true false false).fare = 350 := by decide

theorem test_rotation_clears : (FareUnit.reset.rotate 5).current.generation = 5 ∧
    (FareUnit.reset.rotate 5).staged = Bank.empty := by decide

theorem test_thresholds : Settings.reset.clamp 15 200 = 164 ∧ Settings.reset.clamp 15 100 = 135 ∧
    Settings.reset.clamp 18 255 = 150 ∧ Settings.reset.clamp 17 255 = 134 := by decide

theorem test_supply_states : supplyAfter .reset .normal 150 = .normal ∧
    supplyAfter .reset .normal 149 = .low ∧ supplyAfter .reset .normal 119 = .critical ∧
    supplyAfter .reset .low 165 = .low ∧ supplyAfter .reset .low 166 = .normal ∧
    supplyAfter .reset .critical 135 = .critical ∧ supplyAfter .reset .critical 136 = .low := by decide

/-! ### Frames -/

/-- The lookup of section 11.2 knows exactly its 40 codes. -/
theorem test_opcode_table : ∀ n ∈ List.range 256, (opcodeCommand n []).isSome = knownOpcodes.contains n := by
  decide +kernel

theorem test_frames_looked_up : frameCommand [0x38, 1] 0 = some (.closeRemote [1]) ∧
    frameCommand [0x39] 0 = some (.unknownOpcode 0x39 []) ∧
    frameCommand [0x01] 3 = some (.frameBitCountError [0x01] 3) ∧ frameCommand [] 0 = none := by decide

/-- The part after two periods with one status byte and, before them, one with another. -/
def trailed : State :=
  { State.reset with port := { Port.reset with trail := [(0xD1, 2), (0xF0, 1)] } }

/-- Each byte of a frame shows the status as it stood when that byte began. -/
theorem test_status_of_each_byte : trailed.frameStatus 1 = [0xD0] ∧ trailed.frameStatus 2 = [0xD1, 0xD0] ∧
    trailed.frameStatus 6 = [0xF0, 0xD1, 0xD1, 0xD0, 0xD0, 0xD0] := by decide

/-! ### Commands carried out -/

/-- The state that a command answers, or the one it began in. -/
def after (c : Instr) (s : State) : State :=
  match exec c s with
  | .next t => t
  | .fault _ | .refused _ => s

theorem test_status_at_reset : (after (.readStatus [0]) State.reset).port.sent = [0xD0, 0xD0] := by decide

theorem test_notices_at_reset : (after (.readNotices []) State.reset).port.read.content =
    some { code := .ok, data := [1, 128, 1, 255] } := by decide +kernel

theorem test_set_time : (after (.setTime [0, 0, 1, 0]) State.reset).clock =
    { time := 256, isSet := true, divider := 0 } := by decide +kernel

theorem test_set_config_clamped :
    (after .changeCommandFinished (after (.setConfig [7, 1, 0]) State.reset)).port.command.content =
      some { code := .clamped, data := [0, 30] } := by decide +kernel

theorem test_load_card : ((after (.loadCard [0, 0, 0, 0, 111, 0, 2, 0, 0, 0, 0, 0, 0]) State.reset).cards.map
    (fun e => (e.slot.val, e.card.toNat, e.plan.val))) = [(0, 111, 2)] := by decide +kernel

theorem test_reset_call_taken :
    ((after .roundTimerExpiry State.reset).string.flight.map (fun f => match f with
      | .broadcast e ms => (e.verb.code.toNat, ms)
      | .call c => (c.entry.verb.code.toNat, 0))) = some (0x31, 5) := by decide +kernel

/-! ### A small station for the witnesses -/

/-- Plan 0 of the worked cases: one open band. -/
def planZero : Plan := { planTwo with count := 1, band0 := { length := 0, block := 60, rate := 400 } }

def bankOf (g : Fin 16) : Bank :=
  { generation := g, valid := true, k := 50, w := 6,
    plans := (Vector.replicate 8 Plan.undefined).set 0 planZero }

def member : CardEntry :=
  { slot := 0, card := 111, cls := .member, plan := 0, blocked := false, activity := .idle,
    validUntil := none, link := none, queuedDock := none, guest := none }

def crew : CardEntry := { member with slot := 1, card := 222, cls := .crew }

def guest : CardEntry :=
  { member with slot := 2, card := 333, cls := .guest, activity := .settling, validUntil := some 900,
                guest := some { hold := 500, captured := 100, saleSequence := 7 } }

/-- A member who rides bicycle 500 since time 100. -/
def rider : CardEntry := { member with slot := 3, card := 444, activity := .riding, link := some (500, 100) }

def stampOf (card : CardNo) : StampFields :=
  { origin := 77, start := 100, card := card, plan := 0, generation := 3, ceiling := 65535 }

def tripOut500 : TripRecord :=
  { bike := 500, stamp := stampOf 444, state := .out, releaseDock := none, foreign := false,
    latePull := false, orphan := false, unstamped := false, unstampDock := none }

def priced9 : Pricing := { returnDock := 8, endTime := 900, fare := 400, flags := FareFlags.none }

/-- Bicycle 600 returned to dock 9, its stamp cleared. -/
def tripPriced600 : TripRecord :=
  { tripOut500 with bike := 600, stamp := stampOf 111, state := .priced priced9, unstamped := true }

def fault (i : Fin 32) (x : Subject) (k : FaultKind) (st : FaultState) : FaultRecord :=
  { slot := i, subject := x, kind := k, state := st, count := 0, reporters := [], firstTime := 800,
    seen := false, order := i.val }

def stuck : FaultRecord := fault 0 (.dock 10) .buttonStuck .active
def suspect : FaultRecord := fault 1 (.dock 11) .coilOpen .suspect
def clearing : FaultRecord := fault 2 (.dock 12) .coilShort .clearing
def lost : FaultRecord := fault 3 .terminal .noContact .active
def hostFault : FaultRecord := fault 4 (.bike 800) .hostReported .active

def referHeld : ReferSlot := { card := 888, dock := 3, tapTime := 990, remaining := 8000, reaimed := false }

def waitingRelease : ReleaseContext :=
  { kind := .member, card := 555, bike := 550, start := 950, phase := .waiting 20000, seenPresent := true }

def header (n : Nat) (follow : Bool) : ManifestHeader :=
  { number := n, crewCard := 0, expiryMinutes := 30, followOn := follow, moveCount := 1 }

def dropMove (st : MoveState) : Move :=
  { kind := .drop, dock := none, bike := none, state := st, heldDock := none, landedDock := none,
    doneDock := none, doneBike := none, latePull := false }

def active (p : ManifestPhase) (st : MoveState) : ActiveManifest :=
  { phase := p, header := header 412 false, moves := [dropMove st] }

def stagedWith (n : Nat) (follow held written : Bool) : StagedManifest :=
  { header := header n follow, held := held,
    moves := (Vector.replicate 16 none).set 0 (if written then some (dropMove .opened) else none) }

def station : State :=
  { State.reset with
    settings := { Settings.reset with stationNumber := 77 },
    clock := { time := 1000, isSet := true, divider := 0 },
    fare := { current := bankOf 3, previous := bankOf 2,
              staged := { bankOf 0 with valid := false }, activation := none, lastOutcome := .taken },
    string := { StringState.reset with
      queue := [], flight := none,
      links := Vector.ofFn (fun n => { LinkRecord.reset n with contact := .reachable }) },
    docks := (Vector.replicate 30 DockRecord.reset).set 4
      { DockRecord.reset with occupancy := .occupied, bike := some 700 },
    cards := [member, crew, guest, rider],
    refers := [referHeld],
    hire := { HireUnit.reset with
      tokens := (Vector.replicate 3 Token.free).set 0 (.lent 20 (.coil 800)),
      releases := (Vector.replicate 30 none).set 20 (some waitingRelease) },
    trips := [tripOut500, tripPriced600],
    faults := { FaultTable.reset with records := [stuck, suspect, clearing, lost, hostFault], nextOrder := 5 } }

/-- The station with a manifest in the active buffer and another in the staged one. -/
def withManifests (a : Option ActiveManifest) (g : Option StagedManifest) : State :=
  { station with manifest := { ManifestUnit.reset with active := a, staged := g } }

/-- The station while a change command is BUSY. -/
def busyStation : State := { station with port := { Port.reset with running := some (.plain .ok) } }

/-- A call to node 5 with its first attempt in progress. -/
def callTo (v : Verb) (p : AttemptPhase) : Call :=
  { node := 5, entry := request 5 v [] .dockMonitor, noted := .A, window := 5, retries := 1,
    retryOther := true, flip := true, contactAtTake := .reachable, ended := 0, on := .A,
    crossOf := none, phase := p, remaining := 5, splits := [] }

def calling (c : Call) : State := station.setCall c

/-! ### Timers that run out together, and slots re-aimed (R40, R60) -/

/-- The window of a call and a refusal flash have run out in the same millisecond. -/
def twoDue : State :=
  (calling { callTo .unstamp (.answering []) with remaining := 0 }).setDock 5
    (fun r => { r with flash := some { code := 3, remaining := 0 } })

theorem test_one_expiry_each_period : (clockPeriod twoDue).pending = [.answerWindowExpiry] ∧
    (clockPeriod twoDue).dueTimers = [.answerWindowExpiry, .refusalFlashExpiry 6] := by decide +kernel

/-- A refusal shown before the flash's expiry is queued leaves no expiry behind. -/
theorem test_restarted_flash : (clockPeriod (showRefusal 5 5
    (station.setDock 5 (fun r => { r with flash := some { code := 3, remaining := 0 } })))).pending = [] := by
  decide +kernel

def reaimedStation : State := { station with refers := [{ referHeld with reaimed := true }] }

/-- A re-aimed slot runs out after a SECONDS_TICK, or after a period of the reference clock (section 3.8). -/
theorem test_reaimed_slot_ends :
    (after (.referTimeout 888) (after (.secondsTick 255) reaimedStation)).refers = [] ∧
    ((after (.referTimeout 888) (after (.secondsTick 255) reaimedStation)).dock 3).flash =
      some { code := 1, remaining := 3000 } ∧
    (after (.referTimeout 888) (clockPeriod reaimedStation)).refers = [] := by decide +kernel

theorem test_reaimed_slot_stays : (after (.referTimeout 888) reaimedStation).refers.length = 1 ∧
    (after (.referTimeout 888) station).refers = [] := by decide +kernel

/-! ### Cancelled releases of one bicycle (R79, R88) and a re-arrival (R94) -/

def cancelOf (k : ReleaseKind) : CancelContext :=
  { kind := k, bike := 700, card := 222, start := 900, relockDone := false, unstampDone := false }

/-- A member's context at dock 3 and a crew's at dock 5 name the same bicycle. -/
def twoCancels : State := (station.setCancel 2 (some (cancelOf .member))).setCancel 4 (some (cancelOf (.crew 0 412)))

/-- A cancel context stays at a dock that a bicycle with no number has left (log 39). -/
theorem test_unread_departure :
    let s := (station.setDock 4 (fun r => { r with bike := none })).setCancel 4 (some (cancelOf .member))
    (occupiedDeparture 4 s).cancel 4 = some (cancelOf .member) ∧
    ((occupiedDeparture 4 s).findFault (.dock 4) .forcedRemoval).isSome = true := by decide +kernel

theorem test_crew_cancel_seen : twoCancels.crewCancel 4 700 = some (4, 0, 412) ∧
    (dropCancelOf 700 twoCancels).cancel 2 = none ∧ (dropCancelOf 700 twoCancels).cancel 4 = none := by
  decide +kernel

theorem test_deferral_outlives_arrival :
    ((arrival 4 (station.setDeferral 4 (some { bike := 700, stamp := stampOf 444 }))).deferred.get 4).isSome =
      true := by decide +kernel

/-! ### Hypotheses met, statement by statement -/

theorem test_invariants_met : station.busy = false ∧ station.quiet ∧ station.pendingOk = true ∧
    station.pending = [] ∧ busyStation.busy = true := by
  unfold State.quiet
  decide

theorem test_tables_met : station.tablesOk := by
  unfold State.tablesOk State.cardsOk State.hireOk State.tripsOk State.faultsOk
  decide

theorem test_other_invariants_met : station.settings.ok ∧ station.port.ok ∧ station.fare.ok ∧
    station.queueOk ∧ ∃ t, step station = .next t := by
  unfold Settings.ok Port.ok FareUnit.ok State.queueOk
  exact ⟨by decide, by decide, by decide, by decide, _, rfl⟩

theorem test_steps_met : State.reset.pending = [] ∧ State.reset.clock.divider + 1 < 32768 ∧
    ({ State.reset with clock := { time := 0, isSet := false, divider := 32767 } } : State).pending = [] ∧
    32768 ≤ 32767 + 1 := by decide

theorem test_clock_met : 31 * 1000 / 32768 = (31 + 1) * 1000 / 32768 ∧
    32 * 1000 / 32768 < (32 + 1) * 1000 / 32768 ∧ 32767 * 1000 / 32768 < (32767 + 1) * 1000 / 32768 := by decide

theorem test_frames_met : (1 : Nat) ≤ 7 ∧ ([3] : List Byte).head? ≠ some 2 ∧
    knownOpcodes.contains (0x10 : Byte).toNat = false ∧ knownOpcodes.contains (0xFF : Byte).toNat = false ∧
    station.port.command.content = some { code := .ok, data := [] } ∧
    station.port.read.content = some { code := .ok, data := [] } ∧ (2 : Byte) ≠ 0 ∧ (2 : Byte) ≠ 1 ∧
    ([] : List Byte).length ≠ 1 ∧ busyStation.port.running = some (.plain .ok) ∧
    station.port.running = none := by decide

theorem test_event_end_met : State.reset.quiet ∧ State.reset.string.flight = none ∧
    State.reset.string.queue = [] ++ resetRelock :: [resetShow] ∧
    (∀ x ∈ [resetShow], resetRelock.verb.cls ≤ x.verb.cls) ∧
    (∀ x ∈ [] ++ [resetShow], sameKey x resetRelock = false) ∧ station.string.queue = [] ∧
    (calling (callTo .tagread (.answering []))).string.flight.isSome = true := by
  unfold State.quiet
  decide

theorem test_docks_read_met : (0 : Byte) = 0 ∧ 30 < (31 : Byte).toNat ∧ State.reset.refers = [] ∧
    station.refers = [referHeld] := by decide

theorem test_cards_read_met : member ∈ station.cards ∧ crew ∈ station.cards ∧
    (∀ e ∈ station.cards, e.card.toNat ≠ field [0, 0, 0, 3, 231] 0 5) ∧ (1 : Byte).toNat ≤ crew.slot.val ∧
    (∀ x ∈ station.cards, (1 : Byte).toNat ≤ x.slot.val → crew.slot.val ≤ x.slot.val) ∧
    (∀ x ∈ station.cards, x.slot.val < (4 : Byte).toNat) := by decide

theorem test_trips_read_met : tripOut500 ∈ station.trips ∧ tripOut500.bike ≠ 0 ∧
    (∀ r ∈ station.trips, r.bike ≠ 601) ∧ State.reset.trips = [] ∧ tripPriced600 ∈ station.trips ∧
    tripPriced600.state = .priced priced9 := by decide

theorem test_oldest_priced_met : ∀ x ∈ station.trips, ∀ q, x.state = .priced q →
    timeAgo station.clock.time q.endTime < timeAgo station.clock.time priced9.endTime ∨
    (q.endTime = priced9.endTime ∧ tripPriced600.bike.toNat ≤ x.bike.toNat) := by
  intro x hx q h
  simp only [station, List.mem_cons, List.not_mem_nil, or_false] at hx
  rcases hx with rfl | rfl
  · cases h
  · cases h
    exact Or.inr ⟨rfl, le_rfl⟩

theorem test_ranges_read_met : 2 < (3 : Byte).toNat ∧ 7 < (8 : Byte).toNat ∧ 1 < (2 : Byte).toNat ∧
    15 < (16 : Byte).toNat ∧ (15 : Byte).toNat ≤ 15 := by decide

theorem test_quote_met : 7 < 8 ∧ 2 < 3 ∧ State.reset.fare.current.valid = false ∧
    station.fare.current.valid = true ∧ (0 : Fin 8).val = 0 := by decide

theorem test_faults_read_met : 31 < (32 : Byte).toNat ∧ (5 : Byte).toNat ≤ 31 ∧
    (∀ r ∈ station.faults.records, r.slot.val ≠ (5 : Byte).toNat) ∧ stuck ∈ station.faults.records ∧
    State.reset.faults.records = [] ∧ stuck.state = .active ∧ stuck.seen = false ∧
    (∀ x ∈ station.faults.records, x.state = .active → x.seen = false →
      timeAgo station.clock.time x.firstTime < timeAgo station.clock.time stuck.firstTime ∨
      (x.firstTime = stuck.firstTime ∧ stuck.slot.val ≤ x.slot.val)) := by decide

theorem test_settings_met : (0 : Byte).toNat < 1 ∧ 20 < (21 : Byte).toNat ∧ (65535 : Nat) < 65536 ∧
    station.trips ≠ [] ∧ State.reset.trips = [] ∧ 1 ≤ (1 : Byte).toNat ∧ (20 : Byte).toNat ≤ 20 ∧
    Settings.reset.critEnter < Settings.reset.critExit ∧ Settings.reset.critExit ≤ Settings.reset.lowEnter ∧
    Settings.reset.lowEnter < Settings.reset.lowExit ∧ Settings.reset.lowExit ≤ 255 := by decide

/-- An activation of generation 4 pends for time 500. -/
def activating (staged : Bank) (now : Time) (isSet : Bool) : State :=
  { station with
    fare := { station.fare with staged := staged, activation := some (4, 500) },
    clock := { time := now, isSet := isSet, divider := 0 } }

theorem test_activation_met :
    (activating station.fare.staged 500 true).fare.activation = some (4, 500) ∧
    ((500 : Time) - 500).toNat < 2 ^ 31 ∧ station.fare.staged.anyDefined = true ∧
    Bank.empty.anyDefined = false ∧ 2 ^ 31 ≤ ((499 : Time) - 500).toNat ∧ State.reset.clock.isSet = false ∧
    (activating Bank.empty 500 false).clock.isSet = false ∧ station.fare.activation = none ∧
    (station.fare.staged.plans.get 0).count ≠ 0 ∧ (∀ p : Fin 8, (Bank.empty.plans.get p).count = 0) ∧
    station.fare.current.generation = 3 ∧ 15 < (16 : Byte).toNat ∧ 30 < (31 : Byte).toNat ∧
    (30 : Byte).toNat ≤ 30 := by decide

theorem test_mask_met : (0xF8 : Byte).getLsbD 0 = false ∧ (0xF8 : Byte).getLsbD 1 = false ∧
    (0xF8 : Byte).getLsbD 2 = false ∧ (1 : Byte).getLsbD 0 = true ∧ (2 : Byte).getLsbD 1 = true ∧
    (4 : Byte).getLsbD 2 = true := by decide

/-- The card record of a member with this number, as the host sends it. -/
def recordOf (card : Nat) : List Byte := beBytes 5 card ++ [0, 0, 0, 0, 0, 0, 0, 0]

def fullCards : State :=
  { station with
    cards := (List.finRange 256).map (fun i => { member with slot := i, card := BitVec.ofNat 40 (i.val + 1000) }) }

theorem test_load_met : (recordOf 0).length = 13 ∧ readCardRecord (recordOf 0) = none ∧
    (readCardRecord (recordOf 111)).isSome = true ∧ station.findCard 111 = some member ∧
    member.cls ≠ .guest ∧ station.findCard 333 = some guest ∧ guest.cls = .guest ∧
    station.findCard 999 = none ∧ station.freeCardSlot = some 4 := by decide +kernel

theorem test_full_table : fullCards.freeCardSlot = none := by
  simp [State.freeCardSlot, fullCards]

theorem test_full_met : fullCards.findCard 999 = none ∧
    fullCards.findRefer 888 = some referHeld ∧ fullCards.findCard 888 = none := by decide +kernel

theorem test_retire_met : station.findCard 444 = some rider ∧ rider.activity = .riding ∧
    member.activity = .idle ∧ member.queuedDock = none := by decide

/-- What a card record of this number carries, with the plainest terms. -/
def plainRecord (card : CardNo) : CardRecord :=
  { card := card, cls := .member, plan := 0, blocked := false, validUntil := none }

theorem test_admit_met : (loadRecord (plainRecord 111) station).1 = .ok ∧ station.findRefer 111 = none ∧
    (loadRecord (plainRecord 888) station).1 = .ok ∧ station.findRefer 888 = some referHeld := by decide +kernel

theorem test_admit_full : (loadRecord (plainRecord 888) fullCards).1 = .full := by
  have absent : fullCards.findCard (plainRecord 888).card = none := by decide +kernel
  simp only [loadRecord, absent, test_full_table]
  rfl

theorem test_admit_classes_met : (∃ f, station.findRefer 888 = some f ∧ f.reaimed = false) ∧
    (∃ f, reaimedStation.findRefer 888 = some f ∧ f.reaimed = true) ∧
    (plainRecord 888).cls ≠ .crew ∧ ({ plainRecord 888 with cls := .crew }).cls = .crew ∧
    (loadRecord { plainRecord 888 with cls := .crew, blocked := true } station).1 = .ok ∧
    station.passed { crew with card := 888, validUntil := some 900 } = true ∧ station.passed crew = false :=
  ⟨⟨_, rfl, rfl⟩, ⟨_, rfl, rfl⟩, by decide +kernel⟩

def fourRefers : State :=
  { station with refers := [700, 701, 702, 703].map (fun c => { referHeld with card := c }) }

theorem test_taps_met : (station.dock 4).lastTap ≠ some 9 ∧
    ((station.setDock 4 (fun r => { r with lastTap := some 9 })).dock 4).lastTap = some 9 ∧
    station.findCard 111 = some member ∧ station.findCard 888 = none ∧
    (station.findRefer 888).isSome = true ∧ station.findCard 999 = none ∧ station.findRefer 999 = none ∧
    station.refers.length < 4 ∧ fourRefers.findRefer 999 = none ∧ 4 ≤ fourRefers.refers.length := by
  decide +kernel

/-- The station with one token to lend, so that a granted tap waits. -/
def oneToken : State := { station with settings := { station.settings with normalBudget := 1 } }

theorem test_remote_hire_met : (0 : CardNo) = 0 ∧ 30 < (31 : Byte).toNat ∧ station.findCard 999 = none ∧
    station.findCard 222 = some crew ∧ crew.cls = .crew ∧ tapCode member 0 station ≠ 0 ∧
    tapCode member 4 oneToken = 0 ∧ oneToken.budget ≤ oneToken.tokensInUse := by decide +kernel

theorem test_grant_met : station.findCard 111 = some member ∧ member.cls ≠ .crew ∧
    tapCode member 4 station = 0 ∧ (station.dock 4).bike = some 700 ∧ station.hire.queue = [] ∧
    station.tokensInUse < station.budget ∧ station.hire.tokens.get 1 = .free ∧
    (∀ j, j < (1 : Fin 3) → station.hire.tokens.get j ≠ .free) ∧ station.trips.length < 64 ∧
    station.findTrip 700 = none ∧ (calling (callTo .unstamp (.answering []))).string.flight.isSome = true ∧
    (calling (callTo .unstamp (.answering []))).string.queue.length ≤ 37 ∧
    tapCode member 4 (calling (callTo .unstamp (.answering []))) = 0 := by decide +kernel

theorem test_tap_codes :
    tapCode { member with blocked := true } 4 station = 1 ∧ tapCode rider 4 station = 2 ∧
    tapCode member 4 { station with clock := { time := 0, isSet := false, divider := 0 } } = 6 ∧
    tapCode member 4 { station with supply := { state := .low, reading := none } } = 5 ∧
    tapCode member 5 station = 3 ∧
    tapCode member 4 (station.joinHire { dock := 4, kind := .member, card := 9 }) = 4 ∧
    tapCode { guest with activity := .idle, validUntil := some 1000 } 4 station = 0 := by decide +kernel

/-- Bicycle 600 still stands, stamped, in its return dock. -/
def uncollected : State :=
  { station with
    trips := [{ tripPriced600 with unstamped := false }],
    docks := station.docks.set 8 { DockRecord.reset with occupancy := .occupied, bike := some 600 } }

theorem test_collect_met : station.findTrip 601 = none ∧ station.findTrip 600 = some tripPriced600 ∧
    tripPriced600.stamp.start = 100 ∧ tripPriced600.unstampDock = none ∧ tripPriced600.unstamped = true ∧
    (uncollected.dock priced9.returnDock).bike = some 600 ∧
    station.findTrip 500 = some tripOut500 := by decide

theorem test_uncollectable_met : ∀ p, tripOut500.state = .priced p →
    tripOut500.unstampDock.isSome = true ∨
      (tripOut500.unstamped = false ∧ (station.dock p.returnDock).bike = some 500) := by
  intro p h
  cases h

theorem test_close_met : station.findTrip 500 = some tripOut500 ∧ tripOut500.stamp.start = 100 ∧
    tripOut500.state = .out ∧ tripOut500.foreign = false ∧ tripOut500.stamp.card = 444 ∧
    tripOut500.orphan = false ∧ station.findCard 444 = some rider ∧ rider.link = some (500, 100) ∧
    station.findTrip 600 = some tripPriced600 ∧ tripPriced600.state ≠ .out ∧
    ({ tripOut500 with orphan := true }).orphan = true ∧ station.findTrip 601 = none ∧
    (400 : Nat) < 65536 := by decide

/-- The arguments of WRITE_PLAN for plan `p` with `n` bands. -/
def planArgs (p n : Nat) : List Byte :=
  [byte p, 0, 100, 0, 120, 96, 9, 96, byte n] ++ [0, 30, 15, 0, 50] ++ [0, 90, 30, 0, 150] ++
    [0, 0, 60, 1, 44] ++ [0, 0, 0, 0, 0]

theorem test_plan_met : (planArgs 2 3).length = 29 ∧ planArgOk (planArgs 2 3) = true ∧
    planArgOk (planArgs 7 0) = true ∧ planArgOk (planArgs 8 3) = false ∧ planArgOk (planArgs 2 5) = false ∧
    planArgOk (planArgs 2 4) = false ∧ planArg (planArgs 2 3) = planTwo := by decide +kernel

theorem test_fare_met : planTwo.count ≤ 4 ∧ planTwo.factor ≤ 255 ∧ planTwo.cap ≠ 0 ∧
    (∀ b ∈ planTwo.bands, 1 ≤ b.block ∧ b.rate ≤ 65535) := by decide

theorem test_selection_met : station.fare.current.valid = true ∧ station.fare.current.generation = 3 ∧
    station.fare.previous.valid = true ∧ station.fare.previous.generation = 2 ∧
    (station.fare.current.plans.get 0).count ≠ 0 ∧ (station.fare.current.plans.get 5).count = 0 ∧
    (Bank.empty.plans.get 0).count = 0 ∧ FareUnit.reset.current.valid = false ∧
    FareUnit.reset.previous.valid = false := by decide

/-- A full fault table, of one kind and state. -/
def fullFaults (st : FaultState) : State :=
  { station with
    faults := { station.faults with
      records := (List.finRange 32).map (fun i => fault i (.bike (BitVec.ofNat 16 (i.val + 1))) .hostReported st) } }

theorem test_raise_met : readSubject 4 0 = none ∧ readSubject 0 31 = none ∧ readSubject 1 0 = none ∧
    readSubject 0 30 = some (.dock 29) ∧ (station.findFault (.bike 800) .hostReported).isSome = true ∧
    station.findFault (.dock 29) .hostReported = none ∧ station.freeFaultSlot = some 5 := by decide

theorem test_raise_full_met : (fullFaults .active).freeFaultSlot = none ∧
    (fullFaults .active).findFault (.dock 29) .hostReported = none ∧
    (∀ r ∈ (fullFaults .active).faults.records, r.state ≠ .suspect) ∧
    fault 0 (.bike 1) .hostReported .suspect ∈ (fullFaults .suspect).faults.records ∧
    (∀ x ∈ (fullFaults .suspect).faults.records, x.state = .suspect →
      x = fault 0 (.bike 1) .hostReported .suspect ∨ 0 < x.order) := by decide +kernel

theorem test_full_faults_ordered : (fullFaults .suspect).faultsOk := by
  unfold State.faultsOk
  decide +kernel

theorem test_clear_met : 3 < (4 : Byte).toNat ∧ 9 < (10 : Byte).toNat ∧
    faultKindOf (3 : Byte).toNat = some .buttonStuck ∧ station.findFault (.dock 29) .buttonStuck = none ∧
    station.findFault (.dock 10) .buttonStuck = some stuck ∧ FaultKind.buttonStuck.origin = 0 ∧
    stuck.state = .active ∧ station.findFault (.dock 11) .coilOpen = some suspect ∧ suspect.state = .suspect ∧
    station.findFault (.dock 12) .coilShort = some clearing ∧ clearing.state = .clearing ∧
    station.findFault .terminal .noContact = some lost ∧
    station.findFault (.bike 800) .hostReported = some hostFault ∧ FaultKind.hostReported.origin ≠ 0 := by
  decide

theorem test_stage_met : (0 : Byte).toNat < 1 ∧ 240 < (241 : Byte).toNat ∧ (240 : Byte).toNat ≤ 240 ∧
    16 < (17 : Byte).toNat ∧ (stagedWith 500 true true true).held = true ∧
    (stagedWith 500 true false true).held = false ∧ (stagedWith 500 true false true).header.moveCount ≤ 1 ∧
    30 < (31 : Byte).toNat ∧ (withManifests none none).manifest.staged = none := by decide

/-- Another index names the same dock. -/
theorem test_stage_exists_met : ∃ g : StagedManifest, g.held = false ∧ (0 : Nat) < g.header.moveCount ∧
    ∃ k : Fin 16, k ≠ 0 ∧ ∃ y, g.moves.get k = some y ∧ y.dock = dockOfNumber 15 :=
  ⟨{ header := { header 500 false with moveCount := 2 }, held := false,
     moves := (Vector.replicate 16 none).set 1 (some { dropMove .opened with dock := some 14 }) },
   rfl, by decide, 1, by decide, _, rfl, by decide⟩

/-- The manifest states that the commit and the steering distinguish. -/
theorem test_commit_met : (withManifests none none).manifest.staged = none ∧
    (stagedWith 500 false false false).moves.toList[0]? = some none ∧
    (∀ i, i < (stagedWith 500 false false true).header.moveCount →
      (stagedWith 500 false false true).moves.toList[i]? ≠ some none) ∧
    (stagedWith 412 false false true).header.number = (active .active .short).header.number ∧
    (stagedWith 500 true false true).header.number ≠ (active .active .short).header.number ∧
    (stagedWith 500 true false true).header.followOn = true ∧
    (∃ m ∈ (active (.ended .expired) .releasing).moves, m.state = .releasing) ∧
    (∀ m ∈ (active (.ended .expired) .done).moves, m.state ≠ .releasing) ∧
    (withManifests (some (active (.ended .expired) .done)) none).manifest.previousEnd = none := by decide

theorem test_steering_met : (active .active .short).phase = .active ∧
    (active .suspended .short).phase = .suspended ∧ (active (.ended .complete) .done).phase ≠ .active ∧
    (active (.ended .complete) .done).phase ≠ .suspended ∧ (stagedWith 500 true false true).held = false ∧
    (withManifests none (some (stagedWith 500 true true true))).manifest.staged.isSome = true ∧
    1 < (2 : Byte).toNat ∧ (412 : Nat) < 65536 ∧ (active (.ended .complete) .done).header.number = 412 := by
  decide

theorem test_acknowledge_met : ∃ s : State, ∃ e, s.manifest.previousEnd = some e ∧ e.number = 411 ∧
    s.busy = false :=
  ⟨{ station with manifest := { ManifestUnit.reset with
      previousEnd := some { number := 411, outcome := .complete, doneCount := 1 } } }, _, rfl, rfl, rfl⟩

/-- Previous_end holds the manifest of number 411. -/
def withPrevious (a : Option ActiveManifest) : State :=
  { station with manifest := { ManifestUnit.reset with
      active := a, staged := some (stagedWith 500 true true true),
      previousEnd := some { number := 411, outcome := .complete, doneCount := 1 } } }

theorem test_follow_on_met : (stagedWith 500 true true true).held = true ∧
    (stagedWith 500 true true true).written ∧ (active .active .short).phase = .active ∧
    (∀ m ∈ (active .active .short).moves, m.state ≠ .releasing) ∧
    (∃ m ∈ (active .suspended .releasing).moves, m.state = .releasing) ∧
    (withPrevious none).manifest.previousEnd.isSome = true ∧ (withPrevious none).manifest.active = none ∧
    (withManifests none none).manifest.previousEnd = none ∧ (withPrevious none).busy = false ∧
    (withPrevious none).quiet ∧ (active (.ended .complete) .done).phase = .ended .complete ∧
    (∀ m ∈ (active (.ended .complete) .done).moves, m.state ≠ .releasing) ∧
    (active (.ended .complete) .done).header.number = 412 := by
  unfold StagedManifest.written State.quiet
  decide

theorem test_characters_met : station.string.flight = none ∧
    (calling (callTo .unstamp (.answering []))).string.flight =
      some (.call (callTo .unstamp (.answering []))) ∧
    (callTo .unstamp (.quiet .garbled)).phase = .quiet .garbled ∧
    (5 : Byte) = (callTo .unstamp (.answering [])).entry.target.address ∧
    (6 : Byte) ≠ (callTo .unstamp (.answering [])).entry.target.address ∧
    [(5 : Byte), 3].length + 1 = Verb.unstamp.answerData + 3 ∧ sum8 ([5, 3] ++ [(248 : Byte)]) = 0 ∧
    sum8 ([5, 3] ++ [(247 : Byte)]) ≠ 0 ∧ [(5 : Byte)].length + 1 ≠ Verb.unstamp.answerData + 3 := by decide

theorem test_calls_met : (callTo .unstamp (.answering [5, 3])).crossOf = none ∧
    (callTo .unstamp (.answering [5, 3])).entry.verb ≠ .survey ∧
    (callTo .unstamp (.answering [])).ended + 1 < 1 + (callTo .unstamp (.answering [])).retries ∧
    1 + ({ callTo .unstamp (.answering []) with retries := 0 }).retries ≤
      (callTo .unstamp (.answering [])).ended + 1 ∧
    ({ station with string := { station.string with flight := some (.broadcast resetShow 5) } } :
      State).string.flight = some (.broadcast resetShow 5) := by decide

/-- A SURVEY of node 5 with a cross mark. -/
def crossCall (p : AttemptPhase) (crossOf : Option (Option Answer)) : Call :=
  { callTo .survey p with
    entry := { request 5 .survey [] .dockMonitor with cross := true }, crossOf := crossOf, retries := 0 }

theorem test_cross_met : (crossCall (.answering [5, 3]) none).entry.verb = .survey ∧
    (crossCall (.answering [5, 3]) none).entry.cross = true ∧ [(5 : Byte), 3].length = 2 ∧
    sum8 ([5, 3] ++ [(248 : Byte)]) = 0 ∧ (station.link 5).failures ≤ 1 ∧
    2 ≤ ((station.setLink 5 (fun l => { l with failures := 2 })).link 5).failures ∧
    (crossCall (.answering []) (some none)).crossOf = some none ∧
    1 + (crossCall (.answering []) none).retries ≤ (crossCall (.answering []) none).ended + 1 ∧
    (5 : Node) = dockNode 4 := by decide

theorem test_answers_met : (callTo .survey (.answering [5, 3])).node = dockNode 4 ∧
    (callTo .survey (.answering [5, 3])).entry.originators = [.dockMonitor] ∧
    (callTo .survey (.answering [5, 3])).entry.cross = false ∧
    [(5 : Byte), 3].length + 1 = Verb.survey.answerData + 3 ∧
    [(5 : Byte), 3, 0, 0, 0, 0, 111, 9].length + 1 = Verb.tapread.answerData + 3 ∧
    sum8 ([5, 3, 0, 0, 0, 0, 111, 9] ++ [(128 : Byte)]) = 0 ∧
    ([5, 3] ++ List.replicate 17 (0 : Byte)).length + 1 = Verb.tagread.answerData + 3 ∧
    sum8 (([5, 3] ++ List.replicate 17 (0 : Byte)) ++ [248]) = 0 ∧
    (crossCall (.answering [5, 3]) (some (some { condition := 3, data := [] }))).crossOf =
      some (some { condition := 3, data := [] }) ∧
    (station.link (dockNode 4)).contact ≠ .lost := by decide

/-- Dock 5 is RELEASING, with a release in this phase. -/
def releasingAt (p : ReleasePhase) : State :=
  (station.setDock 4 (fun r => { r with occupancy := .releasing })).setRelease 4
    (some { waitingRelease with phase := p })

theorem test_surveys_met : (0x03 : Byte).getLsbD 0 = true ∧ (0x0A : Byte).getLsbD 0 = false ∧
    (0x0A : Byte).getLsbD 3 = true ∧ (0x0B : Byte).getLsbD 3 = true ∧
    (station.dock 5).occupancy = .unknown ∧ (station.dock 4).occupancy = .occupied ∧
    (station.dock 4).bike ≠ none ∧ (false || (station.dock 4).resyncDue) = true ∧
    (false || ((station.setDock 4 (fun r => { r with resyncDue := false })).dock 4).resyncDue) = false ∧
    ((station.setDock 4 (fun r => { r with occupancy := .empty })).dock 4).occupancy = .empty ∧
    ((releasingAt .overdue).dock 4).occupancy = .releasing ∧
    (releasingAt .overdue).release 4 = some { waitingRelease with phase := .overdue } ∧
    (releasingAt (.waiting 9)).release 4 = some { waitingRelease with phase := .waiting 9 } ∧
    (calling (callTo .survey (.answering []))).string.flight.isSome = true ∧
    (calling (callTo .survey (.answering []))).string.queue.length < 40 := by decide

/-- The station with a FORCED_REMOVAL record of dock 5. -/
def removedAt (st : FaultState) : State :=
  { station with
    faults := { station.faults with
      records := station.faults.records ++ [fault 5 (.dock 4) .forcedRemoval st] } }

theorem test_sensed_met : station.faults.records.length ≤ 24 ∧ (removedAt .clearing).faults.records.length ≤ 24 ∧
    station.findFault (.dock 11) .coilOpen = some suspect ∧
    station.findFault (.dock 4) .coilOpen = none ∧ (0x20 : Byte).getLsbD 5 = true ∧
    (0x01 : Byte).getLsbD 5 = false ∧ station.findFault (.dock 4) .forcedRemoval = none ∧
    (∀ b, (station.dock 4).bike = some b → station.findTrip b = none) ∧
    (∀ e, station.cancel e = none) ∧ station.freeFaultSlot.isSome = true ∧
    (fullFaults .active).freeFaultSlot = none ∧ (fullFaults .active).findFault (.dock 4) .coilOpen = none := by
  refine ⟨by decide, by decide, by decide, by decide, by decide, by decide, by decide, ?_, by decide, by decide,
    by decide +kernel, by decide +kernel⟩
  intro b h
  cases h
  decide

theorem test_forced_removals_met : (removedAt .clearing).faultsOk ∧
    (removedAt .clearing).findFault (.dock 4) .forcedRemoval = some (fault 5 (.dock 4) .forcedRemoval .clearing) ∧
    (removedAt .active).findFault (.dock 4) .forcedRemoval = some (fault 5 (.dock 4) .forcedRemoval .active) := by
  unfold State.faultsOk
  decide

/-- The data bytes of a TAGREAD answer for bicycle `bike` with this kind byte. -/
def tagBytes (bike : Nat) (kind : Byte) : List Byte :=
  beBytes 2 bike ++ [kind] ++ beBytes 2 77 ++ beBytes 4 100 ++ beBytes 5 444 ++ [0x18] ++ beBytes 2 65535

theorem test_tags_met : ((station.setDock 4 (fun r => { r with bike := none })).dock 4).bike = none ∧
    readTag (tagBytes 0 1) = none ∧ readTag (tagBytes 500 3) = none ∧
    readTag (tagBytes 500 1) = some { bike := 500, serviceMark := false, stamp := .trip (stampOf 444) } ∧
    readTag (tagBytes 500 0x82) = some { bike := 500, serviceMark := true, stamp := .van 65535 } ∧
    (∀ y, station.findTrip 500 = some y → y.state ≠ .releasing) ∧
    (station.faultDock 4).unmark ≠ some 500 ∧ station.findFault (.bike 500) .serviceMark = none := by
  refine ⟨by decide, by decide, by decide, by decide, by decide, ?_, by decide, by decide⟩
  intro y h
  cases h
  decide

/-- A queue of 40 entries, the class-5 ones youngest or absent. -/
def fullQueue (young : Verb) : List QueueEntry :=
  (List.range 39).map (fun i =>
    request (Fin.ofNat 31 (i % 20 + 1)) (if i < 20 then .mark else .tagread) [] .dockMonitor) ++
  [request 30 young [] .dockMonitor]

theorem test_rounds_free_met : station.string.flight = none ∧ station.agenda.hold = false ∧
    (station.setQueue (fullQueue .relock)).string.queue.length ≤ 40 ∧
    (∀ e ∈ (station.setQueue (fullQueue .relock)).string.queue, e.verb ≠ .survey) ∧
    pickNext [surveyRequest 0 false] = some (surveyRequest 0 false) := by decide +kernel

/-- Every node is LOST, and the next round is no cross round: no node is asked. -/
theorem test_nobody_asked :
    ({ station with string := { station.string with
        links := Vector.ofFn (fun n => { LinkRecord.reset n with contact := .lost }) } } : State).string.links.toList.all
      (fun l => decide (l.contact = .lost)) = true ∧ (station.string.round + 1) % 8 ≠ 0 := by decide

/-- The oldest entry of the lowest class, between one of a higher class and one of its own. -/
theorem test_taken_entry_met :
    [request 3 .mark [] .dockMonitor, request 4 .relock [] .dockMonitor, request 5 .relock [] .dockMonitor] =
      [request 3 .mark [] .dockMonitor] ++ request 4 .relock [] .dockMonitor :: [request 5 .relock [] .dockMonitor] ∧
    Verb.relock.cls < Verb.mark.cls ∧
    sameKey (request 5 .relock [] .dockMonitor) (request 4 .relock [] .dockMonitor) = false := by decide

theorem test_rounds_met : (∀ e ∈ station.string.queue, e.verb ≠ .survey) ∧
    (calling (callTo .unstamp (.answering []))).string.flight.isSome = true ∧
    (calling (callTo .unstamp (.answering []))).string.queue.length ≤ 9 ∧
    (∃ e ∈ (station.setQueue [surveyRequest 4 false]).string.queue, e.verb = .survey) := by decide

theorem test_full_queue_met : (fullQueue .survey).length = 40 ∧ (fullQueue .relock).length = 40 ∧
    (∀ e ∈ fullQueue .survey, ¬(e.target = .node 29 ∧ e.verb = .lampShow)) ∧
    (∀ e ∈ fullQueue .relock, e.verb ≠ .survey ∧ e.verb ≠ .lampShow) ∧
    (∃ pre, fullQueue .survey = pre ++ request 30 .survey [] .dockMonitor :: []) ∧ Verb.relock.cls ≤ 3 := by
  refine ⟨by decide, by decide, by decide +kernel, by decide +kernel, ⟨_, rfl⟩, by decide⟩

theorem test_full_queue_ordered : (station.setQueue (fullQueue .survey)).queueOk ∧
    (station.setQueue (fullQueue .relock)).queueOk := by
  unfold State.queueOk
  decide +kernel

theorem test_queue_met : (∀ e ∈ station.string.queue, ¬(e.target = .node 4 ∧ e.verb = .mark)) ∧
    station.string.queue.length < 40 ∧
    (station.setQueue [surveyRequest 4 false]).string.queue = [] ++ surveyRequest 4 false :: [] := by decide

theorem test_closed_met : station.settings.closedCount = 0 ∧
    ({ station.settings with closedCount := 30 }).closedCount = 30 := by decide

theorem test_lamps_met : station.hireable 4 = true ∧ station.hireable 5 = false ∧
    station.lampFor 4 = .green ∧ station.lampFor 3 = .amberBlink ∧ station.lampFor 10 = .red ∧
    station.lampFor 5 = .off ∧
    (station.setDock 5 (fun r => { r with flash := some { code := 3, remaining := 1 } })).lampFor 5 =
      .redFlash 3 ∧
    (station.setDock 5 (fun r => { r with occupancy := .releasing })).lampFor 5 = .greenBlink ∧
    (station.setDock 5 (fun r => { r with reservation := .drop 0 })).lampFor 5 = .amber := by decide +kernel

theorem test_tokens_met : station.hire.tokens.get 0 = .lent 20 (.coil 800) ∧ station.hire.queue = [] ∧
    station.hire.tokens.get 1 = .free ∧ oneToken.budget ≤ oneToken.tokensInUse := by decide

theorem test_pull_met : station.release 20 = some waitingRelease ∧
    waitingRelease.phase = .waiting 20000 ∧ waitingRelease.seenPresent = true ∧
    (station.link (dockNode 20)).contact = .reachable ∧
    ({ waitingRelease with seenPresent := false }).seenPresent = false ∧ station.release 5 = none := by decide

theorem test_flash_met : (station.dock 5).flash = none ∧ (station.faultDock 5).report = none ∧
    ((station.setDock 5 (fun r => { r with flash := some { code := 3, remaining := 1 } })).dock 5).flash.isSome =
      true := by decide

def saleOf (card : CardNo) : Sale := { sequence := 9, card := card, plan := 0, minutes := 60, hold := 500 }

theorem test_sales_met : decideSale (saleOf 999) station = .accepted ∧
    decideSale { saleOf 999 with plan := 8 } station = .invalid ∧
    decideSale { saleOf 999 with minutes := 10081 } station = .invalid ∧
    decideSale (saleOf 999) State.reset = .notReady ∧ decideSale (saleOf 111) station = .exists ∧
    decideSale { saleOf 999 with plan := 5 } station = .plan ∧
    decideSale { saleOf 999 with hold := 99 } station = .hold ∧
    station.terminal.lastSaleSequence ≠ some 9 ∧ (saleOf 0).card = 0 := by decide +kernel

theorem test_settlement_met : guest ∈ station.cards ∧ guest.slot = 2 ∧ guest.activity = .settling ∧
    guest.guest = some { hold := 500, captured := 100, saleSequence := 7 } ∧
    ({ station.terminal with settleContext := some { card := 333, slot := 2, saleSequence := 7 } } :
      Terminal).settleContext = some { card := 333, slot := 2, saleSequence := 7 } := by decide

theorem test_arrival_met : station.findTrip 500 = some tripOut500 ∧ tripOut500.state = .out ∧
    tripOut500.stamp.start = (stampOf 444).start ∧ tripOut500.stamp.origin = (stampOf 444).origin ∧
    (station.fare.price (stampOf 444) station.clock.time (station.hireableOthers 8) station.dropToDo).isSome =
      true ∧ State.reset.fare.price (stampOf 444) 0 0 false = none := by decide +kernel

/-! ### The ends of the calls of a release, a mark and an arrival -/

/-- The card of the release below, PENDING on bicycle 700. -/
def hirer : CardEntry := { member with slot := 4, card := 555, activity := .pending, link := some (700, 950) }

/-- The trip record of bicycle 700, released at dock 5. -/
def tripAt (x : TripState) : TripRecord :=
  { tripOut500 with bike := 700, stamp := { stampOf 555 with start := 950 }, state := x, releaseDock := some 4 }

def releaseOfKind (k : ReleaseKind) (p : ReleasePhase) : ReleaseContext :=
  { kind := k, card := 555, bike := 700, start := 950, phase := p, seenPresent := false }

/-- Bicycle 700 is being released at dock 5: its context, its token at this stage, its record and its
card, while a broadcast is in flight. -/
def hiring (k : ReleaseKind) (p : ReleasePhase) (g : TokenStage) : State :=
  { (((station.setDock 4 (fun r => { r with occupancy := .releasing })).setRelease 4
      (some (releaseOfKind k p))).setToken 1 (.lent 4 g)) with
    cards := station.cards ++ [hirer],
    trips := station.trips ++ [tripAt .releasing],
    string := { station.string with flight := some (.broadcast (request 5 .relock [] .stringController) 5) } }

/-- A crew's release of move 1 of manifest 412, one of the two moves that are RELEASING there. -/
def crewHiring (p : ReleasePhase) : State :=
  { hiring (.crew 0 412) p .stampPending with
    manifest := { ManifestUnit.reset with active := some (active .active .releasing) } }

/-- A cancelled release of bicycle 700 at dock 5. -/
def cancelled (k : ReleaseKind) : State :=
  { (hiring k .overdue .stampPending).setRelease 4 none with
    docks := station.docks,
    cards := station.cards ++ [{ hirer with activity := .idle, link := none }],
    trips := station.trips ++ (match k with | .member => [tripAt .cancelling] | .crew _ _ => []),
    hire := (station.setCancel 4 (some { cancelOf k with card := 555, start := 950 })).hire,
    manifest := { ManifestUnit.reset with
      active := some { active .active .reserved with moves := [{ dropMove .reserved with heldDock := some 4 }] } } }

/-- A call to node 5 that this block asked for, at its last attempt. -/
def lastCall (v : Verb) (o : Originator) (p : AttemptPhase) : Call :=
  { callTo v p with entry := request 5 v [] o, retries := 0 }

theorem test_outcome_links_met : (lastCall .stamp (.hireUnit 700) (.answering [5, 3])).node = dockNode 4 ∧
    (lastCall .stamp (.hireUnit 700) (.answering [5, 3])).entry.originators = [.hireUnit 700] ∧
    (lastCall .mark (.faultTable 700) (.answering [5, 3])).entry.target = .node (dockNode 4) ∧
    (lastCall .stamp (.hireUnit 700) (.answering [5, 3])).crossOf = none ∧ sum8 ([5, 3] ++ [(248 : Byte)]) = 0 ∧
    1 + (lastCall .mark (.faultTable 700) (.answering [])).retries ≤
      (lastCall .mark (.faultTable 700) (.answering [])).ended + 1 := by decide

theorem test_stamp_end_met : (hiring .member .stamping .stampPending).release 4 =
      some (releaseOfKind .member .stamping) ∧
    (hiring .member .stamping .stampPending).hire.tokens.get 1 = .lent 4 .stampPending ∧
    (∀ j, j ≠ 1 → (hiring .member .stamping .stampPending).hire.tokens.get j ≠ .lent 4 .stampPending) ∧
    (hiring .member .stamping .stampPending).findTrip 700 = some (tripAt .releasing) ∧
    (hiring .member .stamping .stampPending).findCard 555 = some hirer ∧
    (hiring .member .stamping .stampPending).string.flight.isSome = true ∧
    (hiring .member .stamping .stampPending).string.queue = [] ∧
    ((hiring .member .stamping .stampPending).dock 4).bike = some 700 := by decide +kernel

theorem test_stamp_moves_on :
    (stampEnd 4 700 true (hiring .member .stamping .stampPending)).hire.tokens.get 1 = .lent 4 .releasePending ∧
    (stampEnd 4 700 false (hiring .member .stamping .stampPending)).findTrip 700 = none ∧
    (stampEnd 4 700 false (hiring .member .stamping .stampPending)).hire.tokens.get 1 = .free := by
  decide +kernel

theorem test_crew_stamp_met : (crewHiring .stamping).release 4 = some (releaseOfKind (.crew 0 412) .stamping) ∧
    (crewHiring .stamping).manifest.active = some (active .active .releasing) ∧
    (active .active .releasing).header.number = 412 ∧
    (active .active .releasing).moves[0]? = some (dropMove .releasing) ∧
    (crewHiring .stamping).manifest.staged = none := by decide +kernel

theorem test_late_ends_met : (hiring .member .overdue .stampPending).release 4 = some (releaseOfKind .member .overdue) ∧
    ((hiring .member .overdue .stampPending).setRelease 4 none).release 4 = none ∧
    (hiring .member .opening .releasePending).release 4 = some (releaseOfKind .member .opening) ∧
    (hiring .member .opening .releasePending).hire.tokens.get 1 = .lent 4 .releasePending ∧
    (∀ j, j ≠ 1 → (hiring .member .opening .releasePending).hire.tokens.get j ≠ .lent 4 .releasePending) := by
  decide +kernel

theorem test_cancel_met : (cancelled .member).cancel 4 =
      some { cancelOf .member with card := 555, start := 950 } ∧
    (cancelled .member).findTrip 700 = some (tripAt .cancelling) ∧
    ((cancelled .member).link (dockNode 4)).contact = .reachable ∧
    (((cancelled .member).setLink 5 (fun l => { l with contact := .lost })).link (dockNode 4)).contact = .lost ∧
    (cancelled .member).string.flight.isSome = true ∧ (cancelled .member).string.queue.length ≤ 38 := by
  decide +kernel

theorem test_pull_survey_met : ((hiring .member .overdue .stampPending).dock 4).occupancy = .releasing ∧
    (0x02 : Byte).getLsbD 0 = false ∧ (hiring .member .overdue .stampPending).findTrip 700 = some (tripAt .releasing) ∧
    (releaseOfKind .member .overdue).phase ≠ .stamping ∧
    (hiring .member .stamping .stampPending).findFault (.dock 4) .forcedRemoval = none ∧
    (hiring .member .stamping .stampPending).freeFaultSlot.isSome = true := by decide +kernel

theorem test_pull_tables_met : (hiring .member .overdue .stampPending).tripsOk ∧
    (hiring .member .stamping .stampPending).faultsOk ∧ (cancelled .member).tripsOk := by
  unfold State.tripsOk State.faultsOk
  decide +kernel

theorem test_late_pull_met : ((cancelled .member).dock 4).occupancy = .occupied ∧
    ((cancelled .member).dock 4).bike = some 700 ∧
    (cancelled .member).findCard 555 = some { hirer with activity := .idle, link := none } ∧
    (tripAt .cancelling).state = .cancelling ∧
    (cancelled (.crew 0 412)).findTrip 700 = none ∧
    ((cancelled (.crew 0 412)).cancel 4).map (fun y => (y.bike, y.kind)) = some (700, .crew 0 412) ∧
    (cancelled (.crew 0 412)).manifest.active.map (fun a => (a.header.number, a.moves)) =
      some (412, [{ dropMove .reserved with heldDock := some 4 }]) ∧
    (cancelled (.crew 0 412)).manifest.staged = none := by decide +kernel

/-- A late pull whose card rides another bicycle by now leaves the record ORPHAN. -/
theorem test_late_pull_orphan :
    ((surveyAnswer 4 0x02 false { cancelled .member with cards := [{ hirer with link := some (500, 100) }] }).findTrip
      700).map (fun r => (r.latePull, r.orphan)) = some (true, true) := by decide +kernel

/-- The station while a call is in flight, with an ACTIVE fault of bicycle 700. -/
def markWanted : State :=
  { cancelled .member with
    faults := { station.faults with
      records := station.faults.records ++ [fault 6 (.bike 700) .hostReported .active] } }

theorem test_mark_met : (markWanted.dock 4).occupancy = .occupied ∧ (markWanted.dock 4).bike = some 700 ∧
    (markWanted.link (dockNode 4)).contact ≠ .lost ∧ (markWanted.dock 4).serviceMark = false ∧
    (markWanted.faultDock 4).markPending ≠ some (true, 700) ∧ markWanted.string.queue = [] ∧
    (∃ r ∈ markWanted.faults.records, r.subject = .bike 700 ∧ r.state = .active) ∧
    (evalMark 4 markWanted).string.queue.length = 1 := by decide +kernel

/-- A call to the pay terminal. -/
def terminalCall : Call :=
  { callTo .survey (.answering [0, 3]) with node := 0, entry := request 0 .survey [] .stringController }

theorem test_terminal_met : (cancelled .member).cardsOk ∧ (cancelled .member).terminal.settleContext = none ∧
    guest ∈ (cancelled .member).cards ∧ (∀ x ∈ (cancelled .member).cards, x.activity = .settling → x = guest) ∧
    (cancelled .member).terminal.settleCursor ≤ guest.slot ∧ (cancelled .member).string.flight.isSome = true ∧
    (cancelled .member).string.queue = [] ∧ terminalCall.node = 0 ∧ terminalCall.entry.cross = false ∧
    sum8 ([0, 3] ++ [(253 : Byte)]) = 0 ∧
    (∀ e ∈ State.reset.cards, e.activity ≠ .settling) := by
  unfold State.cardsOk
  decide +kernel

/-- A settlement cursor past every SETTLING entry wraps round to the first. -/
theorem test_settlement_wraps : (settlementStep { cancelled .member with
      terminal := { station.terminal with settleCursor := 9 } }).terminal.settleCursor = 3 := by decide +kernel

theorem test_unseen_leaving_met : (hiring .member .overdue .stampPending).findTrip 700 = some (tripAt .releasing) ∧
    (tripAt .releasing).releaseDock = some 4 ∧ (tripAt .cancelling).releaseDock ≠ some (8 : Dock) ∧
    (releaseOfKind .member .overdue).kind = .member ∧
    (releaseOfKind .member .overdue).start = (tripAt .releasing).stamp.start := by decide +kernel

/-- A PRICED record whose stamp is still to be cleared at dock 5. -/
def tripToClear (asked : Option Dock) : TripRecord :=
  { tripAt (.priced { priced9 with returnDock := 4 }) with unstampDock := asked }

def toClear (asked : Option Dock) : State :=
  { cancelled (.crew 0 412) with trips := station.trips ++ [tripToClear asked] }

theorem test_trip_unstamp_met : (tripToClear none).unstamped = false ∧ ((toClear none).dock 4).bike = some 700 ∧
    ((toClear none).link (dockNode 4)).contact ≠ .lost ∧ (toClear none).string.queue = [] ∧
    (toClear (some 4)).findTrip 700 = some (tripToClear (some 4)) ∧
    (tripToClear (some 4)).unstampDock = some 4 ∧ (toClear (some 4)).dock 5 ≠ (toClear (some 4)).dock 4 := by
  decide +kernel

theorem test_trip_unstamp_tables_met : (toClear (some 4)).tripsOk := by
  unfold State.tripsOk
  decide +kernel

/-- An ACTIVE manifest with `n` minutes to go, and bicycle 700's van stamp to clear at dock 5. -/
def vanAt (n : Nat) : State :=
  { crewHiring .overdue with
    manifest := { ManifestUnit.reset with
      active := some (active .active .reserved), counter := n,
      vanUnstamp := (Vector.replicate 30 none).set 4 (some 700) } }

theorem test_van_met : (vanAt 1).manifest.counter = 1 ∧ 1 < (vanAt 2).manifest.counter ∧
    (vanAt 1).manifest.vanUnstamp.get 4 = some 700 ∧ ((vanAt 1).dock 4).bike = some 700 ∧
    (vanAt 1).manifest.vanUnstamp.get 5 = none ∧ ((vanAt 1).link (dockNode 4)).contact ≠ .lost ∧
    (vanAt 1).string.queue = [] ∧ (active .suspended .reserved).phase ≠ .active ∧
    (((vanAt 1).setDock 4 (fun r => { r with bike := some 701 })).dock 4).bike ≠ some 700 := by decide +kernel

theorem test_counter_runs : (counterTick (vanAt 2)).manifest.counter = 1 ∧
    ((counterTick (vanAt 1)).manifest.active.map (·.phase)) = some (.ended .expired) := by decide +kernel

/-- A member's request waits at dock 5 when the supply falls. -/
theorem test_supply_met : (supplyTick 100 { station with hire := { station.hire with
      queue := [{ dock := 4, kind := .member, card := 111 }] } }).hire.queue = [] ∧
    (supplyTick 255 station).supply.state = station.supply.state := by decide +kernel

theorem test_guest_lapses : station.passed { guest with activity := .idle, validUntil := some 999 } = true ∧
    station.passed { guest with validUntil := some 1000 } = false := by decide

theorem test_character_bits : ({ data := 0x05, mark := true } : StringChar).bits =
      [true, false, true, false, false, false, false, false, true] ∧
    (station.receiveBits .B [true, false, true, false, false, false, false, false, true]).pending =
      [.stringCharacterReceived .B 0x05 true] ∧
    (station.receiveBits .B [true]).pending = [] := by decide +kernel

theorem test_free_slots : station.freeCardSlot = some 4 ∧ station.freeFaultSlot = some 5 ∧
    (fullFaults .active).freeFaultSlot = none := by decide +kernel

theorem test_clamps_at_ends : ([1, 2, 5, 9, 12, 13, 19, 20].map (fun i => (Settings.reset.clamp i 0, Settings.reset.clamp i 65535))) =
    [(0, 3), (0, 2), (1, 20), (2, 30), (10, 60), (30, 300), (1, 4095), (0, 511)] := by decide

theorem test_tap_asked_met : (0x08 : Byte).getLsbD 3 = true ∧ ((cancelled .member).dock 7).occupancy = .unknown ∧
    (cancelled .member).string.flight.isSome = true ∧ (cancelled .member).string.queue = [] := by decide +kernel

/-! ### Moves, crew taps, arrivals and faults -/

/-- The station with a broadcast in flight, docks 7 and 8 EMPTY, bicycle 700 at dock 5, and these moves in
an ACTIVE manifest 412. -/
def working (ms : List Move) : State :=
  { (((station.setDock 6 (fun r => { r with occupancy := .empty })).setDock 7
      (fun r => { r with occupancy := .empty })).setDock 4 (fun r => { r with resyncDue := false })) with
    string := { station.string with flight := some (.broadcast (request 5 .relock [] .stringController) 5) },
    manifest := { ManifestUnit.reset with
      active := some { active .active .opened with moves := ms }, counter := 60, reload := 1800 } }

def pickupMove (b : Option Bike) (st : MoveState) (held : Option Dock) : Move :=
  { dropMove st with kind := .pickup, bike := b, heldDock := held }

/-- Dock 5 without its bicycle's number, and reserved so. -/
def unread (x : Reservation) (s : State) : State := s.setDock 4 (fun r => { r with bike := none, reservation := x })

def heldDrop (d : Dock) : Move := { dropMove .reserved with heldDock := some d }
def landedDrop : Move := { dropMove .opened with landedDock := some 4 }

theorem test_moves_placed : (placeMove 0 (working [pickupMove none .opened none])).move? 0 =
      some (pickupMove none .reserved (some 4)) ∧
    ((placeMove 0 (working [pickupMove none .opened none])).dock 4).reservation = .pickup 0 ∧
    (placeMove 0 (working [pickupMove (some 701) .opened none])).move? 0 =
      some (pickupMove (some 701) .short none) ∧
    (placeMove 0 (working [dropMove .short])).move? 0 = some (heldDrop 6) ∧
    (placeMove 0 (working [{ dropMove .opened with dock := some 7 }])).move? 0 =
      some { heldDrop 7 with dock := some 7 } ∧
    (placeMove 0 (working [{ dropMove .opened with dock := some 4 }])).move? 0 =
      some { dropMove .short with dock := some 4 } := by decide +kernel

/-- A bicycle with an ACTIVE bike fault is chosen before one at a closed dock, and that before others. -/
theorem test_pickup_order :
    let two : State := { (working [pickupMove none .opened none]).setDock 1
      (fun r => { r with occupancy := .occupied, bike := some 701 }) with
        faults := { station.faults with
          records := station.faults.records ++ [fault 6 (.bike 700) .hostReported .active] } }
    let plain : State := { two with faults := station.faults }
    let closed : State := { plain with settings := { plain.settings with closedSide := 1, closedCount := 26 } }
    (placeMove 0 two).move? 0 = some (pickupMove none .reserved (some 4)) ∧
    (placeMove 0 plain).move? 0 = some (pickupMove none .reserved (some 1)) ∧
    (placeMove 0 closed).move? 0 = some (pickupMove none .reserved (some 4)) := by decide +kernel

theorem test_retry_met : (manifestRetry (working [dropMove .short, dropMove .done])).move? 0 = some (heldDrop 6) ∧
    ({ working [] with agenda := { Agenda.empty with manifest := true } } : State).agenda.failures = [] := by
  decide +kernel

theorem test_follow_on_placed : ((followOn (withManifests none (some (stagedWith 500 true true true)))).move? 0) = some (dropMove .short) := by decide +kernel

theorem test_landing_met :
    let s := (working [heldDrop 6]).setDock 6 (fun r => { r with reservation := .drop 0 })
    (s.dock 6).reservation = .drop 0 ∧ (s.dock 6).occupancy = .empty ∧
    (surveyAnswer 6 0x01 false s).move? 0 = some { dropMove .opened with landedDock := some 6 } ∧
    ((surveyAnswer 6 0x01 false s).dock 6).reservation = .none ∧
    ((surveyAnswer 4 0x01 true (working [])).dock 4).reservation = .none := by decide +kernel

theorem test_tag_moves :
    let tag (st : TagStamp) : TagImage := { bike := 700, serviceMark := false, stamp := st }
    let read (st : TagStamp) (ms : List Move) : State := takeTag 4 (tag st) (unread (.pickup 0) (working ms))
    (read .none [landedDrop]).move? 0 = some (heldDrop 6) ∧
    (read (.van 412) [landedDrop, dropMove .short]).move? 0 =
      some { dropMove .done with doneDock := some 4, doneBike := some 700 } ∧
    (read (.van 412) [heldDrop 6, dropMove .short]).move? 0 =
      some { dropMove .done with doneDock := some 4, doneBike := some 700 } ∧
    (read (.van 412) [heldDrop 6, dropMove .short]).manifest.counter = 1800 ∧
    (read (.van 412) [heldDrop 6]).manifest.active.map (·.phase) = some (.ended .complete) ∧
    (read (.van 411) [heldDrop 6]).move? 0 = some (heldDrop 6) ∧
    (read (.van 411) []).manifest.vanUnstamp.get 4 = some 700 ∧
    (read .none [pickupMove (some 701) .reserved (some 4)]).move? 0 = some (pickupMove (some 701) .short none) := by
  decide +kernel

theorem test_tag_premises_met : ((unread .none (working [])).dock 4).bike = none ∧
    ((unread .none (working [])).dock 4).occupancy = .occupied ∧
    (working []).findTrip 700 = none ∧ (readTag (tagBytes 700 1)).isSome = true ∧
    (readTag (tagBytes 700 0x82)).map (·.stamp) = some (.van 65535) ∧
    (∀ e, (working []).cancel e = none) := by decide +kernel

/-- A move that loses its dock when the dock becomes EMPTY (R167). -/
theorem test_displaced_when_empty :
    (surveyAnswer 4 0 false (unread .none (working [landedDrop]))).move? 0 = some (heldDrop 4) ∧
    (surveyAnswer 4 0 false (working [pickupMove none .reserved (some 4)])).move? 0 =
      some (pickupMove none .short none) ∧
    (surveyAnswer 4 0 false { crewHiring .stamping with
      manifest := (working [pickupMove none .releasing (some 4)]).manifest }).move? 0 =
        some (pickupMove none .short none) := by
  decide +kernel

/-- The station's dock `d` with a COIL_OPEN record at its last count. -/
def coilAt (d : Dock) (s : State) : State :=
  { s with faults := { s.faults with
      records := s.faults.records ++ [{ fault 6 (.dock d) .coilOpen .suspect with count := 3 }] } }

theorem test_displaced_by_coil :
    (surveyAnswer 6 0x20 false (coilAt 6 (working [heldDrop 6]))).move? 0 = some (heldDrop 7) ∧
    (surveyAnswer 4 0x21 false (coilAt 4 (working [pickupMove none .reserved (some 4)]))).move? 0 =
      some (pickupMove none .short none) ∧
    (surveyAnswer 6 0x20 false (working [heldDrop 6])).move? 0 = some (heldDrop 6) := by decide +kernel

theorem test_coil_tables_met : (coilAt 6 (working [heldDrop 6])).faultsOk := by
  unfold State.faultsOk
  decide +kernel

/-- The crew decision of R163, row by row. -/
theorem test_crew_rows :
    let at4 (x : Reservation) (ms : List Move) : State := (working ms).setDock 4 (fun r => { r with reservation := x })
    let one := at4 (.pickup 0) [pickupMove none .reserved (some 4)]
    let critical := { one with supply := { one.supply with state := .critical } }
    let full := { one with hire := { one.hire with queue := [{ dock := 4, kind := .member, card := 111 }] } }
    (crewTap 222 4 station).2 = 7 ∧ (crewTap 222 4 (at4 .none [])).2 = 7 ∧
    crewTap 222 4 (at4 (.pickup 0) [pickupMove none .releasing (some 4)]) =
      (at4 (.pickup 0) [pickupMove none .releasing (some 4)], 0) ∧
    (crewTap 222 4 critical).2 = 5 ∧ (crewTap 222 4 full).2 = 4 ∧ (crewTap 222 4 one).2 = 0 ∧
    (crewTap 222 4 one).1.hire.tokens.get 1 = .lent 4 .stampPending ∧
    (crewTap 222 4 one).1.move? 0 = some (pickupMove none .releasing (some 4)) ∧
    (hitTap { crew with blocked := true } 4 one).2 = 1 ∧ (hitTap crew 4 one).2 = 0 := by decide +kernel

/-- Service clearing of bicycle 700, whose tag carries the mark (R146). -/
theorem test_service_clear :
    let s := { markWanted.setDock 4 (fun r => { r with serviceMark := true }) with
      manifest := (working []).manifest }
    (crewTap 222 4 s).2 = 0 ∧ ((crewTap 222 4 s).1.faultDock 4).unmark = some 700 ∧
    ((crewTap 222 4 s).1.faultDock 4).markPending = some (false, 700) ∧
    (crewTap 222 4 s).1.faults.records = station.faults.records := by decide +kernel

/-- Requests at the head of a grant pass, granted or dropped (R67 to R70). -/
theorem test_heads :
    let head (q : HireRequest) (s : State) : State := { s with hire := { s.hire with queue := [q] } }
    let drop (s : State) := (grantPass s).dock 4
    let crewed := head { dock := 4, kind := .crew 0, card := 222 } (working [pickupMove none .reserved (some 4)])
    let asked := head { dock := 4, kind := .member, card := 111 } station
    (drop crewed).flash = some { code := 7, remaining := 3000 } ∧
    (drop (crewed.setDock 4 (fun r => { r with occupancy := .empty, bike := none }))).flash =
      some { code := 7, remaining := 3000 } ∧
    (drop ((crewed.setDock 4 (fun r => { r with reservation := .pickup 0, unpriced := true })))).flash =
      some { code := 3, remaining := 3000 } ∧
    (grantPass (crewed.setDock 4 (fun r => { r with reservation := .pickup 0 }))).hire.tokens.get 1 =
      .lent 4 .stampPending ∧
    (drop (head { dock := 4, kind := .member, card := 999 } station)).flash =
      some { code := 1, remaining := 3000 } ∧
    (drop (asked.setDock 4 (fun r => { r with unpriced := true }))).flash = some { code := 3, remaining := 3000 } ∧
    (drop { asked with trips := [tripAt .out] }).flash = some { code := 4, remaining := 3000 } ∧
    crewed.tokensInUse < crewed.budget := by decide +kernel

/-- Arrivals, row by row (R86 to R92). -/
theorem test_arrival_rows :
    let st := (tripAt .out).stamp
    let other := { st with start := 7 }
    let with_ (r : TripRecord) : State := { working [] with trips := [r] }
    let run (x : StampFields) (r : TripRecord) : State := arrivalCases 4 700 x (with_ r)
    ((run st (tripToClear none)).findTrip 700).map (·.unstampDock) = some (some 4) ∧
    run st (tripToClear (some 4)) = with_ (tripToClear (some 4)) ∧
    ((run st (tripAt .cancelling)).findTrip 700).map (·.unstampDock) = some (some 4) ∧
    ((run other (tripAt .releasing)).deferred.get 4).isSome = true ∧
    ((run other (tripAt .releasing)).dock 4).unpriced = true ∧
    ((run other (tripAt .out)).findTrip 700).map (fun r => (r.foreign, r.stamp.start)) = some (true, 7) ∧
    (arrivalCases 4 700 st { with_ (tripAt .out) with clock := { station.clock with isSet := false } }).findTrip 700 =
      some (tripAt .out) := by decide +kernel

theorem test_retry_pass_met :
    let s := (working []).setDeferral 4 (some { bike := 700, stamp := (tripAt .out).stamp })
    s.deferred.get 4 = some { bike := 700, stamp := (tripAt .out).stamp } ∧
    ((retryPass s).findTrip 700).map (·.foreign) = some true ∧ (retryPass s).deferred.get 4 = none ∧
    ((clearDeferred 8 700 s).deferred.get 4) = none ∧
    ({ s with agenda := { Agenda.empty with trips := true } } : State).agenda.failures = [] := by decide +kernel

/-- Node 5 at its third failed call, and back from LOST. -/
theorem test_contact_told :
    let failing := (station.setLink 5 (fun l => { l with failures := 2 })).setCall
      { callTo .survey (.answering []) with retries := 0 }
    let back := { callTo .survey (.answering [5, 3]) with contactAtTake := .lost }
    (sendReports { callTo .survey (.answering []) with retries := 0 }
        (failing.setLink 5 (fun l => l.afterCall false))).findFault (.dock 4) .noContact =
      some { fault 5 (.dock 4) .noContact .active with firstTime := 1000 } ∧
    ((sendReports { callTo .survey (.answering []) with retries := 0 }
        (failing.setLink 5 (fun l => l.afterCall false))).dock 4).resyncDue = true ∧
    back.contactAtTake = .lost ∧ back.splits = [] ∧ back.crossOf = none ∧
    station.faults.records.length + back.splits.length ≤ 29 ∧
    (failing.link 5).failures + 1 = 3 := by decide +kernel

/-- An attempt that makes segment 4 split (R16): node 4 answers on A, node 5 only on B. -/
theorem test_split_told :
    let s := (station.setLink 4 (fun l => { l with reachA := .yes })).setLink 5 (fun l => { l with reachB := .yes })
    (updateReach .silent (callTo .survey (.answering [])) s).2.string.splits.get 4 = true ∧
    s.string.splits.get 4 = false ∧ s.findFault (.segment 4) .lineSplit = none ∧
    nodeSubject 0 = .terminal := by decide +kernel

theorem test_unmark_after_clear :
    let s := markWanted.setDock 4 (fun r => { r with serviceMark := true })
    let r := fault 6 (.bike 700) .hostReported .active
    s.findFault (.bike 700) .hostReported = some r ∧
    ((clearRecord r s).2.faultDock 4).unmark = some 700 ∧
    ((clearRecord r s).2.faultDock 4).markPending = some (false, 700) ∧
    ((clearRecord { stuck with state := .suspect } station).2.link 11).buttonMask = false := by decide +kernel

theorem test_unmark_tables_met : markWanted.faultsOk := by
  unfold State.faultsOk
  decide +kernel

/-- A press within the report window, and a button stuck for 8 surveys (R141, R143). -/
theorem test_presses :
    let s := (working []).setFaultDock 4 (fun f => { f with report := some { bike := 700, card := 444, remaining := 9 } })
    let jammed := { station with faults := { station.faults with
      records := station.faults.records ++ [{ fault 6 (.dock 4) .buttonStuck .suspect with count := 7 }] } }
    ((surveyAnswer 4 0x11 false s).findFault (.bike 700) .riderReport).map (fun r => (r.state, r.reporters)) =
      some (.suspect, [444]) ∧
    ((surveyAnswer 4 0x11 false (s.setDock 4 (fun r => { r with bike := some 701 }))).faultDock 4).report = none ∧
    ((surveyAnswer 4 0x11 false jammed).link 5).buttonMask = true ∧
    ((surveyAnswer 4 0x01 false jammed).link 5).buttonMask = false := by decide +kernel

theorem test_sale_replies : ((saleRead (saleOf 999) (working [])).string.queue.map (fun q => (q.verb, q.args))) =
      [(.salereply, [0, 9, 0])] ∧
    ((saleRead (saleOf 999) { working [] with terminal := { station.terminal with
      lastSaleSequence := some 9, lastSaleOutcome := .plan } }).string.queue.map (fun q => (q.verb, q.args))) =
      [(.salereply, [0, 9, 3])] := by decide +kernel

theorem test_dock_image : dockImage 4 station =
    [5, 2, 2, 188, 0, 32, 0, 0, 0, 0, 0, 0, 0, 1, 0, 0, 0, 1] := by decide +kernel

/-! ### Lamps shown, calls handed on, splits and the incentive's inputs (R16, R17, R39, R91) -/

/-- Dock 5 with this lamp, known to be shown or not, while a broadcast is in flight. -/
def lit (x : Lamp) (shown : Bool) : State :=
  (working []).setDock 4 (fun r => { r with lamp := x, lampShown := shown })

def showFor (d : Dock) (n : Byte) : QueueEntry := request (dockNode d) .lampShow [n] .dockMonitor

/-- A selection that leaves the lamp, one that changes it, one of a LOST dock, and one merged. -/
theorem test_lamp_selection_met : (lit .green true).lampFor 4 = .green ∧ selectLamp 4 (lit .green true) = lit .green true ∧
    ((lit .off true).link (dockNode 4)).contact ≠ .lost ∧ (lit .off true).string.flight.isSome = true ∧
    (selectLamp 4 (lit .off true)).string.queue = [showFor 4 1] ∧
    ((selectLamp 4 (lit .off true)).dock 4).lampShown = false ∧
    (selectLamp 4 ((lit .off true).setQueue [showFor 3 4, showFor 4 3])).string.queue =
      [showFor 3 4, showFor 4 1] ∧
    ((lit .off true).setLink 5 (fun l => { l with contact := .lost })).contact 4 = .lost := by decide +kernel

/-- A SHOW of GREEN to dock 5, at its last attempt. -/
def lastShow (p : AttemptPhase) : Call :=
  { lastCall .lampShow .dockMonitor p with entry := showFor 4 1 }

theorem test_show_end_met : (lastShow (.answering [5, 3])).entry.verb = .lampShow ∧
    (lastShow (.answering [5, 3])).entry.originators = [.dockMonitor] ∧
    (lastShow (.answering [5, 3])).entry.target = .node (dockNode 4) ∧
    (lastShow (.answering [5, 3])).crossOf = none ∧ (lastShow (.answering [5, 3])).node = dockNode 4 ∧
    (lastShow (.answering [5, 3])).contactAtTake = .reachable ∧
    1 + (lastShow (.answering [])).retries ≤ (lastShow (.answering [])).ended + 1 ∧
    { lastShow (.answering []) with contactAtTake := .doubtful }.contactAtTake =
      (if (station.link 5).failures + 1 ≤ 2 then .doubtful else .lost) ∧
    (showEnd 4 [1] true (lit .green false)).dock 4 = (lit .green true).dock 4 ∧
    (showEnd 4 [3] true (lit .green false)).dock 4 = (lit .green false).dock 4 ∧
    (showEnd 4 [1] false (lit .green true)).dock 4 = (lit .green false).dock 4 := by decide +kernel

theorem test_unstamp_ends_met :
    (lastCall .unstamp (.manifestUnit 700) (.answering [5, 3])).entry.originators = [.manifestUnit 700] ∧
    (lastCall .unstamp (.tripTable 700) (.answering [5, 3])).entry.originators = [.tripTable 700] ∧
    (lastCall .unstamp (.tripTable 700) (.answering [5, 3])).entry.target = .node (dockNode 4) ∧
    (lastCall .unstamp (.tripTable 700) (.answering [5, 3])).entry.verb = .unstamp := by decide

/-- The data bytes of a sale: sequence 9, card 999, plan 0, 60 minutes, hold 500 (section 12.2). -/
def saleBytes : List Byte := [0, 9, 0, 0, 0, 3, 231, 0, 0, 60, 1, 244]

/-- The last attempt of a call to the pay terminal. -/
def lastTerminal (v : Verb) (p : AttemptPhase) : Call :=
  { terminalCall with entry := request 0 v [] .cardTable, phase := p, retries := 0 }

theorem test_terminal_calls_met : readSale saleBytes = saleOf 999 ∧
    ([0, 3] ++ saleBytes).length = 14 ∧ sum8 (([0, 3] ++ saleBytes) ++ [(217 : Byte)]) = 0 ∧
    (lastTerminal .saleread (.answering [])).entry.target = .node 0 ∧
    (lastTerminal .settle (.answering [])).node = 0 ∧ (lastTerminal .salereply (.answering [])).crossOf = none ∧
    1 + (lastTerminal .settle (.answering [])).retries ≤ (lastTerminal .settle (.answering [])).ended + 1 ∧
    (saleOf 999).sequence < 65536 ∧ (saleOf 999).plan < 256 ∧ (saleOf 999).minutes < 65536 ∧
    (saleOf 999).hold < 65536 := by decide +kernel

/-- Node 4 answers on A and node 5 on B only: segment 4 splits at a SILENT attempt on A, mends at one that
is answered, and stays where the reach does not change (R10, R16). -/
theorem test_splits_after :
    let c := callTo .survey (.answering [])
    let s := (station.setLink 4 (fun l => { l with reachA := .yes })).setLink 5 (fun l => { l with reachB := .yes })
    let t := (updateReach .silent c s).2
    s.splitNext c .no 4 = true ∧ s.splitChanges c .no = [(4, true)] ∧ t.splitNext c .yes 4 = false ∧
    t.splitChanges c .yes = [(4, false)] ∧ t.splitChanges c .no = [] ∧
    ({ c with splits := [(4, true)] }).splits ++ t.splitChanges c .yes = [(4, true)] ++ (4, false) :: [] := by
  decide +kernel

theorem test_incentive_inputs : (working [dropMove .short]).dropToDo = true ∧ (working [dropMove .done]).dropToDo = false ∧
    (working [pickupMove none .short none]).dropToDo = false ∧ station.hireableOthers 4 = 0 ∧
    station.hireableOthers 5 = 1 ∧ station.hireableCount = 1 := by decide +kernel

/-- An entry made CREW while its member request waited is stamped as a MEMBER's (log 37). -/
theorem test_ceiling_of_crew : (memberStamp { member with cls := .crew } station).ceiling = 65535 ∧
    (memberStamp guest station).ceiling = 400 := by decide

theorem test_commands_well_formed : Instr.resetPin.wellFormed = true ∧
    (Instr.coilCountExpiry 3).wellFormed = false ∧ State.reset.pendingOk = true := by decide

end Sys2Proof.Tests
end

section
/-! PROOFS. The call queue (R18 to R20): keys, the cases of placing a request, the entry that is taken next,
and the invariant of the queue. -/

namespace Sys2Proof.Machine

open Sys2Proof

/-! ### Keys -/

theorem sameKey_iff (a b : QueueEntry) : sameKey a b = true ↔ a.target = b.target ∧ a.verb = b.verb := by
  simp [sameKey]

theorem sameKey_eq_false_iff (a b : QueueEntry) :
    sameKey a b = false ↔ ¬(a.target = b.target ∧ a.verb = b.verb) := by
  rw [← sameKey_iff, Bool.not_eq_true]

@[simp] theorem sameKey_self (a : QueueEntry) : sameKey a a = true := (sameKey_iff a a).2 ⟨rfl, rfl⟩

theorem sameKey_comm (a b : QueueEntry) : sameKey a b = sameKey b a := by
  rw [Bool.eq_iff_iff, sameKey_iff, sameKey_iff, eq_comm, @eq_comm _ a.verb]

/-- No two entries of the list share a key. -/
def distinctKeys (q : List QueueEntry) : Prop := q.Pairwise (fun a b => sameKey a b = false)

/-- Removing the entry of a key from a list in which it is the only one of its key. -/
theorem filter_key_split {pre post : List QueueEntry} {e : QueueEntry}
    (h : ∀ x ∈ pre ++ post, sameKey x e = false) :
    (pre ++ e :: post).filter (fun x => !sameKey x e) = pre ++ post := by
  have hall : (pre ++ post).filter (fun x => !sameKey x e) = pre ++ post :=
    List.filter_eq_self.2 fun x hx => by simp [h x hx]
  rw [List.filter_append] at hall ⊢
  simpa using hall

/-- In a list of distinct keys an entry is the only one of its key. -/
theorem distinctKeys_split {pre post : List QueueEntry} {e : QueueEntry}
    (h : distinctKeys (pre ++ e :: post)) : ∀ x ∈ pre ++ post, sameKey x e = false := by
  obtain ⟨-, hpost, hcross⟩ := List.pairwise_append.1 h
  intro x hx
  rcases List.mem_append.1 hx with hx | hx
  · exact hcross x hx e List.mem_cons_self
  · rw [sameKey_comm]
    exact (List.pairwise_cons.1 hpost).1 x hx

/-! ### Placing a request -/

variable {s : State} {r : QueueEntry}

theorem enqueue_merge (h : ∃ e ∈ s.string.queue, sameKey e r = true) : enqueue r s =
    s.setQueue (s.string.queue.map (fun e => if sameKey e r then mergeEntry e r else e)) := by
  have hany : s.string.queue.any (fun e => sameKey e r) = true := List.any_eq_true.2 h
  simp only [enqueue, hany, if_true]

theorem any_sameKey_eq_false (h : ∀ e ∈ s.string.queue, sameKey e r = false) :
    s.string.queue.any (fun e => sameKey e r) = false :=
  List.any_eq_false.2 fun e he => by simp [h e he]

theorem enqueue_append (h : ∀ e ∈ s.string.queue, sameKey e r = false) (hroom : s.string.queue.length < 40) :
    enqueue r s = s.setQueue (s.string.queue ++ [r]) := by
  simp [enqueue, any_sameKey_eq_false h, hroom]

theorem enqueue_full_survey (h : ∀ e ∈ s.string.queue, sameKey e r = false)
    (hfull : 40 ≤ s.string.queue.length) (hv : r.verb = .survey) : enqueue r s = s := by
  simp [enqueue, any_sameKey_eq_false h, hfull, hv]

theorem enqueue_full_show (h : ∀ e ∈ s.string.queue, sameKey e r = false)
    (hfull : 40 ≤ s.string.queue.length) (hv : r.verb = .lampShow) : enqueue r s = notShown r.target s := by
  simp [enqueue, any_sameKey_eq_false h, hfull, hv]

theorem enqueue_full_evict (h : ∀ e ∈ s.string.queue, sameKey e r = false)
    (hfull : 40 ≤ s.string.queue.length) (hs : r.verb ≠ .survey) (hl : r.verb ≠ .lampShow) {v : QueueEntry}
    (hy : youngestYielding s.string.queue = some v) : enqueue r s =
      (if v.verb = .lampShow then notShown v.target s else s).setQueue
        (s.string.queue.filter (fun e => !sameKey e v) ++ [r]) := by
  simp [enqueue, any_sameKey_eq_false h, hfull, hs, hl, hy]

theorem enqueue_full_refuse (h : ∀ e ∈ s.string.queue, sameKey e r = false)
    (hfull : 40 ≤ s.string.queue.length) (hs : r.verb ≠ .survey) (hl : r.verb ≠ .lampShow)
    (hy : youngestYielding s.string.queue = none) : enqueue r s = s.noteFailure r := by
  simp [enqueue, any_sameKey_eq_false h, hfull, hs, hl, hy]

@[simp] theorem notShown_string (t : Target) (s : State) : (notShown t s).string = s.string := by
  rw [notShown_only]

theorem youngestYielding_mem {q : List QueueEntry} {v : QueueEntry} (h : youngestYielding q = some v) :
    v ∈ q := (List.mem_filter.1 (List.mem_of_getLast? h)).1

/-- What placing a request does to the queue: it merges, joins last, leaves it, or takes the place of an
entry that yields. -/
theorem enqueue_queue_cases (r : QueueEntry) (s : State) :
    (enqueue r s).string.queue = s.string.queue.map (fun e => if sameKey e r then mergeEntry e r else e) ∨
    (enqueue r s).string.queue = s.string.queue ∨
    ((∀ e ∈ s.string.queue, sameKey e r = false) ∧
      ((s.string.queue.length < 40 ∧ (enqueue r s).string.queue = s.string.queue ++ [r]) ∨
        ∃ v ∈ s.string.queue,
          (enqueue r s).string.queue = s.string.queue.filter (fun e => !sameKey e v) ++ [r])) := by
  by_cases hkey : ∃ e ∈ s.string.queue, sameKey e r = true
  · exact .inl (by rw [enqueue_merge hkey]; rfl)
  have hnew : ∀ e ∈ s.string.queue, sameKey e r = false := by simpa using hkey
  rcases Nat.lt_or_ge s.string.queue.length 40 with hroom | hfull
  · exact .inr (.inr ⟨hnew, .inl ⟨hroom, by rw [enqueue_append hnew hroom]; rfl⟩⟩)
  by_cases hs : r.verb = .survey
  · exact .inr (.inl (by rw [enqueue_full_survey hnew hfull hs]))
  by_cases hl : r.verb = .lampShow
  · exact .inr (.inl (by rw [enqueue_full_show hnew hfull hl, notShown_string]))
  cases hy : youngestYielding s.string.queue with
  | none => exact .inr (.inl (by rw [enqueue_full_refuse hnew hfull hs hl hy]; rfl))
  | some v =>
    exact .inr (.inr ⟨hnew, .inr ⟨v, youngestYielding_mem hy,
      by rw [enqueue_full_evict hnew hfull hs hl hy]; rfl⟩⟩)

/-- Of the String Controller's state, placing a request changes the queue alone. -/
theorem enqueue_string (r : QueueEntry) (s : State) :
    (enqueue r s).string = { s.string with queue := (enqueue r s).string.queue } := by
  unfold enqueue
  dsimp only
  repeat' split
  all_goals simp

@[simp] theorem enqueue_flight (r : QueueEntry) (s : State) :
    (enqueue r s).string.flight = s.string.flight := by rw [enqueue_string]

@[simp] theorem enqueue_splits (r : QueueEntry) (s : State) :
    (enqueue r s).string.splits = s.string.splits := by rw [enqueue_string]

/-! ### Taking a call -/

theorem beginCall_queue (e : QueueEntry) (s : State) :
    (beginCall e s).string.queue = s.string.queue.filter (fun x => !sameKey x e) := by
  unfold beginCall
  dsimp only
  split <;> rfl

theorem takeNext_in_use (h : s.string.flight.isSome = true) : takeNext s = s := by
  obtain ⟨f, hf⟩ := Option.isSome_iff_exists.1 h
  unfold takeNext
  simp [hf]

theorem takeNext_empty (h : s.string.queue = []) : takeNext s = s := by
  unfold takeNext
  rw [h]
  split
  · rfl
  · split <;> rfl

theorem takeNext_free (hh : s.agenda.hold = false) (hf : s.string.flight = none) {e : QueueEntry}
    (he : pickNext s.string.queue = some e) : takeNext s = beginCall e s := by
  simp [takeNext, hh, hf, he]

/-- The string takes nothing, or the entry of one key. -/
theorem takeNext_queue_cases (s : State) : (takeNext s).string.queue = s.string.queue ∨
    ∃ e, (takeNext s).string.queue = s.string.queue.filter (fun x => !sameKey x e) := by
  unfold takeNext
  repeat' split
  · exact .inl rfl
  · exact .inl rfl
  · exact .inr ⟨_, beginCall_queue _ s⟩
  · exact .inl rfl

/-- One round of `pickNext`: the entry found so far stays unless this one is of a lower class. -/
def lowerClass (best : Option QueueEntry) (e : QueueEntry) : Option QueueEntry :=
  match best with
  | none => some e
  | some b => if e.verb.cls < b.verb.cls then some e else some b

theorem pickNext_eq_foldl (q : List QueueEntry) : pickNext q = q.foldl lowerClass none := rfl

theorem foldl_lowerClass_keeps {e : QueueEntry} : ∀ {post : List QueueEntry},
    (∀ x ∈ post, e.verb.cls ≤ x.verb.cls) → post.foldl lowerClass (some e) = some e
  | [], _ => rfl
  | x :: post, h => by
    obtain ⟨hx, hpost⟩ := List.forall_mem_cons.1 h
    rw [List.foldl_cons, lowerClass, if_neg (Nat.not_lt.2 hx)]
    exact foldl_lowerClass_keeps hpost

theorem lowerClass_takes {best : Option QueueEntry} {e : QueueEntry}
    (h : ∀ b, best = some b → e.verb.cls < b.verb.cls) : lowerClass best e = some e := by
  cases best with
  | none => rfl
  | some b => exact if_pos (h b rfl)

theorem foldl_lowerClass_mem : ∀ (q : List QueueEntry) (best : Option QueueEntry) {b : QueueEntry},
    q.foldl lowerClass best = some b → best = some b ∨ b ∈ q
  | [], _, _, h => .inl h
  | x :: q, best, b, h => by
    rcases foldl_lowerClass_mem q (lowerClass best x) h with hb | hb
    · cases best with
      | none => exact .inr (by simp_all [lowerClass])
      | some c =>
        rw [lowerClass] at hb
        split at hb
        · exact .inr (by simp_all)
        · exact .inl hb
    · exact .inr (List.mem_cons_of_mem x hb)

/-- The oldest entry of the lowest class is taken next (R19). -/
theorem pickNext_split {pre post : List QueueEntry} {e : QueueEntry}
    (hpre : ∀ x ∈ pre, e.verb.cls < x.verb.cls) (hpost : ∀ x ∈ post, e.verb.cls ≤ x.verb.cls) :
    pickNext (pre ++ e :: post) = some e := by
  rw [pickNext_eq_foldl, List.foldl_append, List.foldl_cons, lowerClass_takes, foldl_lowerClass_keeps hpost]
  intro b hb
  rcases foldl_lowerClass_mem pre none hb with h | h
  · cases h
  · exact hpre b h

/-! ### The invariant of the queue (R18, R20) -/

theorem queueOk_of_queue {s t : State} (h : t.string.queue = s.string.queue) (hs : s.queueOk) : t.queueOk := by
  unfold State.queueOk
  rw [h]
  exact hs

theorem queueOk_of_filter {s t : State} {p : QueueEntry → Bool}
    (h : t.string.queue = s.string.queue.filter p) (hs : s.queueOk) : t.queueOk := by
  obtain ⟨hlen, hkeys⟩ := hs
  unfold State.queueOk
  rw [h]
  exact ⟨(List.length_filter_le _ _).trans hlen, hkeys.filter _⟩

/-- A merge leaves every entry its key (R18). -/
theorem sameKey_merged (r a b : QueueEntry) :
    sameKey (if sameKey a r then mergeEntry a r else a) (if sameKey b r then mergeEntry b r else b) =
      sameKey a b := by
  have hm : ∀ e : QueueEntry, (if sameKey e r then mergeEntry e r else e).target = e.target ∧
      (if sameKey e r then mergeEntry e r else e).verb = e.verb := fun e => by
    split <;> exact ⟨rfl, rfl⟩
  unfold sameKey at hm ⊢
  rw [(hm a).1, (hm a).2, (hm b).1, (hm b).2]

theorem distinctKeys_append {q : List QueueEntry} {r : QueueEntry} (hq : distinctKeys q)
    (hr : ∀ e ∈ q, sameKey e r = false) : distinctKeys (q ++ [r]) :=
  List.pairwise_append.2 ⟨hq, List.pairwise_singleton _ _, fun a ha b hb => by
    rw [List.mem_singleton.1 hb]; exact hr a ha⟩

/-- Placing a request keeps the queue within 40 entries of different keys. -/
theorem enqueue_queueOk (r : QueueEntry) (s : State) (hs : s.queueOk) : (enqueue r s).queueOk := by
  obtain ⟨hlen, hkeys⟩ := hs
  rcases enqueue_queue_cases r s with hq | hq | ⟨hnew, ⟨hroom, hq⟩ | ⟨v, hv, hq⟩⟩
  · refine ⟨by rwa [hq, List.length_map], ?_⟩
    rw [hq, List.pairwise_map]
    simpa only [sameKey_merged] using hkeys
  · exact queueOk_of_queue hq ⟨hlen, hkeys⟩
  · refine ⟨by rw [hq, List.length_append]; simpa using hroom, ?_⟩
    rw [hq]
    exact distinctKeys_append hkeys hnew
  · have hless : (s.string.queue.filter (fun e => !sameKey e v)).length < s.string.queue.length :=
      List.length_filter_lt_length_iff_exists.2 ⟨v, hv, by simp⟩
    refine ⟨by rw [hq, List.length_append, List.length_singleton]; omega, ?_⟩
    rw [hq]
    exact distinctKeys_append (hkeys.filter _) fun e he => hnew e (List.mem_filter.1 he).1

theorem takeNext_queueOk (s : State) (hs : s.queueOk) : (takeNext s).queueOk := by
  rcases takeNext_queue_cases s with h | ⟨e, h⟩
  · exact queueOk_of_queue h hs
  · exact queueOk_of_filter h hs

/-- Only placing a request and taking a call change the queue, and REINIT and the reset pin, which leave one
broadcast RELOCK and with it one SHOW (R22, R23). -/
theorem queueOk_closed : StepClosed State.queueOk where
  lampDock _ _ _ _ := queueOk_of_queue rfl
  show_ _ _ s := enqueue_queueOk _ s
  takeNext := takeNext_queueOk
  enqueue := enqueue_queueOk
  buttonMask _ _ _ := queueOk_of_queue rfl
  setCard _ _ _ := queueOk_of_queue rfl
  mapCards _ _ := queueOk_of_queue rfl
  addCard _ _ := queueOk_of_queue (by simp)
  dropCard _ _ := queueOk_of_queue rfl
  addRefer _ _ := queueOk_of_queue (by simp)
  setRefer _ _ _ := queueOk_of_queue rfl
  dropRefer _ _ := queueOk_of_queue rfl
  setTerminal _ _ := queueOk_of_queue rfl
  joinHire _ _ := queueOk_of_queue (by simp)
  filterHire _ _ := queueOk_of_queue rfl
  popHire _ := queueOk_of_queue rfl
  setToken _ _ _ := queueOk_of_queue rfl
  setRelease _ _ _ := queueOk_of_queue rfl
  setCancel _ _ _ := queueOk_of_queue rfl
  noteTrips _ := queueOk_of_queue rfl
  noteManifest _ := queueOk_of_queue rfl
  noteFollowOn _ := queueOk_of_queue rfl
  popFailure _ := queueOk_of_queue rfl
  clearTrips _ := queueOk_of_queue rfl
  clearManifest _ := queueOk_of_queue rfl
  clearFollowOn _ := queueOk_of_queue rfl
  clearAgenda _ := queueOk_of_queue rfl
  addTrip _ _ := queueOk_of_queue (by simp)
  setTrip _ _ _ := queueOk_of_queue rfl
  filterTrips _ _ := queueOk_of_queue rfl
  setDeferral _ _ _ := queueOk_of_queue rfl
  addFault _ _ := queueOk_of_queue (by simp)
  setFault _ _ _ := queueOk_of_queue rfl
  filterFaults _ _ := queueOk_of_queue rfl
  setFaultFull _ _ := queueOk_of_queue rfl
  setFaultDock _ _ _ := queueOk_of_queue rfl
  mapFaultDocks _ _ := queueOk_of_queue rfl
  setManifest _ _ := queueOk_of_queue rfl
  setDock _ _ _ := queueOk_of_queue rfl
  mapDocks _ _ := queueOk_of_queue rfl
  setLink _ _ _ := queueOk_of_queue rfl
  setCall _ _ := queueOk_of_queue rfl
  setSent _ _ := queueOk_of_queue rfl
  setSplit _ _ _ := queueOk_of_queue rfl
  setRound _ _ _ := queueOk_of_queue rfl
  freeString _ hs := takeNext_queueOk _ (queueOk_of_queue rfl hs)
  testActivation _ := queueOk_of_queue (by simp)
  setStaged _ _ _ := queueOk_of_queue rfl
  setActivation _ _ := queueOk_of_queue rfl
  setItem _ _ _ _ _ := queueOk_of_queue rfl
  setClock _ _ := queueOk_of_queue rfl
  endInstant _ := queueOk_of_queue rfl
  setSupply _ _ := queueOk_of_queue rfl
  setHold _ _ := queueOk_of_queue rfl
  reinitString _ _ := ⟨(by decide : [resetRelock].length ≤ 40), List.pairwise_singleton _ _⟩
  mapTrips _ _ := queueOk_of_queue rfl
  clearHire _ := queueOk_of_queue rfl
  clearRefers _ := queueOk_of_queue rfl
  clearDeferrals _ := queueOk_of_queue rfl
  setPort _ _ := queueOk_of_queue rfl
  reset _ := queueOk_of_queue (s := State.reset) rfl ⟨by decide, by decide⟩

theorem countPeriod_queue (s : State) : (countPeriod s).string.queue = s.string.queue := by
  unfold countPeriod
  split <;> rfl

/-- Settles O55: the queue's invariant is kept by every primitive update, so by every command and by a period
of the reference clock. -/
theorem stepKeepsQueue : Obligations.StepKeepsQueue := by
  unfold Obligations.StepKeepsQueue
  exact closed_step queueOk_closed (fun _ _ => queueOk_of_queue rfl) (fun _ => queueOk_of_queue rfl)
    (fun _ => queueOk_of_queue rfl) (fun s => queueOk_of_queue (countPeriod_queue s))

/-! ### A request joins the queue (R18) -/

/-- The entry of a request's key takes the request in, and every other entry stays. -/
theorem map_merge_split {pre post : List QueueEntry} {e r : QueueEntry} (hkey : sameKey e r = true)
    (h : distinctKeys (pre ++ e :: post)) :
    (pre ++ e :: post).map (fun x => if sameKey x r then mergeEntry x r else x) =
      pre ++ mergeEntry e r :: post := by
  have hother : ∀ x ∈ pre ++ post, sameKey x r = false := fun x hx => by
    have hx := distinctKeys_split h x hx
    rw [sameKey_eq_false_iff] at hx ⊢
    obtain ⟨ht, hv⟩ := (sameKey_iff e r).1 hkey
    rwa [← ht, ← hv]
  have hid : (pre ++ post).map (fun x => if sameKey x r then mergeEntry x r else x) = pre ++ post :=
    (List.map_congr_left (g := id) fun x hx => by simp [hother x hx]).trans (List.map_id _)
  rw [List.map_append] at hid ⊢
  obtain ⟨hpre, hpost⟩ := List.append_inj hid (by simp)
  rw [hpre, List.map_cons, hpost, if_pos hkey]

/-- The originators of a merged entry are those of either (R18). -/
theorem mem_mergeEntry_originators (old new : QueueEntry) (o : Originator) :
    o ∈ (mergeEntry old new).originators ↔ o ∈ old.originators ∨ o ∈ new.originators := by
  simp only [mergeEntry, List.mem_append, List.mem_filter, Bool.not_eq_true', List.contains_eq_mem,
    decide_eq_false_iff_not]
  tauto

theorem not_sameKey_of {q : List QueueEntry} {r : QueueEntry}
    (h : ∀ e ∈ q, ¬(e.target = r.target ∧ e.verb = r.verb)) : ∀ e ∈ q, sameKey e r = false :=
  fun e he => (sameKey_eq_false_iff e r).2 (h e he)

/-- Settles O44, by the cases of `enqueue` with a new key and with a queued one. -/
theorem queueTakesRequests : Obligations.QueueTakesRequests := by
  unfold Obligations.QueueTakesRequests
  intro s r hs
  refine ⟨fun hnew hroom => enqueue_append (not_sameKey_of hnew) hroom, fun pre e post hq ht hv => ?_,
    enqueue_queueOk r s hs, enqueue_flight r s⟩
  have hkey : sameKey e r = true := (sameKey_iff e r).2 ⟨ht, hv⟩
  have hkeys : distinctKeys (pre ++ e :: post) := hq ▸ hs.2
  refine ⟨mergeEntry e r, ?_, rfl, rfl, rfl, rfl, mem_mergeEntry_originators e r⟩
  rw [enqueue_merge ⟨e, by simp [hq], hkey⟩, hq, map_merge_split hkey hkeys]
  rfl

/-! ### A full queue (R20) -/

theorem yields_iff (e : QueueEntry) : yields e = true ↔ e.verb = .survey ∨ e.verb = .lampShow := by
  simp [yields]

theorem youngestYielding_split {pre post : List QueueEntry} {v : QueueEntry} (hv : yields v = true)
    (hpost : ∀ e ∈ post, yields e = false) : youngestYielding (pre ++ v :: post) = some v := by
  have hnil : post.filter yields = [] := List.filter_eq_nil_iff.2 fun e he => by simp [hpost e he]
  unfold youngestYielding
  rw [List.filter_append, List.filter_cons_of_pos hv, hnil, List.getLast?_concat]

theorem youngestYielding_none {q : List QueueEntry} (h : ∀ e ∈ q, yields e = false) :
    youngestYielding q = none := by
  have hnil : q.filter yields = [] := List.filter_eq_nil_iff.2 fun e he => by simp [h e he]
  unfold youngestYielding
  rw [hnil]
  rfl

@[simp] theorem dockOfNumber_dockNumber (d : Dock) : dockOfNumber (d.val + 1) = some d := by
  have h : 1 ≤ d.val + 1 ∧ d.val + 1 ≤ 30 := ⟨by omega, by omega⟩
  simp [dockOfNumber, h]

@[simp] theorem nodeDock_dockNode (d : Dock) : nodeDock (dockNode d) = some d := dockOfNumber_dockNumber d

theorem notShown_dock (d : Dock) (s : State) :
    ((notShown (.node (dockNode d)) s).dock d).lampShown = false := by
  simp [notShown]

theorem verb_of_cls_le_three {v : Verb} (h : v.cls ≤ 3) : v ≠ .survey ∧ v ≠ .lampShow := by
  cases v <;> simp_all [Verb.cls]

/-- Settles O45, by the cases of `enqueue` at 40 entries with a new key. -/
theorem fullQueue : Obligations.FullQueue := by
  unfold Obligations.FullQueue
  intro s r hs hlen hnew
  have hnew := not_sameKey_of hnew
  have hfull : 40 ≤ s.string.queue.length := hlen.ge
  have hyields : ∀ {l : List QueueEntry}, (∀ e ∈ l, e.verb ≠ .survey ∧ e.verb ≠ .lampShow) →
      ∀ e ∈ l, yields e = false := fun h e he => by
    rw [← Bool.not_eq_true, yields_iff]
    exact not_or.2 (h e he)
  refine ⟨enqueue_full_survey hnew hfull, fun d hv ht => ?_, fun hcls pre v post hq hv hpost => ?_,
    fun hcls hnone => ?_⟩
  · rw [enqueue_full_show hnew hfull hv, ht]
    exact ⟨by simp, notShown_dock d s⟩
  · obtain ⟨hrs, hrl⟩ := verb_of_cls_le_three hcls
    have hy : youngestYielding s.string.queue = some v :=
      hq ▸ youngestYielding_split ((yields_iff v).2 hv) (hyields hpost)
    have hkeys : distinctKeys (pre ++ v :: post) := hq ▸ hs.2
    rw [enqueue_full_evict hnew hfull hrs hrl hy, hq, filter_key_split (distinctKeys_split hkeys)]
    refine ⟨rfl, fun d hvl ht => ?_⟩
    rw [if_pos hvl, ht, dock_of_docks (setQueue_docks _ _)]
    exact notShown_dock d s
  · obtain ⟨hrs, hrl⟩ := verb_of_cls_le_three hcls
    exact enqueue_full_refuse hnew hfull hrs hrl (youngestYielding_none (hyields hnone))

end Sys2Proof.Machine
end

section
/-! PROOFS. The end of an event, string characters, and survey rounds (R1 to R4, R19, R21). -/

namespace Sys2Proof.Machine

open Sys2Proof

/-! ### The end of an event (R19, log 7) -/

theorem settle_of_isEmpty {s : State} (n : Nat) (h : s.agenda.isEmpty = true) : settle (n + 1) s = s := by
  rw [settle, if_pos h]

/-- With nothing left to its end, an event ends with the next call alone. -/
theorem finishEvent_quiet {s : State} (h : s.quiet) : finishEvent s = takeNext s := by
  have hempty : s.agenda.isEmpty = true := by rw [h]; rfl
  exact congrArg takeNext (settle_of_isEmpty 4095 hempty)

/-- A broadcast is sent on both ends and waits one answer window (R6). -/
theorem beginCall_broadcast {e : QueueEntry} (s : State) (h : e.target = .all) : beginCall e s =
    { s with string := { s.string with
        queue := s.string.queue.filter (fun x => !sameKey x e),
        flight := some (.broadcast e s.settings.windowMs),
        lastSent := onEnd .A (callChars e.target e.verb e.args) ++ onEnd .B (callChars e.target e.verb e.args) } } := by
  simp only [beginCall, h]

/-- The call to a node as it is when it is taken (R7, R8, R17). -/
def takenCall (n : Node) (e : QueueEntry) (s : State) : Call :=
  { node := n, entry := e, noted := (s.link n).preferred, window := s.settings.windowMs,
    retries := s.settings.retryCount, retryOther := decide (s.settings.retryEnd = 1),
    flip := decide (s.settings.flip = 1), contactAtTake := (s.link n).contact, ended := 0,
    on := (s.link n).preferred, crossOf := none, phase := .answering [],
    remaining := s.settings.windowMs, splits := [] }

/-- The first attempt of a call to a node is sent on its preferred end (R8). -/
theorem beginCall_node {e : QueueEntry} {n : Node} (s : State) (h : e.target = .node n) : beginCall e s =
    { s with string := { s.string with
        queue := s.string.queue.filter (fun x => !sameKey x e),
        flight := some (.call (takenCall n e s)),
        lastSent := onEnd (s.link n).preferred (callChars e.target e.verb e.args) } } := by
  simp only [beginCall, h, takenCall]

/-- Settles O8: the event ends with `takeNext`, which takes the entry that `pickNext_split` names; the passes
before it keep what `outside_closed` lists. -/
theorem eventEnds : Obligations.EventEnds := by
  unfold Obligations.EventEnds
  refine ⟨fun s hq => ⟨fun hf => ?_, fun he => ?_, fun hf pre e post hsplit hpre hpost hkeys => ?_⟩, fun s => ?_⟩
  · rw [finishEvent_quiet hq, takeNext_in_use hf]
  · rw [finishEvent_quiet hq, takeNext_empty he]
  · have hhold : s.agenda.hold = false := by rw [hq]; rfl
    have hnext : pickNext s.string.queue = some e := hsplit ▸ pickNext_split hpre hpost
    have htake : finishEvent s = beginCall e s := by rw [finishEvent_quiet hq, takeNext_free hhold hf hnext]
    have hrest : s.string.queue.filter (fun x => !sameKey x e) = pre ++ post := by
      rw [hsplit, filter_key_split hkeys]
    refine ⟨fun ht => ?_, fun n ht => ?_⟩
    · rw [htake, beginCall_broadcast s ht, hrest]
      rfl
    · rw [htake, beginCall_node s ht, hrest]
      rfl
  · exact closed_finishEvent (outside_closed s).toClosed s ⟨rfl, rfl, rfl, rfl, rfl, rfl, rfl⟩

/-! ### String characters (R1, R3, R4) -/

theorem exec_character (e : StringEnd) (data : Byte) (mark : Bool) (s : State) :
    exec (.stringCharacterReceived e data mark) s = .next (finishEvent (stringChar e data mark s)) := rfl

/-- Outside an attempt and during a broadcast's wait a character is discarded (R1, R6). -/
theorem stringChar_no_call {s : State} (h : ∀ c, s.string.flight ≠ some (.call c)) (e : StringEnd)
    (data : Byte) (mark : Bool) : stringChar e data mark s = s := by
  unfold stringChar
  split
  · exact absurd ‹_› (h _)
  · rfl
  · rfl

theorem stringChar_other_end {s : State} {c : Call} (h : s.string.flight = some (.call c)) {e : StringEnd}
    (he : c.on ≠ e) (data : Byte) (mark : Bool) : stringChar e data mark s = s := by
  simp [stringChar, h, he]

theorem stringChar_in_use {s : State} {c : Call} (h : s.string.flight = some (.call c)) (data : Byte)
    (mark : Bool) : stringChar c.on data mark s = receiveChar data mark c s := by
  simp [stringChar, h]

section

variable {s : State} {c : Call} {got : List Byte} {data : Byte}

theorem receiveChar_quiet {o : QuietFinding} (h : c.phase = .quiet o) (mark : Bool) :
    receiveChar data mark c s = s.setCall { c with remaining := c.window } := by
  simp [receiveChar, h]

theorem receiveChar_marked (h : c.phase = .answering got) :
    receiveChar data true c s = waitQuiet .garbled c s := by
  simp [receiveChar, h]

theorem receiveChar_foreign (h : c.phase = .answering []) (hd : data ≠ c.entry.target.address) :
    receiveChar data false c s = waitQuiet .mismatch c s := by
  simp [receiveChar, h, hd]

/-- A character that the address check lets through joins the answer. -/
theorem receiveChar_joins (h : c.phase = .answering got) (hd : got ≠ [] ∨ data = c.entry.target.address) :
    receiveChar data false c s =
      if (got ++ [data]).length = c.entry.verb.answerData + 3 then judgeAnswer (got ++ [data]) c s
      else s.setCall { c with phase := .answering (got ++ [data]), remaining := c.window } := by
  have hpass : ¬(got = [] ∧ data ≠ c.entry.target.address) := by tauto
  simp only [receiveChar, h, hpass, if_false, Bool.false_eq_true]

theorem receiveChar_incomplete (h : c.phase = .answering got)
    (hd : got ≠ [] ∨ data = c.entry.target.address) (hn : got.length + 1 ≠ c.entry.verb.answerData + 3) :
    receiveChar data false c s =
      s.setCall { c with phase := .answering (got ++ [data]), remaining := c.window } := by
  rw [receiveChar_joins h hd, if_neg (by simpa using hn)]

theorem receiveChar_complete (h : c.phase = .answering got)
    (hd : got ≠ [] ∨ data = c.entry.target.address) (hn : got.length + 1 = c.entry.verb.answerData + 3) :
    receiveChar data false c s = judgeAnswer (got ++ [data]) c s := by
  rw [receiveChar_joins h hd, if_pos (by simpa using hn)]

end

/-- Settles O39, by the cases of the flight, the end and the phase of the attempt. -/
theorem charactersJudged : Obligations.CharactersJudged := by
  unfold Obligations.CharactersJudged
  intro s e data mark
  simp only [exec_character]
  refine ⟨fun h => by rw [stringChar_no_call h], fun c hc => ⟨fun he => by rw [stringChar_other_end hc he], ?_⟩⟩
  rintro rfl
  rw [stringChar_in_use hc]
  refine ⟨fun o ho => by rw [receiveChar_quiet ho], fun got hgot => ⟨?_, ?_, ?_⟩⟩
  · rintro rfl
    rw [receiveChar_marked hgot]
    rfl
  · rintro rfl rfl hd
    rw [receiveChar_foreign hgot hd]
    rfl
  · rintro rfl hd
    refine ⟨fun hn => by rw [receiveChar_incomplete hgot hd hn], fun hn hsum => ?_⟩
    rw [receiveChar_complete hgot hd hn, judgeAnswer, if_neg hsum]
    rfl

/-! ### Survey rounds (R21) -/

/-- The String Controller took requests and calls: its queue, the call in flight and what it last sent, and
nothing else of the state. -/
def State.carries (s t : State) : Prop :=
  ∃ q f l, t = { s with string := { s.string with queue := q, flight := f, lastSent := l } }

theorem carries_refl (s : State) : s.carries s := ⟨_, _, _, rfl⟩

theorem carries_trans {s t u : State} (h : s.carries t) (h' : t.carries u) : s.carries u := by
  obtain ⟨q, f, l, rfl⟩ := h
  obtain ⟨q', f', l', rfl⟩ := h'
  exact ⟨q', f', l', rfl⟩

theorem carries_takeNext (s : State) : s.carries (takeNext s) := by
  unfold takeNext beginCall
  repeat' split
  all_goals exact ⟨_, _, _, rfl⟩

/-- A SURVEY that a full queue drops leaves no trace (R20). -/
theorem carries_enqueue_survey {r : QueueEntry} (h : r.verb = .survey) (s : State) :
    s.carries (enqueue r s) := by
  simp only [enqueue, h, if_true]
  repeat' split
  all_goals exact ⟨_, _, _, rfl⟩

def placeAll (l : List QueueEntry) (s : State) : State := l.foldl (fun s r => place r s) s

theorem carries_placeAll : ∀ (l : List QueueEntry) (s : State), (∀ r ∈ l, r.verb = .survey) →
    s.carries (placeAll l s)
  | [], s, _ => carries_refl s
  | r :: l, s, h => by
    obtain ⟨hr, hl⟩ := List.forall_mem_cons.1 h
    exact carries_trans (carries_trans (carries_enqueue_survey hr s) (carries_takeNext _))
      (carries_placeAll l (place r s) hl)

/-- The requests of a round: every node, without the LOST ones unless it is a cross round. -/
def roundRequests (nodes : List Node) (cross : Bool) (s : State) : List QueueEntry :=
  (nodes.filter (fun n => decide ((s.link n).contact ≠ .lost) || cross)).map (fun n => surveyRequest n cross)

theorem roundRequests_survey (nodes : List Node) (cross : Bool) (s : State) :
    ∀ r ∈ roundRequests nodes cross s, r.verb = .survey := by
  intro r hr
  obtain ⟨n, -, rfl⟩ := List.mem_map.1 hr
  rfl

theorem roundRequests_distinct {nodes : List Node} (h : nodes.Nodup) (cross : Bool) (s : State) :
    distinctKeys (roundRequests nodes cross s) := by
  refine List.pairwise_map.2 ((h.filter _).imp fun {a b} hab => ?_)
  rw [sameKey_eq_false_iff]
  rintro ⟨ht, -⟩
  exact hab (Target.node.inj ht)

theorem roundRequests_carries {s t : State} (h : s.carries t) (nodes : List Node) (cross : Bool) :
    roundRequests nodes cross t = roundRequests nodes cross s := by
  obtain ⟨q, f, l, rfl⟩ := h
  rfl

/-- One node of a round. -/
def surveyNode (cross : Bool) (s : State) (n : Node) : State :=
  if (s.link n).contact = .lost ∧ cross = false then s else place (surveyRequest n cross) s

theorem foldl_surveyNode (cross : Bool) : ∀ (nodes : List Node) (s : State),
    nodes.foldl (surveyNode cross) s = placeAll (roundRequests nodes cross s) s
  | [], _ => rfl
  | n :: nodes, s => by
    rw [List.foldl_cons, foldl_surveyNode cross nodes, surveyNode]
    by_cases hn : (s.link n).contact = .lost ∧ cross = false
    · simp [roundRequests, hn]
    · have hcarry : s.carries (place (surveyRequest n cross) s) :=
        carries_trans (carries_enqueue_survey rfl s) (carries_takeNext _)
      have hcons : roundRequests (n :: nodes) cross s = surveyRequest n cross :: roundRequests nodes cross s := by
        rw [roundRequests, List.filter_cons_of_pos (by cases cross <;> simp_all)]
        rfl
      rw [if_neg hn, hcons, roundRequests_carries hcarry]
      rfl

theorem placeRound_eq (cross : Bool) (s : State) :
    placeRound cross s = placeAll (roundRequests (List.finRange 31) cross s) s := foldl_surveyNode cross _ s

/-- A SURVEY with a new key joins while there is room, and is dropped from 40 entries on (R18, R20). -/
theorem enqueue_survey {r : QueueEntry} {s : State} (hr : r.verb = .survey)
    (hnew : ∀ e ∈ s.string.queue, sameKey e r = false) :
    enqueue r s = s.setQueue (s.string.queue ++ [r].take (40 - s.string.queue.length)) := by
  rcases Nat.lt_or_ge s.string.queue.length 40 with hroom | hfull
  · rw [enqueue_append hnew hroom, List.take_of_length_le (by rw [List.length_singleton]; omega)]
  · rw [enqueue_full_survey hnew hfull hr, Nat.sub_eq_zero_of_le hfull, List.take_zero, List.append_nil]
    rfl

/-- With a call in flight SURVEY requests of new keys join the queue, as many as it holds to 40. -/
theorem placeAll_in_use : ∀ (l : List QueueEntry) (s : State), s.string.flight.isSome = true →
    s.string.queue.length ≤ 40 → (∀ r ∈ l, r.verb = .survey) → distinctKeys l →
    (∀ e ∈ s.string.queue, ∀ r ∈ l, sameKey e r = false) →
    placeAll l s = s.setQueue (s.string.queue ++ l.take (40 - s.string.queue.length))
  | [], s, _, _, _, _, _ => by rw [List.take_nil, List.append_nil]; rfl
  | r :: l, s, hf, hlen, hverb, hkeys, hnew => by
    obtain ⟨hr, hl⟩ := List.forall_mem_cons.1 hverb
    obtain ⟨hrl, hkeys⟩ := List.pairwise_cons.1 hkeys
    have hrnew : ∀ e ∈ s.string.queue, sameKey e r = false := fun e he => hnew e he r List.mem_cons_self
    have hplace : place r s = s.setQueue (s.string.queue ++ [r].take (40 - s.string.queue.length)) := by
      rw [place, enqueue_survey hr hrnew]
      exact takeNext_in_use hf
    have hnext : placeAll (r :: l) s = placeAll l (place r s) := rfl
    rw [hnext, hplace]
    refine (placeAll_in_use l (s.setQueue (s.string.queue ++ [r].take (40 - s.string.queue.length))) hf ?_ hl
      hkeys ?_).trans ?_
    · simp only [setQueue_string, List.length_append, List.length_take, List.length_singleton]
      omega
    · intro e he x hx
      rcases List.mem_append.1 he with he | he
      · exact hnew e he x (List.mem_cons_of_mem r hx)
      · rw [List.mem_singleton.1 (List.mem_of_mem_take he)]
        exact hrl x hx
    · rcases Nat.lt_or_ge s.string.queue.length 40 with hroom | hfull
      · obtain ⟨k, hk⟩ : ∃ k, 40 - s.string.queue.length = k + 1 := ⟨39 - s.string.queue.length, by omega⟩
        simp [hk, State.setQueue, Nat.sub_add_eq]
      · simp [Nat.sub_eq_zero_of_le hfull, State.setQueue]

theorem beginCall_flight (e : QueueEntry) (s : State) :
    (∃ ms, (beginCall e s).string.flight = some (.broadcast e ms)) ∨
    ∃ c, (beginCall e s).string.flight = some (.call c) ∧ c.entry = e ∧ c.ended = 0 := by
  cases ht : e.target with
  | all => exact .inl ⟨_, by rw [beginCall_broadcast s ht]⟩
  | node n => exact .inr ⟨takenCall n e s, by rw [beginCall_node s ht], rfl, rfl⟩

theorem beginCall_in_use (e : QueueEntry) (s : State) : (beginCall e s).string.flight.isSome = true := by
  rcases beginCall_flight e s with ⟨_, h⟩ | ⟨_, h, -⟩ <;> rw [h] <;> rfl

theorem exec_round (s : State) : exec .roundTimerExpiry s = .next (finishEvent (roundExpiry s)) := rfl

theorem roundExpiry_skipped {s : State} (h : ∃ e ∈ s.string.queue, e.verb = .survey) :
    roundExpiry s = s.setRound s.string.round (s.settings.roundPeriod * 100) := by
  simp only [roundExpiry]
  rw [if_pos (by simpa using h)]

/-- The round number raised and the timer reloaded. -/
def State.roundBegun (s : State) : State :=
  s.setRound (s.string.round + 1) (s.settings.roundPeriod * 100)

/-- A round places its requests with the timer reloaded and the number raised. -/
theorem roundExpiry_asks {s : State} (h : ∀ e ∈ s.string.queue, e.verb ≠ .survey) :
    roundExpiry s = placeAll (roundRequests (List.finRange 31) (decide ((s.string.round + 1) % 8 = 0)) s)
      s.roundBegun := by
  simp only [roundExpiry]
  rw [if_neg (by simpa using h), placeRound_eq]
  rfl

/-- Entries of other verbs have other keys than SURVEY requests. -/
theorem sameKey_of_verb_ne {e r : QueueEntry} (he : e.verb ≠ .survey) (hr : r.verb = .survey) :
    sameKey e r = false := (sameKey_eq_false_iff e r).2 fun h => he (h.2.trans hr)

/-- The first request of a round finds the string free: the next call is taken at once, and the others join
what is left of the queue. -/
theorem placeAll_free {s : State} {first e : QueueEntry} {rest pre post : List QueueEntry}
    (hf : s.string.flight = none) (hhold : s.agenda.hold = false) (hlen : s.string.queue.length ≤ 40)
    (hverb : ∀ r ∈ first :: rest, r.verb = .survey) (hdist : distinctKeys (first :: rest))
    (hnew : ∀ e ∈ s.string.queue, ∀ r ∈ first :: rest, sameKey e r = false)
    (hq : s.string.queue ++ [first].take (40 - s.string.queue.length) = pre ++ e :: post)
    (hpre : ∀ x ∈ pre, e.verb.cls < x.verb.cls) (hpost : ∀ x ∈ post, e.verb.cls ≤ x.verb.cls)
    (hkeys : ∀ x ∈ pre ++ post, sameKey x e = false) :
    placeAll (first :: rest) s = (beginCall e (s.setQueue (pre ++ e :: post))).setQueue
      (pre ++ post ++ rest.take (40 - (pre ++ post).length)) := by
  obtain ⟨hfirst, hrest⟩ := List.forall_mem_cons.1 hverb
  obtain ⟨hfr, hdist⟩ := List.pairwise_cons.1 hdist
  have hplace : place first s = beginCall e (s.setQueue (pre ++ e :: post)) := by
    rw [place, enqueue_survey hfirst (fun x hx => hnew x hx first List.mem_cons_self), hq]
    exact takeNext_free (s := s.setQueue (pre ++ e :: post)) hhold hf (pickNext_split hpre hpost)
  have hqueue : (place first s).string.queue = pre ++ post := by
    rw [hplace, beginCall_queue]
    exact filter_key_split hkeys
  have hmem : ∀ x ∈ pre ++ post, x ∈ s.string.queue ∨ x = first := fun x hx => by
    have hx : x ∈ pre ++ e :: post := by
      rw [List.mem_append, List.mem_cons]
      exact (List.mem_append.1 hx).imp_right .inr
    rw [← hq] at hx
    exact (List.mem_append.1 hx).imp_right fun h => List.mem_singleton.1 (List.mem_of_mem_take h)
  have hfew : (pre ++ post).length ≤ 40 := by
    have := congrArg List.length hq
    simp only [List.length_append, List.length_take, List.length_cons, List.length_nil] at this ⊢
    omega
  have hnext : placeAll (first :: rest) s = placeAll rest (place first s) := rfl
  rw [hnext, placeAll_in_use rest (place first s) (hplace ▸ beginCall_in_use e _) (hqueue ▸ hfew) hrest hdist,
    hqueue, hplace]
  intro x hx r hr
  rw [hqueue] at hx
  rcases hmem x hx with hx | rfl
  · exact hnew x hx r (List.mem_cons_of_mem first hr)
  · exact hfr r hr

/-- Settles O43: the round is a `placeAll` of its requests, in use by `placeAll_in_use` and free by
`placeAll_free`. -/
theorem surveyRounds : Obligations.SurveyRounds := by
  unfold Obligations.SurveyRounds
  intro s
  refine ⟨fun h => by rw [exec_round, roundExpiry_skipped h]; rfl, fun h => ?_⟩
  intro asked
  have hasked : asked = roundRequests (List.finRange 31) (decide ((s.string.round + 1) % 8 = 0)) s := rfl
  have hverb : ∀ r ∈ asked, r.verb = .survey := hasked ▸ roundRequests_survey _ _ s
  have hdist : distinctKeys asked := hasked ▸ roundRequests_distinct (List.nodup_finRange 31) _ s
  have hnew : ∀ e ∈ s.string.queue, ∀ r ∈ asked, sameKey e r = false := fun e he r hr =>
    sameKey_of_verb_ne (h e he) (hverb r hr)
  have hround := roundExpiry_asks h
  rw [← hasked] at hround
  refine ⟨roundExpiry s, exec_round s, ?_⟩
  rw [hround]
  obtain ⟨q, f, l, hcarry⟩ := carries_placeAll asked s.roundBegun hverb
  refine ⟨by rw [hcarry]; rfl, by rw [hcarry]; rfl, by rw [hcarry]; rfl, by rw [hcarry]; rfl, ?_, ?_, ?_⟩
  · intro hf hlen
    rw [placeAll_in_use asked s.roundBegun hf hlen hverb hdist hnew]
    exact ⟨rfl, rfl⟩
  · intro hnone
    rw [hnone]
    exact ⟨rfl, rfl⟩
  · intro hf hhold hlen first rest pre post e hcons hq hpre hpost hkeys
    rw [hcons] at hverb hdist hnew ⊢
    rw [placeAll_free (s := s.roundBegun) hf hhold hlen hverb hdist hnew hq hpre hpost hkeys]
    refine ⟨rfl, ?_⟩
    rcases beginCall_flight e (s.roundBegun.setQueue (pre ++ e :: post)) with ⟨ms, hf⟩ | ⟨c, hf, hentry, hended⟩
    · exact ⟨_, hf, rfl⟩
    · exact ⟨_, hf, hentry, hended⟩

end Sys2Proof.Machine
end

section
/-! PROOFS. The characters of a call, the home ends, split indications and masks (R1, R2, R12, R15, R16,
R196). -/

namespace Sys2Proof.Machine

open Sys2Proof

/-! ### The bytes and characters of a call (R1, R2) -/

theorem sum8_append_one (l : List Byte) (b : Byte) : sum8 (l ++ [b]) = sum8 l + b := by
  simp [sum8]

/-- The check makes the 8-bit sum of a call 0 (R2). -/
theorem sum8_callBytes (t : Target) (v : Verb) (args : List Byte) : sum8 (callBytes t v args) = 0 := by
  unfold callBytes
  rw [sum8_append_one]
  exact BitVec.add_right_neg _

theorem callBytes_eq (t : Target) (v : Verb) (args : List Byte) : callBytes t v args =
    t.address :: v.code :: (args ++ [-(sum8 (t.address :: v.code :: args))]) := rfl

theorem callChars_data (t : Target) (v : Verb) (args : List Byte) :
    (callChars t v args).map StringChar.data = callBytes t v args := by
  simp [callChars, callBytes_eq, Function.comp_def]

theorem callChars_mark (t : Target) (v : Verb) (args : List Byte) :
    (callChars t v args).map StringChar.mark = true :: List.replicate (args.length + 2) false := by
  simp [callChars, callBytes_eq, Function.comp_def, List.map_const', List.replicate_succ, ← List.replicate_succ']

theorem node_address (n : Node) : (Target.node n).address.toNat = n.val := toNat_byte n.val (by omega)

/-! ### Splits and masks (R15, R16) -/

theorem splitAfter_set_iff (near far : LinkRecord) : splitAfter near far false = true ↔
    near.reachA = .yes ∧ far.reachA = .no ∧ far.reachB = .yes := by
  simp [splitAfter, and_assoc]

theorem splitAfter_clear_iff (near far : LinkRecord) :
    splitAfter near far true = false ↔ far.reachA = .yes := by
  simp [splitAfter]

/-- BUTTON is bit 4 of a condition character. -/
theorem getLsbD_buttonBit (i : Fin 8) : buttonBit.getLsbD i.val = decide (i = 4) := by
  revert i
  decide

theorem getLsbD_mask (l : LinkRecord) (i : Fin 8) :
    l.mask.getLsbD i.val = (l.hostMask.getLsbD i.val || (l.buttonMask && decide (i = 4))) := by
  cases hb : l.buttonMask <;>
    simp only [LinkRecord.mask, hb, if_true, if_false, Bool.false_eq_true, BitVec.getLsbD_or, BitVec.ofNat_eq_ofNat,
      BitVec.getLsbD_zero, getLsbD_buttonBit, Bool.true_and, Bool.false_and]

/-- The held button is added and the masks applied, bit by bit (R14, R15). -/
theorem getLsbD_handOver (l : LinkRecord) (condition : Byte) (i : Fin 8) :
    (l.handOver condition).getLsbD i.val =
      ((condition.getLsbD i.val || (l.heldButton && decide (i = 4))) &&
        !(l.hostMask.getLsbD i.val || (l.buttonMask && decide (i = 4)))) := by
  cases hh : l.heldButton <;>
    simp only [LinkRecord.handOver, hh, if_true, if_false, Bool.false_eq_true, BitVec.getLsbD_and, BitVec.getLsbD_or,
      BitVec.getLsbD_not, getLsbD_mask, getLsbD_buttonBit, i.isLt, decide_true, Bool.true_and, Bool.false_and,
      Bool.or_false]

/-! ### The bits of a character (R196) -/

theorem bits_eq (c : StringChar) : c.bits = [c.data.getLsbD 0, c.data.getLsbD 1, c.data.getLsbD 2,
    c.data.getLsbD 3, c.data.getLsbD 4, c.data.getLsbD 5, c.data.getLsbD 6, c.data.getLsbD 7, c.mark] := rfl

theorem testBit_bitsValue : ∀ (l : List Bool) (i : Nat), (bitsValue l).testBit i = l.getD i false
  | [], i => by simp [bitsValue]
  | b :: l, 0 => by cases b <;> simp [bitsValue, Nat.testBit_zero, Nat.add_mod]
  | b :: l, i + 1 => by
    have hhalf : ((if b then 1 else 0) + 2 * bitsValue l) / 2 = bitsValue l := by split <;> omega
    rw [bitsValue, Nat.testBit_succ, hhalf, testBit_bitsValue l i, List.getD_cons_succ]

/-- The 8 bits of a byte, the least significant first, spell it. -/
theorem byte_bitsValue (b : Byte) :
    byte (bitsValue ((List.range 8).map (fun i => b.getLsbD i))) = b := by
  refine BitVec.eq_of_getLsbD_eq fun i hi => ?_
  rw [byte, BitVec.getLsbD_ofNat, testBit_bitsValue]
  simp [hi]

theorem charOfBits_bits (c : StringChar) : charOfBits c.bits = some c := by
  have hdata : c.bits.take 8 = (List.range 8).map (fun i => c.data.getLsbD i) := rfl
  have hmark : c.bits.getD 8 false = c.mark := rfl
  rw [charOfBits, if_pos (show c.bits.length = 9 from rfl), hdata, hmark, byte_bitsValue]

theorem receiveBits_bits (s : State) (e : StringEnd) (c : StringChar) : s.receiveBits e c.bits =
    { s with pending := s.pending ++ [.stringCharacterReceived e c.data c.mark] } := by
  rw [State.receiveBits, charOfBits_bits]

theorem receiveBits_other (s : State) (e : StringEnd) {bs : List Bool} (h : bs.length ≠ 9) :
    s.receiveBits e bs = s := by
  rw [State.receiveBits, charOfBits, if_neg h]

/-- Settles O38, part by part from the laws above. -/
theorem callsAndLinks : Obligations.CallsAndLinks := by
  unfold Obligations.CallsAndLinks
  refine ⟨⟨⟨fun t v args => ⟨⟨_, callBytes_eq t v args⟩, sum8_callBytes t v args, callChars_data t v args,
    callChars_mark t v args⟩, by decide, by decide, node_address, rfl⟩,
    fun _ => rfl, fun near far => ⟨splitAfter_set_iff near far, splitAfter_clear_iff near far⟩,
      getLsbD_handOver⟩,
    ⟨bits_eq, fun _ => rfl, receiveBits_bits, fun s e _ => receiveBits_other s e⟩, fun _ _ => ⟨rfl, rfl⟩⟩

end Sys2Proof.Machine
end

section
/-! PROOFS. The end of an attempt: reach, the splits beside the node, and the next attempt (R3, R4, R8, R10,
R16). -/

namespace Sys2Proof.Machine

open Sys2Proof

/-! ### The splits that a change of reach moves (R10, R16) -/

/-- The value that an evaluation of segment k gives its indication in this state (R16). -/
def State.splitEval (s : State) (k : Fin 30) : Bool :=
  splitAfter (s.link ⟨k.val, by omega⟩) (s.link ⟨k.val + 1, by omega⟩) (s.string.splits.get k)

/-- The state with these split indications. -/
def State.setSplits (v : Vector Bool 30) (s : State) : State :=
  { s with string := { s.string with splits := v } }

@[simp] theorem setSplits_string (v : Vector Bool 30) (s : State) :
    (s.setSplits v).string = { s.string with splits := v } := rfl

@[simp] theorem setSplits_link (v : Vector Bool 30) (s : State) (n : Node) :
    (s.setSplits v).link n = s.link n := rfl

@[simp] theorem setSplits_setSplits (v w : Vector Bool 30) (s : State) :
    (s.setSplits v).setSplits w = s.setSplits w := rfl

theorem vector_ext_get {α : Type} {n : Nat} {v w : Vector α n} (h : ∀ k, v.get k = w.get k) : v = w :=
  Vector.ext fun i hi => h ⟨i, hi⟩

theorem ofFn_of_get {n : Nat} {v : Vector Bool n} {f : Fin n → Bool} (h : ∀ k, f k = v.get k) :
    Vector.ofFn f = v := vector_ext_get fun k => (ofFn_get f k).trans (h k)

theorem setSplits_of_get {s : State} {f : Fin 30 → Bool} (h : ∀ k, f k = s.string.splits.get k) :
    s.setSplits (Vector.ofFn f) = s := by
  rw [ofFn_of_get h]
  rfl

theorem setSplit_eq_setSplits (k : Fin 30) (b : Bool) (s : State) :
    s.setSplit k b = s.setSplits (Vector.ofFn (fun j => if k = j then b else s.string.splits.get j)) := by
  rw [ofFn_of_get (v := s.string.splits.set k.val b k.isLt) fun j => (get_set _ k j b).symm]
  rfl

/-- The changes that evaluating these segments makes. -/
def State.evalChanges (l : List (Fin 30)) (s : State) : List (Fin 30 × Bool) :=
  (l.filter (fun k => decide (s.splitEval k ≠ s.string.splits.get k))).map (fun k => (k, s.splitEval k))

theorem evalSplit_eq (k : Fin 30) (c : Call) (s : State) : evalSplit k (c, s) =
    ({ c with splits := c.splits ++ s.evalChanges [k] },
      s.setSplits (Vector.ofFn (fun j => if k = j then s.splitEval k else s.string.splits.get j))) := by
  have hstep : evalSplit k (c, s) = if s.splitEval k = s.string.splits.get k then (c, s)
      else ({ c with splits := c.splits ++ [(k, s.splitEval k)] }, s.setSplit k (s.splitEval k)) := rfl
  by_cases h : s.splitEval k = s.string.splits.get k
  · have hstay : s.setSplits (Vector.ofFn (fun j => if k = j then s.splitEval k else s.string.splits.get j)) = s :=
      setSplits_of_get fun j => by
        split
        · subst_vars; exact h
        · rfl
    rw [hstep, if_pos h, hstay]
    simp [State.evalChanges, h]
  · rw [hstep, if_neg h, setSplit_eq_setSplits]
    simp [State.evalChanges, h]

/-- The evaluation of one segment does not move another's. -/
theorem splitEval_setSplits {s : State} {v : Vector Bool 30} {k : Fin 30} (h : v.get k = s.string.splits.get k) :
    (s.setSplits v).splitEval k = s.splitEval k := by
  simp [State.splitEval, h]

/-- Evaluating different segments one after the other evaluates each as it stands. -/
theorem foldl_evalSplit : ∀ (l : List (Fin 30)), l.Nodup → ∀ (c : Call) (s : State),
    l.foldl (fun x k => evalSplit k x) (c, s) = ({ c with splits := c.splits ++ s.evalChanges l },
      s.setSplits (Vector.ofFn (fun j => if j ∈ l then s.splitEval j else s.string.splits.get j)))
  | [], _, c, s => by
    rw [setSplits_of_get fun k => by simp]
    simp [State.evalChanges]
  | k :: l, hl, c, s => by
    obtain ⟨hk, hl⟩ := List.nodup_cons.1 hl
    generalize ht : s.setSplits (Vector.ofFn (fun j => if k = j then s.splitEval k else s.string.splits.get j)) = t
    have hget : ∀ j ∈ l, t.string.splits.get j = s.string.splits.get j := fun j hj => by
      have hne : k ≠ j := by rintro rfl; exact hk hj
      rw [← ht]
      exact (ofFn_get _ j).trans (if_neg hne)
    have heval : ∀ j ∈ l, t.splitEval j = s.splitEval j := fun j hj => by
      have hj := hget j hj
      rw [← ht] at hj ⊢
      exact splitEval_setSplits hj
    have hchanges : t.evalChanges l = s.evalChanges l := by
      unfold State.evalChanges
      rw [List.filter_congr (q := fun k => decide (s.splitEval k ≠ s.string.splits.get k)) fun j hj => by
        rw [heval j hj, hget j hj]]
      exact List.map_congr_left fun j hj => by rw [heval j (List.mem_filter.1 hj).1]
    have hcons : s.evalChanges (k :: l) = s.evalChanges [k] ++ s.evalChanges l := by
      rw [State.evalChanges, ← List.singleton_append, List.filter_append, List.map_append]
      rfl
    rw [List.foldl_cons, evalSplit_eq, ht, foldl_evalSplit l hl, hchanges, hcons, List.append_assoc, ← ht,
      setSplits_setSplits]
    congr 3
    funext j
    rw [ht]
    by_cases hj : j ∈ l
    · simp [hj, heval j hj]
    · by_cases hkj : k = j
      · subst hkj; simp [hk, ← ht]
      · simp [hj, hkj, Ne.symm hkj, ← ht]

/-- The segments on the two sides of a node, the lower first. -/
theorem segmentsOf_eq_filter : ∀ n : Node, segmentsOf n =
    (List.finRange 30).filter (fun k => decide (n.val = k.val ∨ n.val = k.val + 1)) := by decide

theorem mem_segmentsOf (n : Node) (k : Fin 30) : k ∈ segmentsOf n ↔ n.val = k.val ∨ n.val = k.val + 1 := by
  simp [segmentsOf_eq_filter]

theorem segmentsOf_nodup (n : Node) : (segmentsOf n).Nodup := by
  rw [segmentsOf_eq_filter]
  exact (List.nodup_finRange 30).filter _

/-- The state after an attempt that gives the end in use this reach: the splits beside the node follow where
the reach changes (R10, R16). -/
def State.reached (c : Call) (r : Reach) (s : State) : State :=
  (s.setLink c.node (fun l => l.setReach c.on r)).setSplits (Vector.ofFn (s.splitNext c r))

@[simp] theorem reached_split (c : Call) (r : Reach) (s : State) (k : Fin 30) :
    (s.reached c r).string.splits.get k = s.splitNext c r k := ofFn_get _ k

theorem reached_link (c : Call) (r : Reach) (s : State) (n : Node) : (s.reached c r).link n =
    if c.node = n then (s.link c.node).setReach c.on r else s.link n := by
  rw [State.reached, setSplits_link, setLink_link]

theorem splitNext_same {c : Call} {r : Reach} {s : State} (h : (s.link c.node).reach c.on = r) (k : Fin 30) :
    s.splitNext c r k = s.string.splits.get k := by
  simp [State.splitNext, h]

theorem splitNext_beside {c : Call} {r : Reach} {s : State} (h : (s.link c.node).reach c.on ≠ r) (k : Fin 30) :
    s.splitNext c r k = if k ∈ segmentsOf c.node then
        (s.setLink c.node (fun l => l.setReach c.on r)).splitEval k else s.string.splits.get k := by
  have hlink : ∀ n, (s.setLink c.node (fun l => l.setReach c.on r)).link n =
      if n = c.node then (s.link n).setReach c.on r else s.link n := fun n => by
    rw [setLink_link]
    by_cases hn : c.node = n
    · subst hn; simp
    · simp [hn, Ne.symm hn]
  unfold State.splitNext State.splitEval splitAfter
  simp only [h, ne_eq, not_false_eq_true, true_and, mem_segmentsOf, hlink, setLink_string, Bool.decide_and,
    Bool.and_assoc]

/-- An attempt that ends updates the reach of its end, and with it the splits and the changes that the call
notes (R10, R16). -/
theorem updateReach_eq (o : AttemptOutcome) (c : Call) (s : State) : updateReach o c s =
    ({ c with splits := c.splits ++ s.splitChanges c o.reach }, s.reached c o.reach) := by
  unfold updateReach
  dsimp only
  by_cases h : (s.link c.node).reach c.on = o.reach
  · have hsplits : s.splitChanges c o.reach = [] := by simp [State.splitChanges, splitNext_same h]
    have hstay : s.reached c o.reach = s.setLink c.node (fun l => l.setReach c.on o.reach) :=
      setSplits_of_get (s := s.setLink _ _) fun k => splitNext_same (s := s) h k
    rw [if_pos h, hsplits, List.append_nil, hstay]
  · generalize ht : s.setLink c.node (fun l => l.setReach c.on o.reach) = t
    have hget : t.string.splits = s.string.splits := by rw [← ht]; rfl
    have hnext : s.splitNext c o.reach = fun k =>
        if k ∈ segmentsOf c.node then t.splitEval k else t.string.splits.get k := funext fun k => by
      rw [splitNext_beside h, ht, hget]
    have hchanges : s.splitChanges c o.reach = t.evalChanges (segmentsOf c.node) := by
      unfold State.splitChanges State.evalChanges
      rw [segmentsOf_eq_filter, List.filter_filter, ← hget]
      simp only [hnext, mem_segmentsOf]
      refine (congrArg _ (List.filter_congr fun k _ => ?_)).trans (List.map_congr_left fun k hk => ?_)
      · by_cases hk : c.node.val = k.val ∨ c.node.val = k.val + 1 <;> simp [hk]
      · have hk := (List.mem_filter.1 hk).2
        simp only [Bool.and_eq_true, decide_eq_true_eq] at hk
        rw [if_pos hk.2]
    rw [if_neg h, foldl_evalSplit _ (segmentsOf_nodup c.node), hchanges, State.reached, ht, hnext]

/-! ### The end of an attempt (R8, R13) -/

/-- An attempt that did not end GOOD. -/
def AttemptOutcome.failed (o : AttemptOutcome) : Prop := ∀ a, o ≠ .good a

/-- The call with the changes of splits that its attempt made noted. -/
def Call.noting (c : Call) (r : Reach) (s : State) : Call :=
  { c with splits := c.splits ++ s.splitChanges c r }

theorem attemptEnd_cross {c : Call} {result : Option Answer} (h : c.crossOf = some result)
    (o : AttemptOutcome) (s : State) :
    attemptEnd o c s = crossEnd (c.noting o.reach s) o result (s.reached c o.reach) := by
  unfold attemptEnd
  rw [updateReach_eq]
  dsimp only
  split
  next r hr => cases h.symm.trans hr; rfl
  next hr => cases h.symm.trans hr

theorem attemptEnd_good {c : Call} (h : c.crossOf = none) (a : Answer) (s : State) :
    attemptEnd (.good a) c s = ordinaryEnd (c.noting .yes s) (some a) (s.reached c .yes) := by
  unfold attemptEnd
  rw [updateReach_eq]
  dsimp only
  split
  next r hr => cases h.symm.trans hr
  next => rfl

theorem attemptEnd_failed {c : Call} (h : c.crossOf = none) {o : AttemptOutcome} (ho : o.failed) (s : State) :
    attemptEnd o c s =
      if c.ended + 1 < 1 + c.retries then
        sendAttempt (if c.retryOther then otherEnd c.noted else c.noted)
          { c.noting o.reach s with ended := c.ended + 1 } (s.reached c o.reach)
      else ordinaryEnd { c.noting o.reach s with ended := c.ended + 1 } none (s.reached c o.reach) := by
  unfold attemptEnd
  rw [updateReach_eq]
  dsimp only
  split
  next r hr => cases h.symm.trans hr
  next =>
    cases o with
    | good a => exact absurd rfl (ho a)
    | silent => rfl
    | garbled => rfl
    | mismatch => rfl

/-! ### The end of a window (R3, R4, R6) -/

/-- How the running window ends the attempt, from where the attempt stands (R4, log 14). -/
def AttemptPhase.expired : AttemptPhase → AttemptOutcome
  | .quiet finding => finding.outcome
  | .answering [] => .silent
  | .answering (_ :: _) => .garbled

theorem expired_failed (p : AttemptPhase) : p.expired.failed := by
  intro a
  match p with
  | .quiet .garbled | .quiet .mismatch | .answering [] | .answering (_ :: _) => exact nofun

theorem expired_reach (p : AttemptPhase) : p.expired.reach = if p = .answering [] then .no else .yes := by
  match p with
  | .quiet .garbled | .quiet .mismatch | .answering [] | .answering (_ :: _) => rfl

theorem exec_window (s : State) : exec .answerWindowExpiry s = .next (finishEvent (windowEnd s)) := rfl

theorem windowEnd_free {s : State} (h : s.string.flight = none) : windowEnd s = s := by
  simp [windowEnd, h]

theorem windowEnd_broadcast {s : State} {e : QueueEntry} {ms : Nat}
    (h : s.string.flight = some (.broadcast e ms)) : windowEnd s = broadcastDone e s := by
  simp [windowEnd, h]

theorem windowEnd_call {s : State} {c : Call} (h : s.string.flight = some (.call c)) :
    windowEnd s = attemptEnd c.phase.expired c s := by
  simp only [windowEnd, h]
  match hp : c.phase with
  | .quiet _ | .answering [] | .answering (_ :: _) => rfl

theorem carries_freeString (s : State) : s.carries (freeString s) := by
  obtain ⟨q, f, l, h⟩ := carries_takeNext { s with string := { s.string with flight := none } }
  exact ⟨q, f, l, h⟩

theorem freeString_empty {s : State} (h : s.string.queue = []) : (freeString s).string.flight = none := by
  rw [freeString, takeNext_empty (s := { s with string := { s.string with flight := none } }) h]

theorem link_of_carries {s t : State} (h : s.carries t) (n : Node) : t.link n = s.link n := by
  obtain ⟨_, _, _, rfl⟩ := h
  rfl

theorem dock_of_carries {s t : State} (h : s.carries t) (d : Dock) : t.dock d = s.dock d := by
  obtain ⟨_, _, _, rfl⟩ := h
  rfl

/-- The state in which a broadcast that is done leaves the records (R6, R39). -/
theorem broadcastDone_eq (e : QueueEntry) (s : State) : broadcastDone e s =
    freeString (if e.verb = .lampShow then broadcastShown e.args s else s) := by
  unfold broadcastDone
  cases e.verb <;> rfl

theorem broadcastShown_dock (args : List Byte) (s : State) (d : Dock) : (broadcastShown args s).dock d =
    if args = [byte (s.dock d).lamp.code] then { s.dock d with lampShown := true } else s.dock d :=
  mapDocks_dock _ _ _

/-- What a broadcast that is done leaves (R6, R39). -/
theorem broadcastDone_leaves (e : QueueEntry) (s : State) :
    (broadcastDone e s).string.links = s.string.links ∧
    (broadcastDone e s).string.splits = s.string.splits ∧
    (∀ d, (broadcastDone e s).dock d = if e.verb = .lampShow ∧ e.args = [byte (s.dock d).lamp.code]
      then { s.dock d with lampShown := true } else s.dock d) ∧
    (s.string.queue = [] → (broadcastDone e s).string.flight = none) := by
  rw [broadcastDone_eq]
  by_cases hv : e.verb = .lampShow
  · obtain ⟨q, f, l, h⟩ := carries_freeString (broadcastShown e.args s)
    simp only [hv, if_true, true_and]
    refine ⟨by rw [h]; rfl, by rw [h]; rfl, fun d => ?_, fun hq => freeString_empty hq⟩
    rw [dock_of_carries ⟨q, f, l, h⟩, broadcastShown_dock]
  · obtain ⟨q, f, l, h⟩ := carries_freeString s
    simp only [hv, if_false, false_and]
    exact ⟨by rw [h], by rw [h], dock_of_carries ⟨q, f, l, h⟩, freeString_empty⟩

/-- Settles O41, by the cases of the flight; a call's attempt ends with `attemptEnd_failed`. -/
theorem windowRunsOut : Obligations.WindowRunsOut := by
  unfold Obligations.WindowRunsOut
  intro s
  simp only [exec_window]
  refine ⟨fun h => by rw [windowEnd_free h], fun e ms h => ?_, fun c h hcross hmore => ?_⟩
  · rw [windowEnd_broadcast h]
    exact ⟨_, rfl, broadcastDone_leaves e s⟩
  · rw [windowEnd_call h, attemptEnd_failed hcross (expired_failed _), if_pos hmore, expired_reach]
    exact ⟨_, _, rfl, rfl, rfl, reached_split c _ s, rfl, (reached_link c _ s c.node).trans (if_pos rfl),
      fun n hn => (reached_link c _ s n).trans (if_neg (Ne.symm hn)), rfl⟩

end Sys2Proof.Machine
end

section
/-! PROOFS. What the end of a call tells: the records of the conditions of R140, the lamp of the dock, and the
blocks that neither reaches (R17, R36, R39, R140). -/

namespace Sys2Proof.Machine

open Sys2Proof

/-! ### What telling a change writes -/

/-- Reports of a call were made: they write the string, the docks, the faults and the agenda alone. -/
def State.tells (s t : State) : Prop :=
  ∃ a b c d, t = { s with string := a, docks := b, faults := c, agenda := d }

theorem tells_refl (s : State) : s.tells s := ⟨_, _, _, _, rfl⟩

theorem tells_trans {s t u : State} (h : s.tells t) (h' : t.tells u) : s.tells u := by
  obtain ⟨a, b, c, d, rfl⟩ := h
  obtain ⟨a', b', c', d', rfl⟩ := h'
  exact ⟨a', b', c', d', rfl⟩

/-- A lamp was selected: requests and calls of the string, dock records and notes of the agenda. -/
def State.selects (s t : State) : Prop :=
  ∃ q f l d a, t =
    { s with string := { s.string with queue := q, flight := f, lastSent := l }, docks := d, agenda := a }

theorem selects_tells {s t : State} (h : s.selects t) : s.tells t := by
  obtain ⟨q, f, l, d, a, rfl⟩ := h
  exact ⟨_, _, _, _, rfl⟩

theorem selects_closed (s : State) : LampClosed s.selects where
  lampDock := by
    rintro d f t - ⟨q, g, l, b, a, rfl⟩
    exact ⟨_, _, _, _, _, rfl⟩
  show_ := by
    rintro d args t ⟨q, g, l, b, a, rfl⟩
    rw [enqueue_only, enqueue_string]
    exact ⟨_, _, _, _, _, rfl⟩
  takeNext := by
    rintro t ⟨q, g, l, b, a, rfl⟩
    obtain ⟨q', g', l', h⟩ := carries_takeNext
      { s with string := { s.string with queue := q, flight := g, lastSent := l }, docks := b, agenda := a }
    exact ⟨q', g', l', b, a, h⟩

theorem selectLamp_selects (d : Dock) (s : State) : s.selects (selectLamp d s) :=
  closed_selectLamp (selects_closed s) d s ⟨_, _, _, _, _, rfl⟩

/-! ### Reading the fault table (R134) -/

section

variable {s : State} {x : Subject} {k : FaultKind} {r : FaultRecord}

theorem fault_eq_of_key (h : s.faultsOk) {a b : FaultRecord} (ha : a ∈ s.faults.records)
    (hb : b ∈ s.faults.records) (hkey : a.subject = b.subject ∧ a.kind = b.kind) : a = b := by
  by_contra hne
  have hdiff : s.faults.records.Pairwise (fun a b => ¬(a.subject = b.subject ∧ a.kind = b.kind)) :=
    h.imp fun hab => hab.2
  have : Std.Symm (fun a b : FaultRecord => ¬(a.subject = b.subject ∧ a.kind = b.kind)) :=
    ⟨fun _ _ hab hba => hab ⟨hba.1.symm, hba.2.symm⟩⟩
  exact hdiff.forall ha hb hne hkey

theorem fault_eq_of_slot (h : s.faultsOk) {a b : FaultRecord} (ha : a ∈ s.faults.records)
    (hb : b ∈ s.faults.records) (hslot : a.slot = b.slot) : a = b := by
  by_contra hne
  have hdiff : s.faults.records.Pairwise (fun a b => a.slot ≠ b.slot) :=
    h.imp fun hab he => absurd (congrArg Fin.val he) hab.1.ne
  have : Std.Symm (fun a b : FaultRecord => a.slot ≠ b.slot) := ⟨fun _ _ => Ne.symm⟩
  exact hdiff.forall ha hb hne hslot

theorem mem_of_findFault (h : s.findFault x k = some r) :
    r ∈ s.faults.records ∧ r.subject = x ∧ r.kind = k := by
  have hp := List.find?_some h
  simp only [Bool.and_eq_true, decide_eq_true_eq] at hp
  exact ⟨List.mem_of_find?_eq_some h, hp⟩

/-- The record of a subject and a kind is the one that carries them. -/
theorem findFault_eq_some_iff (h : s.faultsOk) : s.findFault x k = some r ↔
    r ∈ s.faults.records ∧ r.subject = x ∧ r.kind = k := by
  refine ⟨mem_of_findFault, ?_⟩
  rintro ⟨hr, rfl, rfl⟩
  cases hfind : s.findFault r.subject r.kind with
  | none =>
    have hnone := List.find?_eq_none.1 hfind r hr
    simp at hnone
  | some a =>
    obtain ⟨ha, hkey⟩ := mem_of_findFault hfind
    rw [fault_eq_of_key h ha hr hkey]

theorem findFault_eq_none_iff : s.findFault x k = none ↔
    ∀ r ∈ s.faults.records, ¬(r.subject = x ∧ r.kind = k) := by
  simp [State.findFault]

/-- Two tables that hold the same records of a subject and a kind answer alike. -/
theorem findFault_congr {t : State} (hs : s.faultsOk) (ht : t.faultsOk)
    (h : ∀ r : FaultRecord, r.subject = x → r.kind = k → (r ∈ t.faults.records ↔ r ∈ s.faults.records)) :
    t.findFault x k = s.findFault x k := by
  refine Option.ext fun r => ?_
  rw [findFault_eq_some_iff ht, findFault_eq_some_iff hs]
  exact ⟨fun ⟨hr, hx, hk⟩ => ⟨(h r hx hk).1 hr, hx, hk⟩, fun ⟨hr, hx, hk⟩ => ⟨(h r hx hk).2 hr, hx, hk⟩⟩

theorem findFault_of_faults {t : State} (h : t.faults = s.faults) (x : Subject) (k : FaultKind) :
    t.findFault x k = s.findFault x k := by
  unfold State.findFault
  rw [h]

/-- With fewer than 32 records a slot is free (R134). -/
theorem freeFaultSlot_isSome (h : s.faults.records.length < 32) : s.freeFaultSlot.isSome = true := by
  by_contra hnone
  rw [Bool.not_eq_true, Option.isSome_eq_false_iff, Option.isNone_iff_eq_none, State.freeFaultSlot,
    List.find?_eq_none] at hnone
  have hall : ∀ i : Fin 32, i ∈ (s.faults.records.map FaultRecord.slot).toFinset := fun i => by
    simpa using hnone i (List.mem_finRange i)
  have hcard := (Finset.eq_univ_iff_forall.2 hall ▸ List.toFinset_card_le (s.faults.records.map FaultRecord.slot))
  rw [Finset.card_univ, Fintype.card_fin, List.length_map] at hcard
  omega

theorem freeFaultSlot_free {i : Fin 32} (h : s.freeFaultSlot = some i) : ∀ r ∈ s.faults.records, r.slot ≠ i := by
  have hp := List.find?_some h
  simpa using hp

/-- A new record takes a free slot and the next order (R134, R136). -/
theorem addFault_eq {i : Fin 32} (hi : s.freeFaultSlot = some i) (hnew : s.findFault r.subject r.kind = none) :
    s.addFault r = { s with faults := { s.faults with
      records := insertFault { r with slot := i, order := s.faults.nextOrder } s.faults.records,
      nextOrder := s.faults.nextOrder + 1 } } := by
  simp [State.addFault, hi, hnew]

theorem length_insertFault (e : FaultRecord) (l : List FaultRecord) :
    (insertFault e l).length = l.length + 1 := by
  induction l with
  | nil => rfl
  | cons y l ih => rw [insertFault]; split <;> simp [ih]

theorem coilFault_iff (s : State) (d : Dock) : s.coilFault d = true ↔ ∃ r ∈ s.faults.records,
    r.subject = .dock d ∧ r.state ≠ .suspect ∧ (r.kind = .coilOpen ∨ r.kind = .coilShort) := by
  simp [State.coilFault, and_assoc]

end

/-! ### Conditions (R140) -/

/-- The record of a condition follows it from `s` to `t`: it stays or is created ACTIVE where the condition
holds, and is none where it does not. -/
def recordFollows (x : Subject) (k : FaultKind) (holds : Bool) (s t : State) : Prop :=
  (holds = true →
    (∀ r, s.findFault x k = some r → t.findFault x k = some r) ∧
    (s.findFault x k = none → ∃ i o, t.findFault x k = some
      { slot := i, subject := x, kind := k, state := .active, count := 0, reporters := [],
        firstTime := s.clock.time, seen := false, order := o })) ∧
  (holds = false → t.findFault x k = none)

theorem recordFollows_isSome {x : Subject} {k : FaultKind} {holds : Bool} {s t : State}
    (h : recordFollows x k holds s t) : (t.findFault x k).isSome = holds := by
  obtain ⟨hset, hclear⟩ := h
  cases holds with
  | false => rw [hclear rfl]; rfl
  | true =>
    obtain ⟨hstay, hnew⟩ := hset rfl
    cases hs : s.findFault x k with
    | some r => rw [hstay r hs]; rfl
    | none =>
      obtain ⟨i, o, ht⟩ := hnew hs
      rw [ht]
      rfl

/-- The record depends on the table before, its clock and the table after alone. -/
theorem recordFollows_congr {x : Subject} {k : FaultKind} {holds : Bool} {s s' t t' : State}
    (hs : s'.findFault x k = s.findFault x k) (hclock : s'.clock = s.clock)
    (ht : t'.findFault x k = t.findFault x k) (h : recordFollows x k holds s t) :
    recordFollows x k holds s' t' := by
  unfold recordFollows at h ⊢
  rwa [hs, hclock, ht]

/-- A subject that a condition of the string has, and a kind: a node or a segment (R140). -/
structure LineCondition (x : Subject) (k : FaultKind) : Prop where
  noBike : ∀ b, x ≠ .bike b
  kind : k = .noContact ∨ k = .lineSplit

/-- Reports that change the fault table by one condition at most. -/
structure ConditionTold (x : Subject) (k : FaultKind) (s t : State) : Prop where
  tells : s.tells t
  ok : t.faultsOk
  size : t.faults.records.length ≤ s.faults.records.length + 1
  others : ∀ y j, ¬(y = x ∧ j = k) → t.findFault y j = s.findFault y j

section

variable {s : State} {x : Subject} {k : FaultKind}

theorem conditionTold_refl (hs : s.faultsOk) : ConditionTold x k s s :=
  ⟨tells_refl s, hs, Nat.le_succ _, fun _ _ _ => rfl⟩

/-- What telling writes after the table is written leaves the table. -/
theorem conditionTold_of_tells {t u : State} (h : ConditionTold x k s t) (htells : t.tells u)
    (hf : u.faults = t.faults) : ConditionTold x k s u where
  tells := tells_trans h.tells htells
  ok := by unfold State.faultsOk; rw [hf]; exact h.ok
  size := hf ▸ h.size
  others y j hne := (findFault_of_faults hf y j).trans (h.others y j hne)

/-- A change of a dock's record is told to the lamp and the manifest; other subjects' to nobody (R135). -/
theorem tellChange_tells (hx : ∀ b, x ≠ .bike b) (s : State) :
    s.tells (tellChange x none s) ∧ (tellChange x none s).faults = s.faults := by
  cases x with
  | dock d =>
    obtain ⟨q, f, l, b, a, h⟩ := selectLamp_selects d s
    have htell : tellChange (.dock d) none s = (selectLamp d s).noteManifest := rfl
    rw [htell, h]
    exact ⟨⟨_, _, _, _, rfl⟩, rfl⟩
  | bike b => exact absurd rfl (hx b)
  | segment _ => exact ⟨tells_refl s, rfl⟩
  | terminal => exact ⟨tells_refl s, rfl⟩

theorem activeEffects_condition (h : LineCondition x k) (s : State) : activeEffects x k s = s := by
  cases x with
  | dock d => rcases h.kind with rfl | rfl <;> rfl
  | bike b => exact absurd rfl (h.noBike b)
  | segment _ | terminal => rfl

/-- No dock gains a coil fault by a record of another kind. -/
theorem gainedCoil_condition (h : LineCondition x k) {r : FaultRecord} (hr : r.kind = k) (s : State) :
    gainedCoil s (s.addFault r) x = none := by
  cases x with
  | dock d =>
    have hcoil : (s.addFault r).coilFault d = true → s.coilFault d = true := by
      simp only [coilFault_iff]
      rintro ⟨a, ha, hsubject, hstate, hkind⟩
      refine ⟨a, ?_, hsubject, hstate, hkind⟩
      unfold State.addFault at ha
      repeat' split at ha
      · exact ha
      · rcases (mem_insertFault _ _ _).1 ha with rfl | ha
        · have hkind : r.kind = .coilOpen ∨ r.kind = .coilShort := hkind
          rw [hr] at hkind
          rcases h.kind with rfl | rfl <;> simp at hkind
        · exact ha
      · exact ha
    refine if_neg ?_
    rintro ⟨hbefore, hafter⟩
    rw [hcoil hafter] at hbefore
    cases hbefore
  | bike _ | segment _ | terminal => rfl

/-- A condition that holds and has no record raises one (R140). -/
theorem raise_told (h : LineCondition x k) (hs : s.faultsOk) (hroom : s.faults.records.length < 32)
    (hnone : s.findFault x k = none) :
    ConditionTold x k s (conditionFault x k true s) ∧ recordFollows x k true s (conditionFault x k true s) := by
  have hfree := freeFaultSlot_isSome hroom
  obtain ⟨i, hi⟩ := Option.isSome_iff_exists.1 hfree
  generalize hr : newFault s x k .active 0 [] = r
  have hadd := addFault_eq hi (r := r) (by rw [← hr]; exact hnone)
  have hraise : conditionFault x k true s = tellChange x none (s.addFault r) := by
    rw [← gainedCoil_condition h (r := r) (by rw [← hr]; rfl) s, ← hr]
    simp only [conditionFault, hnone, createActive, makeRoom, hfree, if_true, createActiveIn,
      activeEffects_condition h]
  generalize ht : s.addFault r = t at hraise hadd
  generalize hplaced : ({ r with slot := i, order := s.faults.nextOrder } : FaultRecord) = p at hadd
  have hkey : p.subject = x ∧ p.kind = k := by rw [← hplaced, ← hr]; exact ⟨rfl, rfl⟩
  have hmem : ∀ a, a ∈ t.faults.records ↔ a = p ∨ a ∈ s.faults.records := fun a => by
    rw [hadd]; exact mem_insertFault p a _
  have hok : t.faultsOk := by
    rw [hadd]
    refine insertFault_ok p _ hs (fun a ha => ?_) fun a ha hsame => ?_
    · rw [← hplaced]; exact freeFaultSlot_free hi a ha
    · rw [hkey.1, hkey.2] at hsame
      exact findFault_eq_none_iff.1 hnone a ha hsame
  have htold : ConditionTold x k s t := by
    refine ⟨?_, hok, ?_, fun y j hne => findFault_congr hs hok fun a ha hj => ?_⟩
    · rw [hadd]; exact ⟨_, _, _, _, rfl⟩
    · rw [hadd]; exact (length_insertFault p _).le
    · rw [hmem]
      refine or_iff_right ?_
      rintro rfl
      exact hne ⟨ha.symm.trans hkey.1, hj.symm.trans hkey.2⟩
  obtain ⟨htells, hfaults⟩ := tellChange_tells h.noBike t
  rw [hraise]
  refine ⟨conditionTold_of_tells htold htells hfaults,
    fun _ => ⟨fun a ha => ?_, fun _ => ⟨i, s.faults.nextOrder, ?_⟩⟩, nofun⟩
  · rw [hnone] at ha; cases ha
  · rw [findFault_of_faults hfaults, findFault_eq_some_iff hok, hmem]
    refine ⟨.inl ?_, rfl, rfl⟩
    rw [← hplaced, ← hr]
    rfl

theorem removeFault_condition {r : FaultRecord} (h : LineCondition r.subject r.kind) (s : State) :
    removeFault r s =
      tellChange r.subject none (s.filterFaults (fun a => decide (a.slot ≠ r.slot))) := by
  have hk : r.kind ≠ .buttonStuck := by
    rcases h.kind with hk | hk <;> rw [hk] <;> decide
  unfold removeFault
  cases r.subject with
  | dock d => simp only [hk, if_false]
  | bike _ | segment _ | terminal => rfl

/-- A condition that has gone retires its record (R136, R140). -/
theorem retire_told (h : LineCondition x k) (hs : s.faultsOk) {r : FaultRecord} (hr : s.findFault x k = some r) :
    ConditionTold x k s (conditionFault x k false s) ∧
      recordFollows x k false s (conditionFault x k false s) := by
  obtain ⟨hrmem, rfl, rfl⟩ := mem_of_findFault hr
  generalize ht : (s.setFaultFull false).filterFaults (fun a => decide (a.slot ≠ r.slot)) = t
  have hretire : conditionFault r.subject r.kind false s = tellChange r.subject none t := by
    rw [← ht, ← removeFault_condition h]
    simp only [conditionFault, hr]
    rfl
  have hmem : ∀ a, a ∈ t.faults.records ↔ a ∈ s.faults.records ∧ a.slot ≠ r.slot := fun a => by
    rw [← ht]
    simp
  have hok : t.faultsOk := by
    rw [← ht]
    exact hs.filter _
  have htold : ConditionTold r.subject r.kind s t := by
    refine ⟨?_, hok, ?_, fun y j hne => findFault_congr hs hok fun a ha hj => ?_⟩
    · rw [← ht]; exact ⟨_, _, _, _, rfl⟩
    · rw [← ht]; exact (List.length_filter_le _ _).trans (Nat.le_succ _)
    · rw [hmem]
      refine and_iff_left_of_imp fun hmem hslot => hne ?_
      rw [← fault_eq_of_slot hs hmem hrmem hslot]
      exact ⟨ha.symm, hj.symm⟩
  obtain ⟨htells, hfaults⟩ := tellChange_tells h.noBike t
  rw [hretire]
  refine ⟨conditionTold_of_tells htold htells hfaults, nofun, fun _ => ?_⟩
  rw [findFault_of_faults hfaults, findFault_eq_none_iff]
  intro a ha hkey
  obtain ⟨ha, hslot⟩ := (hmem a).1 ha
  exact hslot (congrArg FaultRecord.slot (fault_eq_of_key hs ha hrmem hkey))

/-- A condition of the string is told, with a slot free for it: its record follows it, and no other record
changes (R140). -/
theorem conditionFault_told (h : LineCondition x k) (holds : Bool) (hs : s.faultsOk)
    (hroom : s.faults.records.length < 32) :
    ConditionTold x k s (conditionFault x k holds s) ∧
      recordFollows x k holds s (conditionFault x k holds s) := by
  cases hfind : s.findFault x k with
  | none =>
    cases holds with
    | true => exact raise_told h hs hroom hfind
    | false =>
      have hstay : conditionFault x k false s = s := by simp only [conditionFault, hfind]
      rw [hstay]
      exact ⟨conditionTold_refl hs, nofun, fun _ => hfind⟩
  | some r =>
    cases holds with
    | true =>
      have hstay : conditionFault x k true s = s := by simp only [conditionFault, hfind]
      rw [hstay]
      refine ⟨conditionTold_refl hs, fun _ => ⟨fun _ => id, fun hnone => ?_⟩, nofun⟩
      rw [hfind] at hnone
      cases hnone
    | false => exact retire_told h hs hfind

end

/-! ### The split reports of a call (R17, step 5) -/

/-- Each change of a split indication of the call is told, in order. -/
def reportSplits (l : List (Fin 30 × Bool)) (s : State) : State :=
  l.foldl (fun s x => conditionFault (.segment x.1) .lineSplit x.2 s) s

theorem segment_condition (k : Fin 30) : LineCondition (.segment k) .lineSplit := ⟨nofun, .inr rfl⟩

theorem reportSplits_append (l m : List (Fin 30 × Bool)) (s : State) :
    reportSplits (l ++ m) s = reportSplits m (reportSplits l s) := List.foldl_append

/-- Reports that change the fault table in the LINE_SPLIT records of these changes at most. -/
structure SplitsTold (l : List (Fin 30 × Bool)) (s t : State) : Prop where
  tells : s.tells t
  ok : t.faultsOk
  size : t.faults.records.length ≤ s.faults.records.length + l.length
  others : ∀ y j, (∀ x ∈ l, ¬(y = .segment x.1 ∧ j = .lineSplit)) → t.findFault y j = s.findFault y j

theorem reportSplits_told : ∀ (l : List (Fin 30 × Bool)) {s : State}, s.faultsOk →
    s.faults.records.length + l.length ≤ 32 → SplitsTold l s (reportSplits l s)
  | [], s, hs, _ => ⟨tells_refl s, hs, le_rfl, fun _ _ _ => rfl⟩
  | x :: l, s, hs, hroom => by
    rw [List.length_cons] at hroom
    have hx := (conditionFault_told (segment_condition x.1) x.2 hs (by omega)).1
    have hl := reportSplits_told l hx.ok (by have := hx.size; omega)
    refine ⟨tells_trans hx.tells hl.tells, hl.ok, ?_, fun y j hne => ?_⟩
    · have hsize := hx.size
      have hsizes := hl.size
      rw [List.length_cons]
      exact hsizes.trans (by omega)
    · obtain ⟨hnex, hnel⟩ := List.forall_mem_cons.1 hne
      exact (hl.others y j hnel).trans (hx.others y j hnex)

section

variable {l pre post : List (Fin 30 × Bool)} {s : State} {k : Fin 30} {b : Bool}

/-- The last change of a segment has its LINE_SPLIT record follow it, from the record as the changes before it
left it. -/
theorem reportSplits_last (hs : s.faultsOk) (hroom : s.faults.records.length + l.length ≤ 32)
    (hl : l = pre ++ (k, b) :: post) (hpost : ∀ x ∈ post, x.1 ≠ k) :
    recordFollows (.segment k) .lineSplit b (reportSplits pre s) (reportSplits l s) := by
  subst hl
  rw [List.length_append, List.length_cons] at hroom
  have hpre := reportSplits_told pre hs (by omega)
  have hsize := hpre.size
  obtain ⟨hone, hfollow⟩ := conditionFault_told (segment_condition k) b hpre.ok (by omega)
  have hsizes := hone.size
  have hrest := reportSplits_told post hone.ok (by omega)
  rw [reportSplits_append]
  refine recordFollows_congr rfl rfl (hrest.others _ _ fun x hx hsame => ?_) hfollow
  exact hpost x hx (Subject.segment.inj hsame.1).symm

/-- A segment that changes once has its LINE_SPLIT record follow from the record at the start. -/
theorem reportSplits_once (hs : s.faultsOk) (hroom : s.faults.records.length + l.length ≤ 32)
    (hl : l = pre ++ (k, b) :: post) (hpre : ∀ x ∈ pre, x.1 ≠ k) (hpost : ∀ x ∈ post, x.1 ≠ k) :
    recordFollows (.segment k) .lineSplit b s (reportSplits l s) := by
  have hlen : pre.length ≤ l.length := by rw [hl, List.length_append]; omega
  have hbefore := reportSplits_told pre hs (by omega)
  obtain ⟨_, _, _, _, htells⟩ := hbefore.tells
  refine recordFollows_congr (hbefore.others _ _ fun x hx hsame => ?_).symm (by rw [htells]) rfl
    (reportSplits_last hs hroom hl hpost)
  exact hpre x hx (Subject.segment.inj hsame.1).symm

/-- A segment that does not change keeps its LINE_SPLIT record. -/
theorem reportSplits_never (hs : s.faultsOk) (hroom : s.faults.records.length + l.length ≤ 32)
    (hl : ∀ x ∈ l, x.1 ≠ k) : (reportSplits l s).findFault (.segment k) .lineSplit =
      s.findFault (.segment k) .lineSplit :=
  (reportSplits_told l hs hroom).others _ _ fun x hx hsame => hl x hx (Subject.segment.inj hsame.1).symm

end

/-! ### Lamps (R38, R39) -/

/-- A dock record but for its lamp. -/
def DockRecord.dark (r : DockRecord) : DockRecord := { r with lamp := .off, lampShown := false }

theorem notShown_dock_cases (t : Target) (s : State) (d : Dock) :
    (notShown t s).dock d = s.dock d ∨ (notShown t s).dock d = { s.dock d with lampShown := false } := by
  unfold notShown
  repeat' split
  · exact .inr (mapDocks_dock _ _ _)
  · rw [setDock_dock]
    split
    · subst_vars; exact .inr rfl
    · exact .inl rfl
  · exact .inl rfl

/-- Of a dock record, placing a request changes at most that its lamp is known to be shown (R20). -/
theorem enqueue_dock_cases (r : QueueEntry) (s : State) (d : Dock) :
    (enqueue r s).dock d = s.dock d ∨ (enqueue r s).dock d = { s.dock d with lampShown := false } := by
  unfold enqueue
  dsimp only
  repeat' split
  · exact .inl rfl
  · exact .inl rfl
  · exact .inl rfl
  · exact notShown_dock_cases _ s d
  · rw [dock_of_docks (setQueue_docks _ _)]; exact notShown_dock_cases _ s d
  · exact .inl rfl
  · exact .inl rfl

theorem place_lamp (r : QueueEntry) (s : State) (d : Dock) : ((place r s).dock d).lamp = (s.dock d).lamp := by
  rw [place, dock_of_docks (takeNext_docks _)]
  rcases enqueue_dock_cases r s d with h | h <;> rw [h]

theorem place_dark (r : QueueEntry) (s : State) (d : Dock) : ((place r s).dock d).dark = (s.dock d).dark := by
  rw [place, dock_of_docks (takeNext_docks _)]
  rcases enqueue_dock_cases r s d with h | h <;> rw [h]
  rfl

/-- The selected lamp of a dock depends on its record without the lamp, its contact state, the refers, the
settings and the faults (R37, R38). -/
theorem lampFor_congr {s t : State} {d : Dock} (hdock : (t.dock d).dark = (s.dock d).dark)
    (hcontact : t.contact d = s.contact d) (hrefers : t.refers = s.refers) (hsettings : t.settings = s.settings)
    (hfaults : t.faults = s.faults) : t.lampFor d = s.lampFor d := by
  unfold State.lampFor State.hireable State.closed State.dockFaultActive State.dockFaulty dockFaultIn
    State.bikeFaultActive
  generalize t.dock d = a, s.dock d = b at hdock
  obtain ⟨⟩ := a
  obtain ⟨⟩ := b
  simp only [DockRecord.dark, DockRecord.mk.injEq] at hdock
  obtain ⟨rfl, rfl, rfl, rfl, -, -, -, rfl, -, -, rfl, -⟩ := hdock
  rw [hcontact, hrefers, hsettings, hfaults]

/-- The first half of a selection: the record takes the lamp of R38, not yet known to be shown where it is
another than before. -/
def State.relit (d : Dock) (s : State) : State :=
  if s.lampFor d = (s.dock d).lamp then s
  else s.setDock d (fun r => { r with lamp := s.lampFor d, lampShown := false })

theorem selectLamp_eq (d : Dock) (s : State) : selectLamp d s =
    if ((s.relit d).dock d).lampShown = false ∧ (s.relit d).contact d ≠ .lost then
      placeDock d .lampShow [byte (s.lampFor d).code] .dockMonitor (s.relit d)
    else s.relit d := rfl

theorem relit_lamp (d : Dock) (s : State) : ((s.relit d).dock d).lamp = s.lampFor d := by
  unfold State.relit
  split
  · exact Eq.symm ‹_›
  · rw [setDock_dock, if_pos rfl]

theorem relit_dark (d e : Dock) (s : State) : ((s.relit d).dock e).dark = (s.dock e).dark := by
  unfold State.relit
  split
  · rfl
  · rw [setDock_dock]
    split
    · subst_vars; rfl
    · rfl

theorem selectLamp_lamp (d : Dock) (s : State) : ((selectLamp d s).dock d).lamp = s.lampFor d := by
  rw [selectLamp_eq]
  split
  · exact (place_lamp _ _ d).trans (relit_lamp d s)
  · exact relit_lamp d s

theorem selectLamp_dark (d e : Dock) (s : State) : ((selectLamp d s).dock e).dark = (s.dock e).dark := by
  rw [selectLamp_eq]
  split
  · exact (place_dark _ _ e).trans (relit_dark d e s)
  · exact relit_dark d e s

/-- A selection leaves the dock with the lamp that R38 gives it. -/
theorem selectLamp_selected (d : Dock) (s : State) :
    ((selectLamp d s).dock d).lamp = (selectLamp d s).lampFor d := by
  rw [selectLamp_lamp]
  obtain ⟨q, f, l, b, a, h⟩ := selectLamp_selects d s
  exact (lampFor_congr (selectLamp_dark d d s) (by rw [h]; rfl) (by rw [h]) (by rw [h]) (by rw [h])).symm

end Sys2Proof.Machine
end

section
/-! PROOFS. The end of a call: the link record, the cross attempt, and what is told before the outcome is
handed over (R8 to R17). -/

namespace Sys2Proof.Machine

open Sys2Proof

/-! ### What the other blocks leave of the string -/

/-- Outside the String Controller a link record changes in its fault button mask alone. -/
theorem linkField_closed {α : Type} (n : Node) (f : LinkRecord → α)
    (hf : ∀ l b, f { l with buttonMask := b } = f l) (x : α) : Closed (fun t => f (t.link n) = x) := by
  constructor
  · constructor
    · constructor
      · intros; simpa [State.link] using ‹_›
      · intro d a s h; rw [link_of_links (enqueue_links _ _)]; exact h
      · intro s h; rw [link_of_links (takeNext_links _)]; exact h
    · intro r s h; rw [link_of_links (enqueue_links _ _)]; exact h
    · intro m b s h
      rw [setLink_link]
      split
      · subst_vars; exact hf _ _
      · exact h
    all_goals (intros; simpa [State.link, State.filterTrips] using ‹_›)
  all_goals (intros; simpa [State.link] using ‹_›)

theorem takeNext_splits (s : State) : (takeNext s).string.splits = s.string.splits := by
  obtain ⟨_, _, _, h⟩ := carries_takeNext s
  rw [h]

/-- Outside the String Controller the split indications stay. -/
theorem splits_closed (v : Vector Bool 30) : Closed (fun t => t.string.splits = v) := by
  constructor
  · constructor
    · constructor
      · intros; simpa using ‹_›
      · intro d a s h; rw [enqueue_splits]; exact h
      · intro s h; rw [takeNext_splits]; exact h
    · intro r s h; rw [enqueue_splits]; exact h
    all_goals (intros; simpa [State.filterTrips] using ‹_›)
  all_goals (intros; simpa using ‹_›)

/-- While a call is in flight the work of other blocks takes no other. -/
theorem flight_closed (f : Flight) : Closed (fun t => t.string.flight = some f) := by
  constructor
  · constructor
    · constructor
      · intros; simpa using ‹_›
      · intro d a s h; rw [enqueue_flight]; exact h
      · intro s h; rw [takeNext_in_use (by rw [h]; rfl)]; exact h
    · intro r s h; rw [enqueue_flight]; exact h
    all_goals (intros; simpa [State.filterTrips] using ‹_›)
  all_goals (intros; simpa using ‹_›)

/-! ### The reports of a call (R17, step 5) -/

/-- A node that has become LOST, or has left LOST, since the call was taken (R140). -/
def reportContact (c : Call) (s : State) : State :=
  if (s.link c.node).contact = .lost ∧ c.contactAtTake ≠ .lost then
    conditionFault (nodeSubject c.node) .noContact true s
  else if (s.link c.node).contact ≠ .lost ∧ c.contactAtTake = .lost then
    conditionFault (nodeSubject c.node) .noContact false s
  else s

/-- The dock of a node whose contact state has become `next` (R36, R39, R162). -/
def reportDockContact (c : Call) (next : Contact) (s : State) : State :=
  match nodeDock c.node with
  | some d =>
    if next = c.contactAtTake then s
    else tellContact (selectLamp d
      (if next = .lost then s.setDock d (fun r => { r with resyncDue := true }) else s))
  | none => s

theorem sendReports_eq (c : Call) (s : State) : sendReports c s =
    reportDockContact c (s.link c.node).contact (reportSplits c.splits (reportContact c s)) := rfl

theorem nodeSubject_condition (n : Node) : LineCondition (nodeSubject n) .noContact := by
  refine ⟨fun b => ?_, .inl rfl⟩
  unfold nodeSubject
  split <;> exact nofun

/-- A node that is LOST as it was at the take, or not LOST as at the take, is told of nothing. -/
theorem reportContact_same {c : Call} {s : State}
    (h : (s.link c.node).contact = .lost ↔ c.contactAtTake = .lost) : reportContact c s = s := by
  rw [reportContact, if_neg (by tauto), if_neg (by tauto)]

theorem reportContact_changed {c : Call} {s : State}
    (h : ¬((s.link c.node).contact = .lost ↔ c.contactAtTake = .lost)) : reportContact c s =
      conditionFault (nodeSubject c.node) .noContact (decide ((s.link c.node).contact = .lost)) s := by
  by_cases hlost : (s.link c.node).contact = .lost
  · rw [reportContact, if_pos ⟨hlost, by tauto⟩, decide_eq_true hlost]
  · rw [reportContact, if_neg (by tauto), if_pos ⟨hlost, by tauto⟩, decide_eq_false hlost]

theorem reportContact_told {c : Call} {s : State} (hs : s.faultsOk) (hroom : s.faults.records.length < 32) :
    ConditionTold (nodeSubject c.node) .noContact s (reportContact c s) := by
  by_cases h : (s.link c.node).contact = .lost ↔ c.contactAtTake = .lost
  · rw [reportContact_same h]
    exact conditionTold_refl hs
  · rw [reportContact_changed h]
    exact (conditionFault_told (nodeSubject_condition c.node) _ hs hroom).1

theorem closed_reportContact {P : State → Prop} (h : CalmClosed P) (c : Call) (s : State) (hs : P s) :
    P (reportContact c s) := by
  unfold reportContact
  split
  · exact closed_conditionFault h _ _ _ _ hs
  · split
    · exact closed_conditionFault h _ _ _ _ hs
    · exact hs

theorem closed_reportSplits {P : State → Prop} (h : CalmClosed P) (l : List (Fin 30 × Bool)) (s : State)
    (hs : P s) : P (reportSplits l s) :=
  closed_foldl (fun s _ hs => closed_conditionFault h _ _ _ s hs) l s hs

theorem closed_reports {P : State → Prop} (h : Closed P) (c : Call) (s : State) (hs : P s) :
    P (sendReports c s) := by
  rw [sendReports_eq]
  have hsplits := closed_reportSplits h.toCalmClosed c.splits _ (closed_reportContact h.toCalmClosed c s hs)
  unfold reportDockContact
  split
  · split
    · exact hsplits
    · refine closed_tellContact h.toCalmClosed _ (closed_selectLamp h.toLampClosed _ _ ?_)
      split
      · exact h.setDock _ _ _ hsplits
      · exact hsplits
  · exact hsplits

/-- Telling the dock leaves the fault table and everything but string, docks and agenda. -/
theorem reportDockContact_tells (c : Call) (next : Contact) (s : State) :
    s.tells (reportDockContact c next s) ∧ (reportDockContact c next s).faults = s.faults := by
  unfold reportDockContact
  split
  · split
    · exact ⟨tells_refl s, rfl⟩
    · rename_i d _ _
      obtain ⟨q, f, l, b, a, h⟩ := selectLamp_selects d
        (if next = .lost then s.setDock d (fun r => { r with resyncDue := true }) else s)
      rw [h]
      split <;> exact ⟨⟨_, _, _, _, rfl⟩, rfl⟩
  · exact ⟨tells_refl s, rfl⟩

/-- A dock whose contact state changes has its lamp selected and a retry pass of the manifest due. -/
theorem reportDockContact_selected {c : Call} {next : Contact} {d : Dock} (hd : nodeDock c.node = some d)
    (hne : next ≠ c.contactAtTake) (s : State) : (reportDockContact c next s).agenda.manifest = true ∧
      ((reportDockContact c next s).dock d).lamp = (reportDockContact c next s).lampFor d := by
  simp only [reportDockContact, hd, hne, if_false]
  exact ⟨rfl, selectLamp_selected d _⟩

/-- A dock whose node becomes LOST is to be resynchronized (R36). -/
theorem reportDockContact_resync {c : Call} {next : Contact} {d : Dock} (hd : nodeDock c.node = some d)
    (s : State) : ((reportDockContact c next s).dock d).resyncDue =
      ((s.dock d).resyncDue || decide (next = .lost ∧ c.contactAtTake ≠ .lost)) := by
  simp only [reportDockContact, hd]
  by_cases hne : next = c.contactAtTake
  · rw [if_pos hne, ← hne]
    simp
  · have hdark : ∀ t : State, ((tellContact (selectLamp d t)).dock d).resyncDue = (t.dock d).resyncDue :=
      fun t => (congrArg DockRecord.resyncDue (selectLamp_dark d d t) :)
    rw [if_neg hne, hdark]
    by_cases hlost : next = .lost
    · subst hlost
      simp [Ne.symm hne]
    · simp [hlost]

/-! ### Handing the outcome over (R14, R15, R17) -/

/-- The held button is handed over with a GOOD outcome of a dock (R14). -/
def releaseButton (c : Call) (result : Option Answer) (s : State) : State :=
  if result.isSome = true ∧ (nodeDock c.node).isSome = true then
    s.setLink c.node (fun l => { l with heldButton := false })
  else s

theorem handOn_eq (c : Call) (result : Option Answer) (s : State) : ∃ answer mark,
    handOn c result s = handOutcome c.node c.entry answer mark (releaseButton c result s) := by
  unfold handOn releaseButton
  cases result with
  | none => exact ⟨_, _, rfl⟩
  | some a =>
    cases hd : nodeDock c.node with
    | none => exact ⟨_, _, rfl⟩
    | some d => exact ⟨_, _, rfl⟩

/-- A call ends with its reports, the handing over of its outcome, and the next call. -/
theorem completeCall_eq (c : Call) (result : Option Answer) (s : State) : ∃ answer mark,
    completeCall c result s = freeString (handOutcome c.node c.entry answer mark
      (releaseButton c result (sendReports c s))) := by
  obtain ⟨answer, mark, h⟩ := handOn_eq c result (sendReports c s)
  exact ⟨answer, mark, congrArg freeString h⟩

/-- The part of a link record that only the String Controller writes while a call ends. -/
def LinkRecord.core (l : LinkRecord) : LinkRecord := { l with buttonMask := false, heldButton := false }

theorem releaseButton_core (c : Call) (result : Option Answer) (s : State) (n : Node) :
    ((releaseButton c result s).link n).core = (s.link n).core := by
  unfold releaseButton
  split
  · rw [setLink_link]
    split
    · subst_vars; rfl
    · rfl
  · rfl

theorem sendReports_core (c : Call) (s : State) (n : Node) :
    ((sendReports c s).link n).core = (s.link n).core :=
  closed_reports (linkField_closed n LinkRecord.core (fun _ _ => rfl) (s.link n).core) c s rfl

theorem sendReports_splits (c : Call) (s : State) : (sendReports c s).string.splits = s.string.splits :=
  closed_reports (splits_closed s.string.splits) c s rfl

theorem releaseButton_splits (c : Call) (result : Option Answer) (s : State) :
    (releaseButton c result s).string.splits = s.string.splits := by
  unfold releaseButton
  split <;> rfl

/-- The end of a call leaves each link record but for the held button and the fault button mask. -/
theorem completeCall_core (c : Call) (result : Option Answer) (s : State) (n : Node) :
    ((completeCall c result s).link n).core = (s.link n).core := by
  obtain ⟨answer, mark, h⟩ := completeCall_eq c result s
  rw [h, link_of_carries (carries_freeString _),
    closed_handOutcome (linkField_closed n LinkRecord.core (fun _ _ => rfl) _) _ _ _ _ _ rfl, releaseButton_core,
    sendReports_core]

theorem completeCall_splits (c : Call) (result : Option Answer) (s : State) :
    (completeCall c result s).string.splits = s.string.splits := by
  obtain ⟨answer, mark, h⟩ := completeCall_eq c result s
  obtain ⟨_, _, _, hcarry⟩ := carries_freeString (handOutcome c.node c.entry answer mark
    (releaseButton c result (sendReports c s)))
  rw [h, hcarry]
  exact (closed_handOutcome (splits_closed _) _ _ _ _ _ rfl).trans
    ((releaseButton_splits c result _).trans (sendReports_splits c s))

theorem sendReports_heldButton (c : Call) (s : State) (n : Node) :
    ((sendReports c s).link n).heldButton = (s.link n).heldButton :=
  closed_reports (linkField_closed n LinkRecord.heldButton (fun _ _ => rfl) _) c s rfl

/-- The held button of a dock goes with a GOOD outcome, and stays with a failure (R14). -/
theorem completeCall_heldButton {c : Call} {d : Dock} (hd : nodeDock c.node = some d) (result : Option Answer)
    (s : State) : ((completeCall c result s).link c.node).heldButton =
      (result.isNone && (s.link c.node).heldButton) := by
  obtain ⟨answer, mark, h⟩ := completeCall_eq c result s
  rw [h, link_of_carries (carries_freeString _),
    closed_handOutcome (linkField_closed c.node LinkRecord.heldButton (fun _ _ => rfl) _) _ _ _ _ _ rfl]
  unfold releaseButton
  cases result with
  | none => simpa using sendReports_heldButton c s c.node
  | some a => simp [hd]

/-- Settings, clock, supply, banks and port stay through the end of a call. -/
theorem completeCall_outside (c : Call) (result : Option Answer) (s : State) :
    (completeCall c result s).settings = s.settings ∧ (completeCall c result s).clock = s.clock ∧
    (completeCall c result s).supply = s.supply ∧ (completeCall c result s).fare = s.fare ∧
    (completeCall c result s).port = s.port := by
  obtain ⟨h1, h2, h3, h4, h5, -⟩ :=
    closed_completeCall (outside_closed s) c result s ⟨rfl, rfl, rfl, rfl, rfl, rfl, rfl⟩
  exact ⟨h1, h2, h3, h4, h5⟩

end Sys2Proof.Machine
end

section
/-! PROOFS. Calls that end: GOOD, failed, and with a cross attempt (R8 to R17, R140). -/

namespace Sys2Proof.Machine

open Sys2Proof

/-! ### The records after the reports of a call (R140) -/

/-- The state after the contact and the splits of a call have been told. -/
def reported (c : Call) (s : State) : State := reportSplits c.splits (reportContact c s)

section

variable {s : State} {c : Call}

theorem sendReports_reported (c : Call) (s : State) :
    sendReports c s = reportDockContact c (s.link c.node).contact (reported c s) := sendReports_eq c s

/-- Slots are free for the contact and for every change of a split. -/
structure RoomToReport (c : Call) (s : State) : Prop where
  ok : s.faultsOk
  room : s.faults.records.length + c.splits.length < 32

theorem reported_told (h : RoomToReport c s) :
    ConditionTold (nodeSubject c.node) .noContact s (reportContact c s) ∧
    (reportContact c s).faults.records.length + c.splits.length ≤ 32 ∧
    SplitsTold c.splits (reportContact c s) (reported c s) := by
  have hroom := h.room
  have hcontact := reportContact_told (c := c) h.ok (by omega)
  have hsize := hcontact.size
  exact ⟨hcontact, by omega, reportSplits_told c.splits hcontact.ok (by omega)⟩

theorem reported_tells (h : RoomToReport c s) : s.tells (reported c s) := by
  obtain ⟨hcontact, -, hsplits⟩ := reported_told h
  exact tells_trans hcontact.tells hsplits.tells

theorem reported_noContact (h : RoomToReport c s) :
    (reported c s).findFault (nodeSubject c.node) .noContact =
      (reportContact c s).findFault (nodeSubject c.node) .noContact := by
  obtain ⟨-, -, hsplits⟩ := reported_told h
  exact hsplits.others _ _ fun _ _ hsame => absurd hsame.2 (by decide)

theorem reported_noContact_same (h : RoomToReport c s)
    (hsame : (s.link c.node).contact = .lost ↔ c.contactAtTake = .lost) :
    (reported c s).findFault (nodeSubject c.node) .noContact = s.findFault (nodeSubject c.node) .noContact := by
  rw [reported_noContact h, reportContact_same hsame]

theorem reported_noContact_changed (h : RoomToReport c s)
    (hne : ¬((s.link c.node).contact = .lost ↔ c.contactAtTake = .lost)) :
    recordFollows (nodeSubject c.node) .noContact (decide ((s.link c.node).contact = .lost)) s (reported c s) := by
  have hroom := h.room
  have hfollow := (conditionFault_told (nodeSubject_condition c.node) (decide ((s.link c.node).contact = .lost))
    h.ok (by omega)).2
  rw [← reportContact_changed hne] at hfollow
  exact recordFollows_congr rfl rfl (reported_noContact h) hfollow

variable {k : Fin 30} {b : Bool} {pre post : List (Fin 30 × Bool)}

theorem reportContact_split (h : RoomToReport c s) :
    (reportContact c s).findFault (.segment k) .lineSplit = s.findFault (.segment k) .lineSplit := by
  obtain ⟨hcontact, -⟩ := reported_told h
  exact hcontact.others _ _ fun hsame => absurd hsame.2 (by decide)

theorem reported_split_never (h : RoomToReport c s) (hl : ∀ x ∈ c.splits, x.1 ≠ k) :
    (reported c s).findFault (.segment k) .lineSplit = s.findFault (.segment k) .lineSplit := by
  obtain ⟨hcontact, hroom, -⟩ := reported_told h
  exact (reportSplits_never hcontact.ok hroom hl).trans (reportContact_split h)

theorem reported_split_last (h : RoomToReport c s) (hl : c.splits = pre ++ (k, b) :: post)
    (hpost : ∀ x ∈ post, x.1 ≠ k) : ((reported c s).findFault (.segment k) .lineSplit).isSome = b := by
  obtain ⟨hcontact, hroom, -⟩ := reported_told h
  exact recordFollows_isSome (reportSplits_last hcontact.ok hroom hl hpost)

theorem reported_split_once (h : RoomToReport c s) (hl : c.splits = pre ++ (k, b) :: post)
    (hpre : ∀ x ∈ pre, x.1 ≠ k) (hpost : ∀ x ∈ post, x.1 ≠ k) :
    recordFollows (.segment k) .lineSplit b s (reported c s) := by
  obtain ⟨hcontact, hroom, -⟩ := reported_told h
  obtain ⟨_, _, _, _, htells⟩ := hcontact.tells
  exact recordFollows_congr (reportContact_split h).symm (by rw [htells]) rfl
    (reportSplits_once hcontact.ok hroom hl hpre hpost)

end

/-! ### The changes of splits of one attempt (R16) -/

section

variable {s : State} {c : Call} {r : Reach} {k : Fin 30}

theorem not_mem_splitChanges (h : s.splitNext c r k = s.string.splits.get k) :
    ∀ x ∈ s.splitChanges c r, x.1 ≠ k := by
  intro x hx
  obtain ⟨j, hj, rfl⟩ := List.mem_map.1 hx
  have hchanged := of_decide_eq_true (List.mem_filter.1 hj).2
  rintro rfl
  exact hchanged h

/-- A segment whose indication changes is noted once. -/
theorem splitChanges_split (h : s.splitNext c r k ≠ s.string.splits.get k) : ∃ pre post,
    s.splitChanges c r = pre ++ (k, s.splitNext c r k) :: post ∧
    (∀ x ∈ pre, x.1 ≠ k) ∧ (∀ x ∈ post, x.1 ≠ k) := by
  have hmem : k ∈ (List.finRange 30).filter (fun k => decide (s.splitNext c r k ≠ s.string.splits.get k)) :=
    List.mem_filter.2 ⟨List.mem_finRange k, decide_eq_true h⟩
  have hnodup := (List.nodup_finRange 30).filter (fun k => decide (s.splitNext c r k ≠ s.string.splits.get k))
  obtain ⟨pre, post, hsplit⟩ := List.append_of_mem hmem
  rw [hsplit] at hnodup
  have hfresh := (List.nodup_middle.1 hnodup)
  obtain ⟨hfresh, -⟩ := List.nodup_cons.1 hfresh
  have hmap : ∀ l : List (Fin 30), k ∉ l → ∀ x ∈ l.map (fun k => (k, s.splitNext c r k)), x.1 ≠ k := by
    intro l hl x hx
    obtain ⟨j, hj, rfl⟩ := List.mem_map.1 hx
    rintro rfl
    exact hl hj
  refine ⟨_, _, by rw [State.splitChanges, hsplit, List.map_append, List.map_cons], hmap pre fun hk => ?_,
    hmap post fun hk => ?_⟩
  · exact hfresh (List.mem_append_left _ hk)
  · exact hfresh (List.mem_append_right _ hk)

theorem segmentsOf_length : ∀ n : Node, (segmentsOf n).length ≤ 2 := by decide

/-- One attempt moves at most the two splits beside its node. -/
theorem splitChanges_length (c : Call) (r : Reach) (s : State) : (s.splitChanges c r).length ≤ 2 := by
  refine le_trans ?_ (segmentsOf_length c.node)
  rw [State.splitChanges, List.length_map, segmentsOf_eq_filter]
  refine (List.monotone_filter_right _ fun k hk => ?_).length_le
  rw [decide_eq_true_eq] at hk ⊢
  by_contra hapart
  refine hk ?_
  simp [State.splitNext, hapart]

end

/-! ### What has been told when the outcome is handed over (R17, R36, R140, R162) -/

/-- The state `v` in which an attempt of call `c` that gives its end reach `r` has ended the call with the contact
state `next`, and everything that step 5 of R17 tells has been told: as O40 and O42 say it. -/
def Told (s : State) (c : Call) (r : Reach) (next : Contact) (v : State) : Prop :=
  v = { s with string := v.string, docks := v.docks, faults := v.faults, agenda := v.agenda } ∧
  v.string.flight.isSome = true ∧ (v.link c.node).contact = next ∧
  (next = .lost → c.contactAtTake ≠ .lost →
    (∀ r, s.findFault (nodeSubject c.node) .noContact = some r →
      v.findFault (nodeSubject c.node) .noContact = some r) ∧
    (s.findFault (nodeSubject c.node) .noContact = none →
      ∃ i o, v.findFault (nodeSubject c.node) .noContact = some
        { slot := i, subject := nodeSubject c.node, kind := .noContact, state := .active, count := 0,
          reporters := [], firstTime := s.clock.time, seen := false, order := o })) ∧
  (next ≠ .lost → c.contactAtTake = .lost → v.findFault (nodeSubject c.node) .noContact = none) ∧
  ((next = .lost ↔ c.contactAtTake = .lost) →
    v.findFault (nodeSubject c.node) .noContact = s.findFault (nodeSubject c.node) .noContact) ∧
  (∀ k : Fin 30, (∀ x ∈ c.splits, x.1 ≠ k) →
    (s.string.splits.get k = false → v.string.splits.get k = true →
      (∀ r, s.findFault (.segment k) .lineSplit = some r → v.findFault (.segment k) .lineSplit = some r) ∧
      (s.findFault (.segment k) .lineSplit = none →
        ∃ i o, v.findFault (.segment k) .lineSplit = some
          { slot := i, subject := .segment k, kind := .lineSplit, state := .active, count := 0,
            reporters := [], firstTime := s.clock.time, seen := false, order := o })) ∧
    (s.string.splits.get k = true → v.string.splits.get k = false →
      v.findFault (.segment k) .lineSplit = none) ∧
    (v.string.splits.get k = s.string.splits.get k →
      v.findFault (.segment k) .lineSplit = s.findFault (.segment k) .lineSplit)) ∧
  (∀ k, v.string.splits.get k = s.splitNext c r k) ∧
  (∀ (k : Fin 30) (b : Bool) (pre post : List (Fin 30 × Bool)),
    c.splits ++ s.splitChanges c r = pre ++ (k, b) :: post → (∀ x ∈ post, x.1 ≠ k) →
    (v.findFault (.segment k) .lineSplit).isSome = b) ∧
  (∀ d : Dock, c.node = dockNode d →
    (next ≠ c.contactAtTake → v.agenda.manifest = true ∧ (v.dock d).lamp = v.lampFor d) ∧
    (v.dock d).resyncDue = ((s.dock d).resyncDue || decide (next = .lost ∧ c.contactAtTake ≠ .lost)))

/-- The state in which the last attempt of a call has ended, before anything is told: the splits have followed the
reach, and of the link record alone more may have changed. -/
def State.judged (s : State) (c : Call) (r : Reach) (u : State) : Prop :=
  ∃ g, u = (s.reached c r).setLink c.node g

theorem judged_tells {s u : State} {c : Call} {r : Reach} (h : s.judged c r u) :
    s.tells u ∧ u.faults = s.faults ∧ u.docks = s.docks ∧ u.string.flight = s.string.flight ∧
    (∀ k, u.string.splits.get k = s.splitNext c r k) ∧
    (∀ n, n ≠ c.node → u.link n = s.link n) := by
  obtain ⟨g, rfl⟩ := h
  refine ⟨⟨_, _, _, _, rfl⟩, rfl, rfl, rfl, reached_split c r s, fun n hn => ?_⟩
  rw [setLink_link, if_neg (Ne.symm hn), reached_link, if_neg (Ne.symm hn)]

theorem releaseButton_keeps (c : Call) (result : Option Answer) (s : State) :
    s.tells (releaseButton c result s) ∧ (releaseButton c result s).faults = s.faults ∧
    (releaseButton c result s).docks = s.docks ∧ (releaseButton c result s).agenda = s.agenda ∧
    (releaseButton c result s).refers = s.refers ∧ (releaseButton c result s).settings = s.settings ∧
    (releaseButton c result s).string.flight = s.string.flight := by
  unfold releaseButton
  split
  · exact ⟨⟨_, _, _, _, rfl⟩, rfl, rfl, rfl, rfl, rfl, rfl⟩
  · exact ⟨tells_refl s, rfl, rfl, rfl, rfl, rfl, rfl⟩

/-- The dock records of `reported` are as they were but for lamps, refusals and reservations. -/
theorem reported_known (c : Call) (s : State) (d : Dock) :
    ((reported c s).dock d).known = (s.dock d).known :=
  closed_reportSplits (known_closed d _) _ _ (closed_reportContact (known_closed d _) c s rfl)

/-- The state in which the outcome of a call is handed over: its reports are made, and the held button of a dock goes
with a GOOD outcome. -/
def handed (c : Call) (result : Option Answer) (s : State) : State := releaseButton c result (sendReports c s)

section

variable {s : State} {c : Call} (result : Option Answer)

theorem handed_tells (h : RoomToReport c s) : s.tells (handed c result s) := by
  obtain ⟨hbutton, -⟩ := releaseButton_keeps c result (sendReports c s)
  refine tells_trans (tells_trans (reported_tells h) ?_) hbutton
  rw [sendReports_reported]
  exact (reportDockContact_tells c _ _).1

theorem handed_findFault (c : Call) (s : State) (x : Subject) (k : FaultKind) :
    (handed c result s).findFault x k = (reported c s).findFault x k := by
  obtain ⟨-, hbutton, -⟩ := releaseButton_keeps c result (sendReports c s)
  refine findFault_of_faults (hbutton.trans ?_) x k
  rw [sendReports_reported]
  exact (reportDockContact_tells c _ _).2

theorem handed_core (c : Call) (s : State) (n : Node) : ((handed c result s).link n).core = (s.link n).core :=
  (releaseButton_core c result _ n).trans (sendReports_core c s n)

theorem handed_splits (c : Call) (s : State) : (handed c result s).string.splits = s.string.splits :=
  (releaseButton_splits c result _).trans (sendReports_splits c s)

theorem handed_flight {f : Flight} (h : s.string.flight = some f) :
    (handed c result s).string.flight = some f := by
  obtain ⟨-, -, -, -, -, -, hbutton⟩ := releaseButton_keeps c result (sendReports c s)
  exact hbutton.trans (closed_reports (flight_closed f) c s h)

variable {d : Dock}

/-- Before its outcome is handed over a dock whose contact state has changed has its lamp selected, and a retry pass
of the manifest is due (R39, R162). -/
theorem handed_selected (hd : c.node = dockNode d) (hne : (s.link c.node).contact ≠ c.contactAtTake) :
    (handed c result s).agenda.manifest = true ∧
      ((handed c result s).dock d).lamp = (handed c result s).lampFor d := by
  have hdock : nodeDock c.node = some d := by rw [hd, nodeDock_dockNode]
  obtain ⟨-, hfaults, hdocks, hagenda, hrefers, hsettings, -⟩ := releaseButton_keeps c result (sendReports c s)
  obtain ⟨hmanifest, hlamp⟩ := reportDockContact_selected hdock hne (reported c s)
  rw [← sendReports_reported] at hmanifest hlamp
  have hsame : (handed c result s).lampFor d = (sendReports c s).lampFor d :=
    lampFor_congr (by rw [handed, dock_of_docks hdocks])
      (congrArg LinkRecord.contact (releaseButton_core c result (sendReports c s) (dockNode d)) :) hrefers hsettings hfaults
  rw [hsame, ← hlamp]
  exact ⟨(congrArg Agenda.manifest hagenda).trans hmanifest, congrArg DockRecord.lamp (dock_of_docks hdocks d)⟩

theorem handed_resyncDue (hd : c.node = dockNode d) : ((handed c result s).dock d).resyncDue =
    ((s.dock d).resyncDue || decide ((s.link c.node).contact = .lost ∧ c.contactAtTake ≠ .lost)) := by
  have hdock : nodeDock c.node = some d := by rw [hd, nodeDock_dockNode]
  obtain ⟨-, -, hdocks, -⟩ := releaseButton_keeps c result (sendReports c s)
  have hknown : ((reported c s).dock d).resyncDue = (s.dock d).resyncDue :=
    (congrArg DockRecord.resyncDue (reported_known c s d) :)
  rw [handed, dock_of_docks hdocks, sendReports_reported, reportDockContact_resync hdock, hknown]

end

section

variable {s u : State} {c c' : Call} {r : Reach} (result : Option Answer)

/-- The call `c'` that is completed at `u` is the call `c` of `s`, with the changes of its last attempt noted. -/
structure Completes (s : State) (c : Call) (r : Reach) (u : State) (c' : Call) : Prop where
  judged : s.judged c r u
  node : c'.node = c.node
  take : c'.contactAtTake = c.contactAtTake
  splits : c'.splits = c.splits ++ s.splitChanges c r

theorem completes_room (h : Completes s c r u c') (hs : s.faultsOk)
    (hroom : s.faults.records.length + c.splits.length ≤ 29) : RoomToReport c' u := by
  obtain ⟨-, hfaults, -⟩ := judged_tells h.judged
  have hlen := splitChanges_length c r s
  refine ⟨by unfold State.faultsOk; rw [hfaults]; exact hs, ?_⟩
  rw [hfaults, h.splits, List.length_append]
  omega

/-- What follows from the state `u` at the end of the attempt follows from the state `s` before it. -/
theorem completes_follows (h : Completes s c r u c') {x : Subject} {k : FaultKind} {holds : Bool}
    (hfollow : recordFollows x k holds u (reported c' u)) : recordFollows x k holds s (handed c' result u) := by
  obtain ⟨htells, hfaults, -⟩ := judged_tells h.judged
  obtain ⟨_, _, _, _, hclock⟩ := htells
  exact recordFollows_congr (findFault_of_faults hfaults x k).symm (by rw [hclock])
    (handed_findFault result c' u x k) hfollow

theorem completes_split_get (h : Completes s c r u c') (k : Fin 30) :
    (handed c' result u).string.splits.get k = s.splitNext c r k := by
  obtain ⟨-, -, -, -, hget, -⟩ := judged_tells h.judged
  rw [handed_splits, hget]

/-- A segment that only this attempt has changed has its LINE_SPLIT record follow it (R140). -/
theorem completes_split_follows (h : Completes s c r u c') (hreport : RoomToReport c' u) {k : Fin 30}
    (hk : ∀ x ∈ c.splits, x.1 ≠ k) (hne : s.splitNext c r k ≠ s.string.splits.get k) :
    recordFollows (.segment k) .lineSplit (s.splitNext c r k) s (handed c' result u) := by
  obtain ⟨pre, post, hl, hpre, hpost⟩ := splitChanges_split hne
  have hsplits := h.splits
  rw [hl, ← List.append_assoc] at hsplits
  refine completes_follows result h (reported_split_once hreport hsplits (fun x hx => ?_) hpost)
  exact (List.mem_append.1 hx).elim (hk x) (hpre x)

/-- A segment that the call has not changed keeps its LINE_SPLIT record. -/
theorem completes_split_stays (h : Completes s c r u c') (hreport : RoomToReport c' u) {k : Fin 30}
    (hk : ∀ x ∈ c.splits, x.1 ≠ k) (hsame : s.splitNext c r k = s.string.splits.get k) :
    (handed c' result u).findFault (.segment k) .lineSplit = s.findFault (.segment k) .lineSplit := by
  obtain ⟨-, hfaults, -⟩ := judged_tells h.judged
  rw [handed_findFault, ← findFault_of_faults hfaults]
  refine reported_split_never hreport fun x hx => ?_
  rw [h.splits] at hx
  exact (List.mem_append.1 hx).elim (hk x) (not_mem_splitChanges hsame x)

variable {next : Contact}

/-- A node that becomes LOST or leaves it has its NO_CONTACT record follow it (R140). -/
theorem completes_noContact_follows (h : Completes s c r u c') (hreport : RoomToReport c' u)
    (hnext : (u.link c.node).contact = next) (hne : ¬(next = .lost ↔ c.contactAtTake = .lost)) :
    recordFollows (nodeSubject c.node) .noContact (decide (next = .lost)) s (handed c' result u) := by
  rw [← hnext, ← h.node, ← h.take] at hne
  have hfollow := completes_follows result h (reported_noContact_changed hreport hne)
  rwa [h.node, hnext] at hfollow

theorem completes_noContact_stays (h : Completes s c r u c') (hreport : RoomToReport c' u)
    (hnext : (u.link c.node).contact = next) (hsame : next = .lost ↔ c.contactAtTake = .lost) :
    (handed c' result u).findFault (nodeSubject c.node) .noContact =
      s.findFault (nodeSubject c.node) .noContact := by
  obtain ⟨-, hfaults, -⟩ := judged_tells h.judged
  rw [← hnext, ← h.node, ← h.take] at hsame
  rw [handed_findFault, ← findFault_of_faults hfaults, ← h.node]
  exact reported_noContact_same hreport hsame

/-- Everything that step 5 of R17 tells has been told when the outcome is handed over. -/
theorem told_of_completes (h : Completes s c r u c') (hflight : s.string.flight = some (.call c))
    (hs : s.faultsOk) (hroom : s.faults.records.length + c.splits.length ≤ 29)
    (hnext : (u.link c.node).contact = next) : Told s c r next (handed c' result u) := by
  obtain ⟨htells, -, hdocks, hflight', -⟩ := judged_tells h.judged
  have hreport := completes_room h hs hroom
  have hget := completes_split_get result h
  have hcontact := completes_noContact_follows result h hreport hnext
  have hsplit := fun k => completes_split_follows (k := k) result h hreport
  refine ⟨?_, by rw [handed_flight result (hflight'.trans hflight)]; rfl,
    (congrArg LinkRecord.contact (handed_core result c' u c.node) :).trans hnext,
    fun hlost htake => (hcontact (by tauto)).1 (decide_eq_true hlost),
    fun hlost htake => (hcontact (by tauto)).2 (decide_eq_false hlost),
    completes_noContact_stays result h hreport hnext,
    fun k hk => ⟨fun hwas hnow => ?_, fun hwas hnow => ?_, fun hsame => ?_⟩, hget,
    fun k b pre post hl hpost => ?_, fun d hd => ⟨fun hne => ?_, ?_⟩⟩
  · obtain ⟨_, _, _, _, hframe⟩ := tells_trans htells (handed_tells result hreport)
    rw [hframe]
  · rw [hget] at hnow
    exact (hsplit k hk (by rw [hwas, hnow]; decide)).1 hnow
  · rw [hget] at hnow
    exact (hsplit k hk (by rw [hwas, hnow]; decide)).2 hnow
  · exact completes_split_stays result h hreport hk ((hget k).symm.trans hsame)
  · rw [handed_findFault]
    exact reported_split_last hreport (h.splits.trans hl) hpost
  · exact handed_selected result (h.node.trans hd) (by rwa [h.node, h.take, hnext])
  · rw [handed_resyncDue result (h.node.trans hd), h.node, h.take, hnext, dock_of_docks hdocks]

end

end Sys2Proof.Machine
end

section
/-! PROOFS. Calls that end GOOD and calls that fail (R8 to R14). -/

namespace Sys2Proof.Machine

open Sys2Proof

/-! ### The link record of a call that ends (R9, R11, R13) -/

@[simp] theorem reach_setReach (l : LinkRecord) (e : StringEnd) (r : Reach) : (l.setReach e r).reach e = r := by
  cases e <;> rfl

@[simp] theorem reach_otherEnd_setReach (l : LinkRecord) (e : StringEnd) (r : Reach) :
    (l.setReach e r).reach (otherEnd e) = l.reach (otherEnd e) := by
  cases e <;> rfl

/-- An update of reach leaves the other fields. -/
theorem setReach_fields (l : LinkRecord) (e : StringEnd) (r : Reach) :
    (l.setReach e r).failures = l.failures ∧ (l.setReach e r).contact = l.contact ∧
    (l.setReach e r).preferred = l.preferred ∧ (l.setReach e r).heldButton = l.heldButton := by
  cases e <;> exact ⟨rfl, rfl, rfl, rfl⟩

/-- The link record after an ordinary call (R9, R11). -/
def Call.linkAfter (c : Call) (good : Bool) (l : LinkRecord) : LinkRecord :=
  (if good && c.flip && decide (c.on ≠ c.noted) then { l with preferred := c.on } else l).afterCall good

theorem linkAfter_good (c : Call) (l : LinkRecord) : c.linkAfter true l =
    { l with failures := 0, contact := .reachable,
             preferred := if c.flip = true ∧ c.on ≠ c.noted then c.on else l.preferred } := by
  unfold Call.linkAfter LinkRecord.afterCall
  by_cases h : c.flip = true ∧ c.on ≠ c.noted
  · simp [h]
  · have hstay : (true && c.flip && decide (c.on ≠ c.noted)) = false := by
      simpa using h
    simp only [hstay, h, if_true, if_false, Bool.false_eq_true]

theorem linkAfter_failed (c : Call) (l : LinkRecord) : c.linkAfter false l =
    { l with failures := min (l.failures + 1) 255,
             contact := if l.failures + 1 ≤ 2 then .doubtful else .lost } := by
  have hcount : min (l.failures + 1) 255 ≤ 2 ↔ l.failures + 1 ≤ 2 := by omega
  simp only [Call.linkAfter, LinkRecord.afterCall, Bool.false_and, Bool.false_eq_true, if_false, hcount]

/-- An ordinary call ends with its link record, and a cross attempt where one is to follow (R11, R13). -/
theorem ordinaryEnd_eq (c : Call) (result : Option Answer) (s : State) : ordinaryEnd c result s =
    let t := s.setLink c.node (c.linkAfter result.isSome)
    if c.entry.verb = .survey ∧ c.entry.cross = true ∧
        ((t.link c.node).contact = .reachable ∨ (t.link c.node).contact = .doubtful) then
      sendAttempt (otherEnd (t.link c.node).preferred) { c with crossOf := some result } t
    else completeCall c result t := rfl

/-! ### The state that an attempt leaves (R10, R16) -/

/-- The last attempt of a call has ended, and its link record has changed by `g` beyond its reach. -/
def State.ended (c : Call) (r : Reach) (g : LinkRecord → LinkRecord) (s : State) : State :=
  (s.reached c r).setLink c.node g

theorem ended_link (c : Call) (r : Reach) (g : LinkRecord → LinkRecord) (s : State) :
    (s.ended c r g).link c.node = g ((s.link c.node).setReach c.on r) := by
  rw [State.ended, setLink_link, if_pos rfl, reached_link, if_pos rfl]

theorem ended_link_other (c : Call) (r : Reach) (g : LinkRecord → LinkRecord) (s : State) {n : Node}
    (hn : n ≠ c.node) : (s.ended c r g).link n = s.link n := by
  rw [State.ended, setLink_link, if_neg (Ne.symm hn), reached_link, if_neg (Ne.symm hn)]

theorem ended_judged (c : Call) (r : Reach) (g : LinkRecord → LinkRecord) (s : State) :
    s.judged c r (s.ended c r g) := ⟨g, rfl⟩

theorem reach_of_core {l m : LinkRecord} (h : l.core = m.core) (e : StringEnd) : l.reach e = m.reach e := by
  cases e
  · exact (congrArg LinkRecord.reachA h :)
  · exact (congrArg LinkRecord.reachB h :)

/-- What the end of a call leaves of the string's records, and what it does not touch. -/
theorem completeCall_leaves (c c' : Call) (result : Option Answer) (r : Reach)
    (g : LinkRecord → LinkRecord) (s : State) :
    (((completeCall c' result (s.ended c r g)).link c.node).core = (g ((s.link c.node).setReach c.on r)).core) ∧
    (∀ n, n ≠ c.node →
      ((completeCall c' result (s.ended c r g)).link n).reachA = (s.link n).reachA ∧
      ((completeCall c' result (s.ended c r g)).link n).reachB = (s.link n).reachB) ∧
    (∀ k, (completeCall c' result (s.ended c r g)).string.splits.get k = s.splitNext c r k) ∧
    (completeCall c' result (s.ended c r g)).settings = s.settings ∧
    (completeCall c' result (s.ended c r g)).clock = s.clock ∧
    (completeCall c' result (s.ended c r g)).supply = s.supply ∧
    (completeCall c' result (s.ended c r g)).fare = s.fare ∧
    (completeCall c' result (s.ended c r g)).port = s.port := by
  refine ⟨?_, fun n hn => ?_, fun k => ?_, completeCall_outside c' result _⟩
  · rw [completeCall_core, ended_link]
  · have h := completeCall_core c' result (s.ended c r g) n
    rw [ended_link_other c r g s hn] at h
    exact ⟨(congrArg LinkRecord.reachA h :), (congrArg LinkRecord.reachB h :)⟩
  · rw [completeCall_splits]
    exact reached_split c r s k

/-- At the end of a call its reports have been told before the outcome is handed over. -/
theorem completeCall_told {s : State} {c c' : Call} {r : Reach} {g : LinkRecord → LinkRecord} {next : Contact}
    (result : Option Answer) (hflight : s.string.flight = some (.call c)) (hs : s.faultsOk)
    (hroom : s.faults.records.length + c.splits.length ≤ 29)
    (hnext : (g ((s.link c.node).setReach c.on r)).contact = next) (hnode : c'.node = c.node)
    (hentry : c'.entry = c.entry) (htake : c'.contactAtTake = c.contactAtTake)
    (hsplits : c'.splits = c.splits ++ s.splitChanges c r) : ∃ v answer mark,
      completeCall c' result (s.ended c r g) = freeString (handOutcome c.node c.entry answer mark v) ∧
      Told s c r next v := by
  obtain ⟨answer, mark, h⟩ := completeCall_eq c' result (s.ended c r g)
  rw [hnode, hentry] at h
  exact ⟨_, answer, mark, h, told_of_completes result ⟨ended_judged c r g s, hnode, htake, hsplits⟩ hflight hs hroom
    (by rw [ended_link, hnext])⟩

/-- A further attempt that is sent after one has ended: the call in flight, what is on the string, and the records
that the ended attempt leaves (R8, R13, log 3). -/
theorem sendAttempt_leaves (e : StringEnd) (c c' : Call) (r : Reach) (g : LinkRecord → LinkRecord) {s u : State}
    (hu : u = sendAttempt e c' (s.ended c r g)) :
    u.string.flight = some (.call { c' with on := e, phase := .answering [], remaining := c'.window }) ∧
    (∀ k, u.string.splits.get k = s.splitNext c r k) ∧
    u.string.lastSent = (callChars c'.entry.target c'.entry.verb c'.entry.args).map (fun x => (e, x)) ∧
    u.link c.node = g ((s.link c.node).setReach c.on r) ∧
    (∀ n, n ≠ c.node → u.link n = s.link n) ∧
    u = { s with string := { u.string with queue := s.string.queue } } := by
  have hlink : ∀ n, u.link n = (s.ended c r g).link n := fun n => by rw [hu]; rfl
  have hget : ∀ k, u.string.splits.get k = s.splitNext c r k := fun k => by rw [hu]; exact reached_split c r s k
  refine ⟨by rw [hu]; rfl, hget, by rw [hu]; rfl, (hlink c.node).trans (ended_link c r g s),
    fun n hn => (hlink n).trans (ended_link_other c r g s hn), by rw [hu]; rfl⟩

/-! ### How the last attempt of a call ends it (R8, R11, R13) -/

/-- An ordinary call after which no cross attempt is sent. -/
theorem ordinaryEnd_completes {c : Call} {result : Option Answer} {s : State} {r : Reach}
    (h : c.entry.verb ≠ .survey ∨ c.entry.cross = false ∨
      ((c.linkAfter result.isSome) ((s.link c.node).setReach c.on r)).contact = .lost) (c' : Call)
    (hc : c' = { c with ended := c'.ended, splits := c'.splits }) :
    ordinaryEnd c' result (s.reached c r) = completeCall c' result (s.ended c r (c.linkAfter result.isSome)) := by
  rw [hc, ordinaryEnd_eq]
  refine if_neg ?_
  rintro ⟨hverb, hcross, hcontact⟩
  have hlink : ((s.ended c r (c.linkAfter result.isSome)).link c.node).contact ≠ .lost := by
    rcases hcontact with hcontact | hcontact <;> exact hcontact ▸ nofun
  rw [ended_link] at hlink
  rcases h with h | h | h
  · exact h hverb
  · rw [h] at hcross
    cases hcross
  · exact hlink h

/-- An ordinary SURVEY with a cross mark after which the node is in contact sends its cross attempt on the end that is
not preferred (R13). -/
theorem ordinaryEnd_crosses {c : Call} {result : Option Answer} {s : State} {r : Reach}
    (hverb : c.entry.verb = .survey) (hcross : c.entry.cross = true)
    (hcontact : ((c.linkAfter result.isSome) ((s.link c.node).setReach c.on r)).contact = .reachable ∨
      ((c.linkAfter result.isSome) ((s.link c.node).setReach c.on r)).contact = .doubtful) (c' : Call)
    (hc : c' = { c with ended := c'.ended, splits := c'.splits }) :
    ordinaryEnd c' result (s.reached c r) =
      sendAttempt (otherEnd ((s.ended c r (c.linkAfter result.isSome)).link c.node).preferred)
        { c' with crossOf := some result } (s.ended c r (c.linkAfter result.isSome)) := by
  rw [← ended_link c r (c.linkAfter result.isSome) s] at hcontact
  rw [hc, ordinaryEnd_eq]
  exact if_pos ⟨hverb, hcross, hcontact⟩

/-- The link record after a cross attempt: GOOD on the home end, the home end is preferred, and a BUTTON is held
(R13, R14). -/
def Call.linkAfterCross (c : Call) (o : AttemptOutcome) (l : LinkRecord) : LinkRecord :=
  match o with
  | .good a =>
    { l with
      preferred := if c.on = homeEnd c.node then homeEnd c.node else l.preferred,
      heldButton := l.heldButton || ((nodeDock c.node).isSome && hasButton a.condition) }
  | .silent | .garbled | .mismatch => l

theorem linkAfterCross_failed (c : Call) {o : AttemptOutcome} (ho : o.failed) (l : LinkRecord) :
    c.linkAfterCross o l = l := by
  cases o with
  | good a => exact absurd rfl (ho a)
  | silent | garbled | mismatch => rfl

/-- No failure of a cross attempt counts, and its contact state stays (R13). -/
theorem linkAfterCross_fields (c : Call) (o : AttemptOutcome) (l : LinkRecord) :
    (c.linkAfterCross o l).failures = l.failures ∧ (c.linkAfterCross o l).contact = l.contact ∧
    (∀ e, (c.linkAfterCross o l).reach e = l.reach e) := by
  cases o <;> exact ⟨rfl, rfl, fun e => by cases e <;> rfl⟩

theorem setLink_of_eq {s : State} {n : Node} {f : LinkRecord → LinkRecord} (h : ∀ l, f l = l) :
    s.setLink n f = s := by
  have hlinks : upd s.string.links n f = s.string.links := vector_ext_get fun k => by
    rw [upd_get, h]
    split
    · subst_vars; rfl
    · rfl
  unfold State.setLink
  rw [hlinks]

theorem crossEnd_eq (c : Call) (o : AttemptOutcome) (result : Option Answer) (s : State) :
    crossEnd c o result s = completeCall c result (s.setLink c.node (c.linkAfterCross o)) := by
  cases o with
  | good a => rfl
  | silent | garbled | mismatch =>
    exact congrArg (completeCall c result) (setLink_of_eq fun _ => rfl).symm

/-- The cross attempt ends its call (R13). -/
theorem attemptEnd_cross_completes {c : Call} {result : Option Answer} (h : c.crossOf = some result)
    (o : AttemptOutcome) (s : State) : attemptEnd o c s =
      completeCall (c.noting o.reach s) result (s.ended c o.reach (c.linkAfterCross o)) := by
  rw [attemptEnd_cross h, crossEnd_eq]
  rfl

/-! ### The last character of a GOOD answer (R4) -/

/-- The answer that these characters and the check spell (R4). -/
def Call.answer (c : Call) (got : List Byte) (check : Byte) : Answer :=
  { condition := byte (field (got ++ [check]) 1 1),
    data := ((got ++ [check]).drop 2).take c.entry.verb.answerData }

theorem exec_good_answer {s : State} {c : Call} {got : List Byte} {data : Byte}
    (hflight : s.string.flight = some (.call c)) (hphase : c.phase = .answering got)
    (haddress : got ≠ [] ∨ data = c.entry.target.address)
    (hlen : got.length + 1 = c.entry.verb.answerData + 3) (hsum : sum8 (got ++ [data]) = 0) :
    exec (.stringCharacterReceived c.on data false) s =
      .next (finishEvent (attemptEnd (.good (c.answer got data)) c s)) := by
  rw [exec_character, stringChar_in_use hflight, receiveChar_complete hphase haddress hlen, judgeAnswer,
    if_pos hsum]
  rfl

/-- A SURVEY is answered by its condition character alone (R4, R5). -/
theorem answer_survey {c : Call} (hverb : c.entry.verb = .survey) {got : List Byte} (hlen : got.length = 2)
    (data : Byte) : c.answer got data = { condition := got.getD 1 0, data := [] } := by
  match got, hlen with
  | [a, b], _ => simp [Call.answer, hverb, Verb.answerData]

theorem exec_good_survey {s : State} {c : Call} {got : List Byte} {data : Byte}
    (hflight : s.string.flight = some (.call c)) (hverb : c.entry.verb = .survey)
    (hphase : c.phase = .answering got) (hlen : got.length = 2) (hsum : sum8 (got ++ [data]) = 0) :
    exec (.stringCharacterReceived c.on data false) s =
      .next (finishEvent (attemptEnd (.good { condition := got.getD 1 0, data := [] }) c s)) := by
  have hgot : got ≠ [] := List.ne_nil_of_length_pos (by omega)
  rw [exec_good_answer hflight hphase (.inl hgot) (by rw [hlen, hverb]; rfl) hsum, answer_survey hverb hlen]

/-- A window that ends an attempt ends it without a GOOD answer (R4). -/
theorem exec_window_call {s : State} {c : Call} (hflight : s.string.flight = some (.call c)) :
    exec .answerWindowExpiry s = .next (finishEvent (attemptEnd c.phase.expired c s)) := by
  rw [exec_window, windowEnd_call hflight]

theorem nodeSubject_terminal : nodeSubject 0 = .terminal := rfl

theorem nodeSubject_dockNode (d : Dock) : nodeSubject (dockNode d) = .dock d := by
  simp [nodeSubject]

end Sys2Proof.Machine
end

section
/-! PROOFS. The statements on calls that succeed and calls that fail (R8 to R17, R36, R140, R162). -/

namespace Sys2Proof.Machine

open Sys2Proof

section

variable {s : State} {c : Call}

/-! ### Ordinary calls without a cross attempt (R8 to R11) -/

theorem good_ordinary_ends (hcross : c.crossOf = none) (hmark : c.entry.verb ≠ .survey ∨ c.entry.cross = false)
    (a : Answer) (s : State) : attemptEnd (.good a) c s =
      completeCall (c.noting .yes s) (some a) (s.ended c .yes (c.linkAfter true)) := by
  rw [attemptEnd_good hcross]
  exact ordinaryEnd_completes (result := some a) (hmark.imp_right .inl) (c.noting .yes s) rfl

/-- A GOOD ordinary call leaves its link record REACHABLE with no failure, and the end used preferred where flip
says so (R9, R10, R11). -/
theorem good_ordinary_leaves (hcross : c.crossOf = none)
    (hmark : c.entry.verb ≠ .survey ∨ c.entry.cross = false) (a : Answer) {u : State}
    (hu : u = attemptEnd (.good a) c s) :
    (u.link c.node).failures = 0 ∧ (u.link c.node).contact = .reachable ∧
    (u.link c.node).reach c.on = .yes ∧
    (u.link c.node).reach (otherEnd c.on) = (s.link c.node).reach (otherEnd c.on) ∧
    (∀ n, n ≠ c.node → (u.link n).reachA = (s.link n).reachA ∧ (u.link n).reachB = (s.link n).reachB) ∧
    (∀ k, u.string.splits.get k = s.splitNext c .yes k) ∧
    (u.link c.node).preferred = (if c.flip = true ∧ c.on ≠ c.noted then c.on else (s.link c.node).preferred) ∧
    u.settings = s.settings ∧ u.clock = s.clock ∧ u.supply = s.supply ∧ u.fare = s.fare ∧ u.port = s.port := by
  rw [good_ordinary_ends hcross hmark] at hu
  obtain ⟨hcore, hothers, hsplits, houtside⟩ :=
    completeCall_leaves c (c.noting .yes s) (some a) .yes (c.linkAfter true) s
  rw [← hu] at hcore hothers hsplits houtside
  obtain ⟨-, -, hpreferred, -⟩ := setReach_fields (s.link c.node) c.on .yes
  rw [linkAfter_good, hpreferred] at hcore
  have hreach : ∀ e, (u.link c.node).reach e = ((s.link c.node).setReach c.on .yes).reach e := fun e =>
    (reach_of_core hcore e).trans (by cases e <;> rfl)
  exact ⟨(congrArg LinkRecord.failures hcore :), (congrArg LinkRecord.contact hcore :),
    (hreach c.on).trans (reach_setReach _ _ _), (hreach _).trans (reach_otherEnd_setReach _ _ _), hothers, hsplits,
    (congrArg LinkRecord.preferred hcore :), houtside⟩

theorem good_ordinary_told (hflight : s.string.flight = some (.call c)) (hs : s.faultsOk)
    (hroom : s.faults.records.length + c.splits.length ≤ 29) (hcross : c.crossOf = none)
    (hmark : c.entry.verb ≠ .survey ∨ c.entry.cross = false) (a : Answer) : ∃ v answer mark,
      attemptEnd (.good a) c s = freeString (handOutcome c.node c.entry answer mark v) ∧
      Told s c .yes .reachable v := by
  rw [good_ordinary_ends hcross hmark]
  exact completeCall_told (some a) hflight hs hroom (by rw [linkAfter_good]) rfl rfl rfl rfl

/-- The contact state after one more failure (R11). -/
def contactAfterFailure (l : LinkRecord) : Contact := if l.failures + 1 ≤ 2 then .doubtful else .lost

/-- The link record after a failed ordinary call whose last attempt gives its end this reach (R10, R11). -/
theorem linkAfter_failed_reached (c : Call) (r : Reach) (l : LinkRecord) : c.linkAfter false (l.setReach c.on r) =
    { l.setReach c.on r with failures := min (l.failures + 1) 255, contact := contactAfterFailure l } := by
  obtain ⟨hfailures, -⟩ := setReach_fields l c.on r
  rw [linkAfter_failed, hfailures]
  rfl

theorem failed_ordinary_ends (hcross : c.crossOf = none) (hlast : 1 + c.retries ≤ c.ended + 1)
    (hmark : c.entry.verb ≠ .survey ∨ c.entry.cross = false ∨ 2 ≤ (s.link c.node).failures)
    {o : AttemptOutcome} (ho : o.failed) : attemptEnd o c s =
      completeCall { c.noting o.reach s with ended := c.ended + 1 } none
        (s.ended c o.reach (c.linkAfter false)) := by
  rw [attemptEnd_failed hcross ho, if_neg (by omega)]
  refine ordinaryEnd_completes (result := none) ?_ { c.noting o.reach s with ended := c.ended + 1 } rfl
  refine hmark.imp_right (Or.imp_right fun hcount => ?_)
  rw [Option.isSome_none, linkAfter_failed_reached]
  exact if_neg (by omega)

/-- A failed ordinary call counts one failure, and its contact state follows the count (R10, R11). -/
theorem failed_ordinary_leaves (hcross : c.crossOf = none) (hlast : 1 + c.retries ≤ c.ended + 1)
    (hmark : c.entry.verb ≠ .survey ∨ c.entry.cross = false ∨ 2 ≤ (s.link c.node).failures)
    {o : AttemptOutcome} (ho : o.failed) {u : State} (hu : u = attemptEnd o c s) :
    (u.link c.node).failures = min ((s.link c.node).failures + 1) 255 ∧
    (u.link c.node).contact = contactAfterFailure (s.link c.node) ∧
    (u.link c.node).preferred = (s.link c.node).preferred ∧
    (u.link c.node).reach c.on = o.reach ∧
    (∀ n, n ≠ c.node → (u.link n).reachA = (s.link n).reachA ∧ (u.link n).reachB = (s.link n).reachB) ∧
    (∀ k, u.string.splits.get k = s.splitNext c o.reach k) ∧
    u.settings = s.settings ∧ u.clock = s.clock ∧ u.supply = s.supply ∧ u.fare = s.fare ∧ u.port = s.port := by
  rw [failed_ordinary_ends hcross hlast hmark ho] at hu
  obtain ⟨hcore, hothers, hsplits, houtside⟩ := completeCall_leaves c
    { c.noting o.reach s with ended := c.ended + 1 } none o.reach (c.linkAfter false) s
  rw [← hu] at hcore hothers hsplits houtside
  obtain ⟨-, -, hpreferred, -⟩ := setReach_fields (s.link c.node) c.on o.reach
  rw [linkAfter_failed_reached] at hcore
  have hreach : ∀ e, (u.link c.node).reach e = ((s.link c.node).setReach c.on o.reach).reach e := fun e =>
    (reach_of_core hcore e).trans (by cases e <;> rfl)
  exact ⟨(congrArg LinkRecord.failures hcore :), (congrArg LinkRecord.contact hcore :),
    (congrArg LinkRecord.preferred hcore :).trans hpreferred, (hreach c.on).trans (reach_setReach _ _ _), hothers,
    hsplits, houtside⟩

theorem failed_ordinary_told (hflight : s.string.flight = some (.call c)) (hs : s.faultsOk)
    (hroom : s.faults.records.length + c.splits.length ≤ 29) (hcross : c.crossOf = none)
    (hlast : 1 + c.retries ≤ c.ended + 1)
    (hmark : c.entry.verb ≠ .survey ∨ c.entry.cross = false ∨ 2 ≤ (s.link c.node).failures)
    {o : AttemptOutcome} (ho : o.failed) : ∃ v answer mark,
      attemptEnd o c s = freeString (handOutcome c.node c.entry answer mark v) ∧
      Told s c o.reach (contactAfterFailure (s.link c.node)) v := by
  rw [failed_ordinary_ends hcross hlast hmark ho]
  exact completeCall_told none hflight hs hroom (by rw [linkAfter_failed_reached]) rfl rfl rfl rfl

/-! ### Cross attempts (R13, R14) -/

/-- A cross attempt counts no failure, and leaves the contact state (R13). -/
theorem cross_leaves {result : Option Answer} (hcross : c.crossOf = some result) {o : AttemptOutcome}
    {u : State} (hu : u = attemptEnd o c s) :
    (u.link c.node).failures = (s.link c.node).failures ∧
    (u.link c.node).contact = (s.link c.node).contact ∧
    (u.link c.node).preferred = (c.linkAfterCross o (s.link c.node)).preferred ∧
    (u.link c.node).reach c.on = o.reach ∧
    (∀ n, n ≠ c.node → (u.link n).reachA = (s.link n).reachA ∧ (u.link n).reachB = (s.link n).reachB) ∧
    (∀ k, u.string.splits.get k = s.splitNext c o.reach k) ∧
    u.settings = s.settings ∧ u.clock = s.clock ∧ u.supply = s.supply ∧ u.fare = s.fare ∧ u.port = s.port := by
  rw [attemptEnd_cross_completes hcross] at hu
  obtain ⟨hcore, hothers, hsplits, houtside⟩ :=
    completeCall_leaves c (c.noting o.reach s) result o.reach (c.linkAfterCross o) s
  rw [← hu] at hcore hothers hsplits houtside
  obtain ⟨hfailures, hcontact, hpreferred, -⟩ := setReach_fields (s.link c.node) c.on o.reach
  obtain ⟨hfailures', hcontact', hreach'⟩ := linkAfterCross_fields c o ((s.link c.node).setReach c.on o.reach)
  refine ⟨(congrArg LinkRecord.failures hcore :).trans (hfailures'.trans hfailures),
    (congrArg LinkRecord.contact hcore :).trans (hcontact'.trans hcontact),
    (congrArg LinkRecord.preferred hcore :).trans ?_,
    (reach_of_core hcore c.on).trans ((hreach' c.on).trans (reach_setReach _ _ _)), hothers, hsplits, houtside⟩
  cases o with
  | good a => exact congrArg (ite _ _) hpreferred
  | silent | garbled | mismatch => exact hpreferred

/-- A BUTTON in a GOOD cross attempt is held for the next hand-over, which a GOOD ordinary call has at once (R14). -/
theorem good_cross_heldButton {result : Option Answer} (hcross : c.crossOf = some result) (a : Answer) {d : Dock}
    (hd : c.node = dockNode d) : ((attemptEnd (.good a) c s).link c.node).heldButton =
      (result.isNone && ((s.link c.node).heldButton || hasButton a.condition)) := by
  have hdock : nodeDock c.node = some d := by rw [hd, nodeDock_dockNode]
  obtain ⟨-, -, -, hheld⟩ := setReach_fields (s.link c.node) c.on .yes
  have hlink : ((s.ended c .yes (c.linkAfterCross (.good a))).link c.node).heldButton =
      ((s.link c.node).heldButton || hasButton a.condition) := by
    rw [ended_link]
    simp [Call.linkAfterCross, hheld, hdock]
  rw [attemptEnd_cross_completes hcross, ← hlink]
  exact completeCall_heldButton (c := c.noting .yes s) hdock result _

theorem cross_told (hflight : s.string.flight = some (.call c)) (hs : s.faultsOk)
    (hroom : s.faults.records.length + c.splits.length ≤ 29) (hcross : c.crossOf ≠ none) (o : AttemptOutcome) :
    ∃ v answer mark, attemptEnd o c s = freeString (handOutcome c.node c.entry answer mark v) ∧
      Told s c o.reach (s.link c.node).contact v := by
  obtain ⟨result, hresult⟩ := Option.ne_none_iff_exists'.1 hcross
  rw [attemptEnd_cross_completes hresult]
  refine completeCall_told result hflight hs hroom ?_ rfl rfl rfl rfl
  obtain ⟨-, hcontact, -⟩ := setReach_fields (s.link c.node) c.on o.reach
  obtain ⟨-, hcontact', -⟩ := linkAfterCross_fields c o ((s.link c.node).setReach c.on o.reach)
  exact hcontact'.trans hcontact

/-! ### Ordinary calls that a cross attempt follows (R13) -/

/-- A GOOD SURVEY with a cross mark is followed by its cross attempt (R13, log 3). -/
theorem good_crosses (hcross : c.crossOf = none) (hverb : c.entry.verb = .survey) (hmark : c.entry.cross = true)
    (a : Answer) (s : State) : attemptEnd (.good a) c s =
      sendAttempt (otherEnd ((s.ended c .yes (c.linkAfter true)).link c.node).preferred)
        { c.noting .yes s with crossOf := some (some a) } (s.ended c .yes (c.linkAfter true)) := by
  rw [attemptEnd_good hcross]
  refine ordinaryEnd_crosses (result := some a) hverb hmark (.inl ?_) (c.noting .yes s) rfl
  rw [Option.isSome_some, linkAfter_good]

/-- A failed SURVEY with a cross mark whose node is not LOST is followed by its cross attempt (R13, log 3). -/
theorem failed_crosses (hcross : c.crossOf = none) (hlast : 1 + c.retries ≤ c.ended + 1)
    (hverb : c.entry.verb = .survey) (hmark : c.entry.cross = true) (hcount : (s.link c.node).failures ≤ 1)
    {o : AttemptOutcome} (ho : o.failed) : attemptEnd o c s =
      sendAttempt (otherEnd ((s.ended c o.reach (c.linkAfter false)).link c.node).preferred)
        { c.noting o.reach s with ended := c.ended + 1, crossOf := some none }
        (s.ended c o.reach (c.linkAfter false)) := by
  rw [attemptEnd_failed hcross ho, if_neg (by omega)]
  refine ordinaryEnd_crosses (result := none) hverb hmark (.inr ?_)
    { c.noting o.reach s with ended := c.ended + 1 } rfl
  rw [Option.isSome_none, linkAfter_failed_reached]
  exact if_pos (by omega)

/-- The cross attempt that follows a GOOD SURVEY: the ordinary answer is kept, and the end is the one that is not
then preferred (R11, R13). -/
theorem good_crosses_leaves (hcross : c.crossOf = none) (hverb : c.entry.verb = .survey)
    (hmark : c.entry.cross = true) (a : Answer) {u : State} (hu : u = attemptEnd (.good a) c s) : ∃ c',
    u.string.flight = some (.call c') ∧
    c' = { c with crossOf := some (some a), on := otherEnd (u.link c.node).preferred, phase := .answering [],
                  remaining := c.window, splits := c.splits ++ s.splitChanges c .yes } ∧
    (∀ k, u.string.splits.get k = s.splitNext c .yes k) ∧
    u.string.lastSent = (callChars c.entry.target c.entry.verb c.entry.args).map (fun x => (c'.on, x)) ∧
    u.link c.node = { (s.link c.node).setReach c.on .yes with
      failures := 0, contact := .reachable,
      preferred := if c.flip = true ∧ c.on ≠ c.noted then c.on else (s.link c.node).preferred } ∧
    (∀ n, n ≠ c.node → u.link n = s.link n) ∧
    u = { s with string := { u.string with queue := s.string.queue } } := by
  rw [good_crosses hcross hverb hmark] at hu
  obtain ⟨hflight, hsplits, hsent, hlink, hothers, hframe⟩ := sendAttempt_leaves _ c _ .yes (c.linkAfter true) hu
  rw [ended_link, ← hlink] at hflight hsent
  obtain ⟨-, -, hpreferred, -⟩ := setReach_fields (s.link c.node) c.on .yes
  rw [linkAfter_good, hpreferred] at hlink
  exact ⟨_, hflight, rfl, hsplits, hsent, hlink, hothers, hframe⟩

/-- The cross attempt that follows a failed SURVEY of a node that is not LOST: the failure is kept (R11, R13). -/
theorem failed_crosses_leaves (hcross : c.crossOf = none) (hlast : 1 + c.retries ≤ c.ended + 1)
    (hverb : c.entry.verb = .survey) (hmark : c.entry.cross = true) (hcount : (s.link c.node).failures ≤ 1)
    {o : AttemptOutcome} (ho : o.failed) {u : State} (hu : u = attemptEnd o c s) : ∃ c',
    u.string.flight = some (.call c') ∧
    c' = { c with ended := c.ended + 1, crossOf := some none, on := otherEnd (s.link c.node).preferred,
                  phase := .answering [], remaining := c.window, splits := c.splits ++ s.splitChanges c o.reach } ∧
    (∀ k, u.string.splits.get k = s.splitNext c o.reach k) ∧
    u.string.lastSent = (callChars c.entry.target c.entry.verb c.entry.args).map (fun x => (c'.on, x)) ∧
    u.link c.node = { (s.link c.node).setReach c.on o.reach with
      failures := (s.link c.node).failures + 1, contact := .doubtful } ∧
    (∀ n, n ≠ c.node → u.link n = s.link n) ∧
    u = { s with string := { u.string with queue := s.string.queue } } := by
  rw [failed_crosses hcross hlast hverb hmark hcount ho] at hu
  obtain ⟨hflight, hsplits, hsent, hlink, hothers, hframe⟩ :=
    sendAttempt_leaves _ c _ o.reach (c.linkAfter false) hu
  obtain ⟨-, -, hpreferred, -⟩ := setReach_fields (s.link c.node) c.on o.reach
  rw [linkAfter_failed_reached, contactAfterFailure, if_pos (by omega), Nat.min_eq_left (by omega)] at hlink
  have hend : ((s.ended c o.reach (c.linkAfter false)).link c.node).preferred = (s.link c.node).preferred := by
    rw [ended_link, linkAfter_failed]
    exact hpreferred
  rw [hend] at hflight hsent
  exact ⟨_, hflight, rfl, hsplits, hsent, hlink, hothers, hframe⟩

end

/-! ### The statements -/

/-- Settles O40: a GOOD answer ends an ordinary call (`good_ordinary_leaves`), is followed by a cross attempt
(`good_crosses`) or ends one (`cross_leaves`); what is told before the outcome is handed over is `Told`. -/
theorem callSucceeds : Obligations.CallSucceeds := by
  unfold Obligations.CallSucceeds
  refine ⟨⟨?_, ?_, ?_⟩, ?_, ?_, nodeSubject_terminal, nodeSubject_dockNode⟩
  · intro s c got data hflight hcross hmark hphase haddress hlen hsum
    exact ⟨_, exec_good_answer hflight hphase haddress hlen hsum, good_ordinary_leaves hcross hmark _ rfl⟩
  · intro s c got data hflight hcross hverb hmark hphase hlen hsum
    obtain ⟨c', hcall⟩ :=
      good_crosses_leaves (s := s) hcross hverb hmark { condition := got.getD 1 0, data := [] } rfl
    exact ⟨_, c', exec_good_survey hflight hverb hphase hlen hsum, hcall⟩
  · intro s c result got data hflight hcross hverb hphase hlen hsum
    obtain ⟨hfailures, hcontact, hpreferred, hreach, hothers, hsplits, houtside⟩ := cross_leaves (s := s) hcross rfl
    exact ⟨_, exec_good_survey hflight hverb hphase hlen hsum, hfailures, hcontact, hreach, hothers, hsplits,
      hpreferred, fun d hd => good_cross_heldButton hcross _ hd, houtside⟩
  · intro s c hflight hs hroom hcross hmark got data hphase haddress hlen hsum
    obtain ⟨v, answer, mark, hend, htold⟩ := good_ordinary_told hflight hs hroom hcross hmark (c.answer got data)
    exact ⟨v, answer, mark, hend ▸ exec_good_answer hflight hphase haddress hlen hsum, htold⟩
  · intro s c hflight hs hroom hcross hverb got data hphase hlen hsum
    obtain ⟨v, answer, mark, hend, htold⟩ :=
      cross_told hflight hs hroom hcross (.good { condition := got.getD 1 0, data := [] })
    exact ⟨v, answer, mark, hend ▸ exec_good_survey hflight hverb hphase hlen hsum, htold⟩

/-- Settles O42: the window ends an ordinary call (`failed_ordinary_leaves`), is followed by a cross attempt
(`failed_crosses`) or ends one (`cross_leaves`); what is told before the outcome is handed over is `Told`. -/
theorem callFails : Obligations.CallFails := by
  unfold Obligations.CallFails
  refine ⟨⟨?_, ?_, ?_⟩, ?_, ?_⟩
  · intro s c hflight hcross hlast hmark
    rw [← expired_reach]
    exact ⟨_, exec_window_call hflight, failed_ordinary_leaves hcross hlast hmark (expired_failed _) rfl⟩
  · intro s c hflight hcross hlast hverb hmark hcount
    rw [← expired_reach]
    obtain ⟨c', hcall⟩ := failed_crosses_leaves hcross hlast hverb hmark hcount (expired_failed c.phase) rfl
    exact ⟨_, c', exec_window_call hflight, hcall⟩
  · intro s c result hflight hcross
    rw [← expired_reach]
    obtain ⟨hfailures, hcontact, hpreferred, hreach, hothers, hsplits, houtside⟩ :=
      cross_leaves (s := s) (o := c.phase.expired) hcross rfl
    rw [linkAfterCross_failed c (expired_failed _)] at hpreferred
    exact ⟨_, exec_window_call hflight, hfailures, hcontact, hpreferred, hreach, hothers, hsplits, houtside⟩
  · intro s c hflight hs hroom hcross hlast hmark next
    rw [← expired_reach]
    obtain ⟨v, answer, mark, hend, htold⟩ :=
      failed_ordinary_told hflight hs hroom hcross hlast hmark (expired_failed c.phase)
    exact ⟨v, answer, mark, hend ▸ exec_window_call hflight, htold⟩
  · intro s c hflight hs hroom hcross
    rw [← expired_reach]
    obtain ⟨v, answer, mark, hend, htold⟩ := cross_told hflight hs hroom hcross c.phase.expired
    exact ⟨v, answer, mark, hend ▸ exec_window_call hflight, htold⟩

end Sys2Proof.Machine
end

section
/-! PROOFS. What the Dock Monitor and the refer slots show: the closed range, the dock image and the oldest refer
slot (R25, R41, R57). -/

namespace Sys2Proof.Machine

open Sys2Proof

/-! ### The closed range (R25) -/

theorem inClosedRange_iff (c : Settings) (d : Dock) : inClosedRange c d = true ↔
    (if c.closedSide = 0 then 1 ≤ dockNumber d ∧ dockNumber d ≤ c.closedCount
      else 31 - c.closedCount ≤ dockNumber d ∧ dockNumber d ≤ 30) := by
  have hlow : 1 ≤ dockNumber d := Nat.succ_pos _
  have hhigh : dockNumber d ≤ 30 := d.isLt
  unfold inClosedRange
  split <;> simp [hlow, hhigh]

/-- The complement flag turns the range around. -/
theorem closed_iff (s : State) (d : Dock) : s.closed d = true ↔
    (inClosedRange s.settings d = true ↔ s.settings.closedComplement = 0) := by
  unfold State.closed
  split <;> simp_all

theorem inClosedRange_none {c : Settings} (h : c.closedCount = 0) (d : Dock) : inClosedRange c d = false := by
  have hlow : 1 ≤ dockNumber d := Nat.succ_pos _
  have hhigh : dockNumber d ≤ 30 := d.isLt
  rw [Bool.eq_false_iff, ne_eq, inClosedRange_iff, h]
  split <;> omega

theorem inClosedRange_all {c : Settings} (h : c.closedCount = 30) (d : Dock) : inClosedRange c d = true := by
  have hlow : 1 ≤ dockNumber d := Nat.succ_pos _
  have hhigh : dockNumber d ≤ 30 := d.isLt
  rw [inClosedRange_iff, h]
  split <;> omega

/-- An item whose range begins at 0 is clamped to its upper end (R189). -/
theorem clamp_of_range {c : Settings} {item hi : Nat} (h : c.range item = (0, hi)) (v : Nat) :
    c.clamp item v = min v hi := by
  simp only [Settings.clamp, h, Nat.not_lt_zero, if_false]
  split <;> omega

/-- Settles O46: the range of side and count, turned around by the complement flag. -/
theorem closedRange : Obligations.ClosedRange := by
  unfold Obligations.ClosedRange
  refine ⟨fun s d => ⟨?_, fun h => ?_, fun h => ?_⟩, fun c v => ⟨clamp_of_range rfl v, clamp_of_range rfl v,
    clamp_of_range rfl v, rfl, rfl, rfl⟩⟩
  · rw [closed_iff, inClosedRange_iff]
  · simp [closed_iff, inClosedRange_none h]
  · simp [closed_iff, inClosedRange_all h]

/-! ### The dock image (R41, section 12.5) -/

theorem exec_readDock_found {a : Byte} {d : Dock} (h : dockOfNumber a.toNat = some d) (s : State) :
    exec (.readDock [a]) s = .next (s.readAnswered 1 (.ok (dockImage d s))) := by
  rw [exec_readDock]
  refine pureRead_taken 1 [a] _ s _ rfl ?_
  rw [field_zero, h]
  rfl

theorem exec_readDock_refused {a : Byte} (h : dockOfNumber a.toNat = none) (s : State) :
    exec (.readDock [a]) s = .next (s.readAnswered 1 (.plain .badArg)) := by
  rw [exec_readDock]
  refine pureRead_taken 1 [a] _ s _ rfl ?_
  rw [field_zero, h]

theorem dockOfNumber_byte (d : Dock) : dockOfNumber (byte (dockNumber d)).toNat = some d := by
  rw [toNat_byte _ (by unfold dockNumber; omega)]
  exact dockOfNumber_dockNumber d

theorem dockOfNumber_outside {n : Nat} (h : n = 0 ∨ 30 < n) : dockOfNumber n = none := dif_neg (by omega)

/-- A byte of eight flags, the first of weight 1. -/
theorem bits_eight (a b c d e f g h : Bool) : bits [a, b, c, d, e, f, g, h] =
    byte ((if a then 1 else 0) + (if b then 2 else 0) + (if c then 4 else 0) + (if d then 8 else 0) +
      (if e then 16 else 0) + (if f then 32 else 0) + (if g then 64 else 0) + (if h then 128 else 0)) := by
  simp only [bits, bitsValue, Nat.mul_add, mul_ite, Nat.mul_zero, Nat.add_assoc, Nat.add_zero, Nat.reduceMul]

/-- The flags of the dock image, bit by bit. -/
theorem getLsbD_bits {l : List Bool} {i : Nat} (h : i < 8) : (bits l).getLsbD i = l.getD i false := by
  rw [bits, byte, BitVec.getLsbD_ofNat, testBit_bitsValue]
  simp [h]

theorem mask_eq (l : LinkRecord) : l.mask = if l.buttonMask then l.hostMask ||| 16 else l.hostMask := by
  unfold LinkRecord.mask
  split
  · rfl
  · simp

theorem dockImage_eq (d : Dock) (s : State) : dockImage d s =
    [byte (dockNumber d), byte (s.dock d).occupancy.code] ++ beBytes 2 ((s.dock d).bike.getD 0).toNat ++
    [byte (s.dock d).stampSeen.code,
     bits [(s.dock d).unpriced, (s.dock d).serviceMark, (s.dock d).lastCondition.isSome,
       (s.dock d).lastTap.isSome, (s.dock d).lampShown, (s.dock d).resyncDue, (s.dock d).heldButton, s.closed d],
     optByte (s.dock d).lastCondition, optByte (s.dock d).lastTap, byte (s.dock d).reservation.code,
     byte (s.dock d).reservation.move, byte (s.dock d).lamp.code, byte (flashCode (s.dock d).flash),
     byte (flashTenths (s.dock d).flash), byte (s.link (dockNode d)).contact.code,
     byte (StringEnd.code (s.link (dockNode d)).preferred), byte (s.link (dockNode d)).failures,
     (s.link (dockNode d)).mask, bits [s.hireable d]] := rfl

theorem beBytes_two (v : Nat) : beBytes 2 v = [byte (v / 256), byte v] := by
  simp [beBytes]

/-- Settles O10: READ_DOCK and NEXT_REFER are reads, and the images are those of section 12.5. -/
theorem docksAndRefersRead : Obligations.DocksAndRefersRead := by
  unfold Obligations.DocksAndRefersRead
  refine ⟨⟨⟨fun s d => exec_readDock_found (dockOfNumber_byte d) s, fun s n hn => ?_, fun s d => ?_⟩,
    fun s hs => ?_, fun s r rest hs => ?_⟩, fun s d => ?_⟩
  · exact exec_readDock_refused (dockOfNumber_outside (hn.imp (fun h => by rw [h]; rfl) id)) s
  · rw [dockImage_eq, beBytes_two]
    refine ⟨rfl, ?_, getLsbD_bits (by decide), rfl, ?_, ?_⟩
    · cases (s.dock d).occupancy <;> rfl
    · change byte (s.link (dockNode d)).contact.code = _
      cases (s.link (dockNode d)).contact <;> rfl
    · change bits [s.hireable d] = _
      cases s.hireable d <;> rfl
  · rw [exec_nextRefer]
    exact pureRead_taken 0 [] _ s _ rfl (by rw [show (s.asking 0).refers = [] from hs]; rfl)
  · rw [exec_nextRefer]
    exact pureRead_taken 0 [] _ s _ rfl (by rw [show (s.asking 0).refers = r :: rest from hs]; rfl)
  · rw [dockImage_eq, bits_eight, mask_eq]
    refine congrArg₂ _ (congrArg₂ _ ?_ (congrArg _ ?_)) ?_
    · cases (s.dock d).occupancy <;> rfl
    · cases (s.dock d).bike <;> rfl
    · simp only [List.cons.injEq, and_true, true_and]
      refine ⟨?_, ?_, ?_, ?_, ?_, ?_, ?_, ?_, ?_, ?_, ?_⟩
      · cases (s.dock d).stampSeen <;> rfl
      · cases (s.dock d).lastCondition <;> rfl
      · cases (s.dock d).lastTap <;> rfl
      · cases (s.dock d).reservation <;> rfl
      · cases (s.dock d).reservation <;> rfl
      · cases (s.dock d).lamp <;> rfl
      · cases (s.dock d).flash <;> rfl
      · cases (s.dock d).flash <;> rfl
      · cases (s.link (dockNode d)).contact <;> rfl
      · cases (s.link (dockNode d)).preferred <;> rfl
      · cases s.hireable d <;> rfl

end Sys2Proof.Machine
end

section
/-! PROOFS. Hireable docks and the lamp: the conditions of R37, the cases of R38, and a selection with the SHOW that
it places (R37 to R39). -/

namespace Sys2Proof.Machine

open Sys2Proof

/-! ### Hireable (R37, R150) -/

theorem dockFaulty_eq_false_iff (s : State) (d : Dock) : s.dockFaulty d = false ↔
    ∀ r ∈ s.faults.records, r.subject = .dock d → r.state = .suspect := by
  simp [State.dockFaulty, dockFaultIn]

theorem dockFaultActive_iff (s : State) (d : Dock) : s.dockFaultActive d = true ↔
    ∃ r ∈ s.faults.records, r.subject = .dock d ∧ r.state = .active := by
  simp [State.dockFaultActive, dockFaultIn]

theorem bikeFaultActive_iff (s : State) (b : Bike) : s.bikeFaultActive b = true ↔
    ∃ r ∈ s.faults.records, r.subject = .bike b ∧ r.state = .active := by
  simp [State.bikeFaultActive]

theorem bikeFaultActive_eq_false_iff (s : State) (b : Bike) : s.bikeFaultActive b = false ↔
    ∀ r ∈ s.faults.records, r.subject = .bike b → r.state ≠ .active := by
  simp [State.bikeFaultActive]

theorem hireable_iff (s : State) (d : Dock) : s.hireable d = true ↔
    (s.link (dockNode d)).contact = .reachable ∧ (s.dock d).occupancy = .occupied ∧
    (∃ b, (s.dock d).bike = some b ∧ ∀ r ∈ s.faults.records, r.subject = .bike b → r.state ≠ .active) ∧
    (s.dock d).stampSeen = .none ∧ (s.dock d).unpriced = false ∧ s.closed d = false ∧
    (s.dock d).reservation = .none ∧
    (∀ r ∈ s.faults.records, r.subject = .dock d → r.state = .suspect) := by
  rw [← dockFaulty_eq_false_iff]
  simp only [← bikeFaultActive_eq_false_iff]
  unfold State.hireable State.contact
  cases hb : (s.dock d).bike with
  | none => simp [hb]
  | some b =>
    simp only [hb, Bool.and_eq_true, decide_eq_true_eq, Bool.not_eq_true', Option.some.injEq, exists_eq_left']
    tauto

/-! ### The cases of the lamp (R38) -/

section

variable {s : State} {d : Dock}

theorem lampFor_flash {f : RefusalFlash} (h : (s.dock d).flash = some f) : s.lampFor d = .redFlash f.code := by
  simp only [State.lampFor, h]

theorem lampFor_releasing (hf : (s.dock d).flash = none) (h : (s.dock d).occupancy = .releasing) :
    s.lampFor d = .greenBlink := by
  simp only [State.lampFor, hf, h, if_true]

theorem lampFor_refer (hf : (s.dock d).flash = none) (ho : (s.dock d).occupancy ≠ .releasing)
    (h : ∃ x ∈ s.refers, x.dock = d) : s.lampFor d = .amberBlink := by
  have hany : s.refers.any (fun x => decide (x.dock = d)) = true := by simpa using h
  simp only [State.lampFor, hf, ho, hany, if_true, if_false]

/-- Past the refusal, the release and the refer slots. -/
theorem lampFor_rest (hf : (s.dock d).flash = none) (ho : (s.dock d).occupancy ≠ .releasing)
    (h : ∀ x ∈ s.refers, x.dock ≠ d) : s.lampFor d =
      if s.contact d = .lost ∨ s.closed d = true ∨ s.dockFaultActive d = true then .red
      else if (s.dock d).reservation ≠ .none then .amber
      else if s.hireable d then .green else .off := by
  have hany : s.refers.any (fun x => decide (x.dock = d)) = false := by simpa using h
  simp only [State.lampFor, hf, ho, hany, if_false, Bool.false_eq_true]

end

/-! ### A selection (R39) -/

/-- The SHOW that a selection asks for. -/
def showRequest (d : Dock) (p : Lamp) : QueueEntry := request (dockNode d) .lampShow [byte p.code] .dockMonitor

theorem upd_of_eq {α : Type} {n : Nat} {v : Vector α n} {i : Fin n} {f : α → α} (h : f (v.get i) = v.get i) :
    upd v i f = v := vector_ext_get fun k => by
  rw [upd_get]
  split
  · subst_vars; exact h
  · rfl

theorem setDock_of_eq {s : State} {d : Dock} {f : DockRecord → DockRecord} (h : f (s.dock d) = s.dock d) :
    s.setDock d f = s := by
  unfold State.setDock
  rw [upd_of_eq h]

/-- The record takes the pattern, known to be shown where it was shown before. -/
theorem relit_eq (d : Dock) (s : State) : s.relit d = s.setDock d (fun r =>
    { r with lamp := s.lampFor d, lampShown := decide (s.lampFor d = r.lamp) && r.lampShown }) := by
  unfold State.relit
  split
  next h => exact (setDock_of_eq (by simp [h])).symm
  next h =>
    unfold State.setDock upd
    simp only [show s.docks.get d = s.dock d from rfl, h, decide_false, Bool.false_and]

theorem relit_lampShown (d : Dock) (s : State) : ((s.relit d).dock d).lampShown =
    (decide (s.lampFor d = (s.dock d).lamp) && (s.dock d).lampShown) := by
  rw [relit_eq, setDock_dock, if_pos rfl]

theorem relit_contact (d : Dock) (s : State) : (s.relit d).contact d = s.contact d := by
  rw [relit_eq]
  rfl

theorem selectLamp_lost {s : State} {d : Dock} (h : s.contact d = .lost) : selectLamp d s = s.relit d := by
  rw [selectLamp_eq, relit_contact, h]
  simp

theorem selectLamp_shown {s : State} {d : Dock} (hp : s.lampFor d = (s.dock d).lamp)
    (h : (s.dock d).lampShown = true) : selectLamp d s = s := by
  have hsame : s.relit d = s := if_pos hp
  rw [selectLamp_eq, hsame, h]
  simp

theorem selectLamp_shows {s : State} {d : Dock}
    (h : s.lampFor d ≠ (s.dock d).lamp ∨ (s.dock d).lampShown = false) (hc : s.contact d ≠ .lost) :
    selectLamp d s = takeNext (enqueue (showRequest d (s.lampFor d)) (s.relit d)) := by
  have hdark : ((s.relit d).dock d).lampShown = false := by
    rw [relit_lampShown]
    rcases h with h | h <;> simp [h]
  rw [selectLamp_eq, relit_contact, if_pos ⟨hdark, hc⟩]
  rfl

/-- The entry of a request's key, the only one of that key, takes the request in. -/
theorem map_merge_only {pre post : List QueueEntry} {e r : QueueEntry} (hkey : sameKey e r = true)
    (h : ∀ x ∈ pre ++ post, sameKey x r = false) :
    (pre ++ e :: post).map (fun x => if sameKey x r then mergeEntry x r else x) =
      pre ++ mergeEntry e r :: post := by
  have hid : ∀ l : List QueueEntry, (∀ x ∈ l, sameKey x r = false) →
      l.map (fun x => if sameKey x r then mergeEntry x r else x) = l := fun l hl =>
    (List.map_congr_left (g := id) fun x hx => by simp [hl x hx]).trans (List.map_id _)
  rw [List.map_append, List.map_cons, if_pos hkey, hid pre fun x hx => h x (List.mem_append_left _ hx),
    hid post fun x hx => h x (List.mem_append_right _ hx)]

/-- What a SHOW to a dock whose string is in use does to the queue (R18, R39). -/
theorem enqueue_show_joins {s : State} {d : Dock} {p : Lamp} (hroom : s.string.queue.length < 40)
    (h : ∀ q ∈ s.string.queue, q.target = .node (dockNode d) → q.verb ≠ .lampShow) :
    enqueue (showRequest d p) s = s.setQueue (s.string.queue ++ [showRequest d p]) :=
  enqueue_append (not_sameKey_of fun q hq hkey => h q hq hkey.1 hkey.2) hroom

theorem enqueue_show_merges {s : State} {d : Dock} {p : Lamp} {pre post : List QueueEntry} {e : QueueEntry}
    (hq : s.string.queue = pre ++ e :: post) (ht : e.target = .node (dockNode d)) (hv : e.verb = .lampShow)
    (h : ∀ q ∈ pre ++ post, q.target = .node (dockNode d) → q.verb ≠ .lampShow) :
    enqueue (showRequest d p) s = s.setQueue (pre ++ mergeEntry e (showRequest d p) :: post) := by
  have hkey : sameKey e (showRequest d p) = true := (sameKey_iff _ _).2 ⟨ht, hv⟩
  rw [enqueue_merge ⟨e, by simp [hq], hkey⟩, hq,
    map_merge_only hkey (not_sameKey_of fun q hq hkey => h q hq hkey.1 hkey.2)]

theorem relit_string (d : Dock) (s : State) : (s.relit d).string = s.string := by
  rw [relit_eq]
  rfl

/-- With the string in use a SHOW waits last in the queue, or in the place of the one queued for the dock. -/
theorem selectLamp_joins {s : State} {d : Dock}
    (h : s.lampFor d ≠ (s.dock d).lamp ∨ (s.dock d).lampShown = false) (hc : s.contact d ≠ .lost)
    (hflight : s.string.flight.isSome = true) (hroom : s.string.queue.length < 40)
    (hnew : ∀ q ∈ s.string.queue, q.target = .node (dockNode d) → q.verb ≠ .lampShow) :
    selectLamp d s = (s.relit d).setQueue (s.string.queue ++ [showRequest d (s.lampFor d)]) := by
  rw [← relit_string d s] at hflight hroom hnew
  rw [selectLamp_shows h hc, takeNext_in_use (by rw [enqueue_flight]; exact hflight), enqueue_show_joins hroom hnew,
    relit_string]

theorem selectLamp_merges {s : State} {d : Dock}
    (h : s.lampFor d ≠ (s.dock d).lamp ∨ (s.dock d).lampShown = false) (hc : s.contact d ≠ .lost)
    (hflight : s.string.flight.isSome = true) {pre post : List QueueEntry} {e : QueueEntry}
    (hq : s.string.queue = pre ++ e :: post) (ht : e.target = .node (dockNode d)) (hv : e.verb = .lampShow)
    (hothers : ∀ q ∈ pre ++ post, q.target = .node (dockNode d) → q.verb ≠ .lampShow) :
    selectLamp d s = (s.relit d).setQueue (pre ++ mergeEntry e (showRequest d (s.lampFor d)) :: post) := by
  rw [← relit_string d s] at hflight hq
  rw [selectLamp_shows h hc, takeNext_in_use (by rw [enqueue_flight]; exact hflight),
    enqueue_show_merges hq ht hv hothers]

end Sys2Proof.Machine
end

section
/-! PROOFS. What a call to a dock hands over: the state in which its outcome reaches the blocks that asked, whatever
room the fault table has (R14, R15, R17, R36, R140). -/

namespace Sys2Proof.Machine

open Sys2Proof

/-! ### The reports of a call, with or without room (R17, step 5) -/

theorem selectLampsOfBike_selects (b : Bike) (s : State) : s.selects (selectLampsOfBike b s) :=
  closed_selectLampsOfBike (selects_closed s) b s ⟨_, _, _, _, _, rfl⟩

theorem tellChange_none_tells (x : Subject) (s : State) : s.tells (tellChange x none s) := by
  cases x with
  | dock d =>
    exact tells_trans (selects_tells (selectLamp_selects d s)) (u := (selectLamp d s).noteManifest) ⟨_, _, _, _, rfl⟩
  | bike b =>
    exact tells_trans (selects_tells (selectLampsOfBike_selects b s)) (u := (selectLampsOfBike b s).noteManifest)
      ⟨_, _, _, _, rfl⟩
  | segment _ | terminal => exact tells_refl s

/-- What retiring a record writes besides what is told: the table, and the mask of a stuck button (R135, R141). -/
def State.withoutFault (r : FaultRecord) (s : State) : State :=
  match r.subject with
  | .dock d =>
    if r.kind = .buttonStuck then
      (s.filterFaults (fun x => decide (x.slot ≠ r.slot))).setLink (dockNode d)
        (fun l => { l with buttonMask := false })
    else s.filterFaults (fun x => decide (x.slot ≠ r.slot))
  | .bike _ | .segment _ | .terminal => s.filterFaults (fun x => decide (x.slot ≠ r.slot))

theorem removeFault_eq (r : FaultRecord) (s : State) :
    removeFault r s = tellChange r.subject none (s.withoutFault r) := by
  unfold removeFault State.withoutFault
  cases r.subject <;> rfl

theorem withoutFault_tells (r : FaultRecord) (s : State) : s.tells (s.withoutFault r) := by
  unfold State.withoutFault
  repeat' split
  all_goals exact ⟨_, _, _, _, rfl⟩

theorem removeFault_tells (r : FaultRecord) (s : State) : s.tells (removeFault r s) := by
  rw [removeFault_eq]
  exact tells_trans (withoutFault_tells r s) (tellChange_none_tells _ _)

theorem makeRoom_tells {s t : State} (h : makeRoom s = some t) : s.tells t := by
  unfold makeRoom at h
  repeat' split at h
  · exact Option.some.inj h ▸ tells_refl s
  · exact Option.some.inj h ▸ removeFault_tells _ s
  · cases h

theorem addFault_tells (r : FaultRecord) (s : State) : s.tells (s.addFault r) :=
  ⟨_, _, _, _, addFault_only s r⟩

section

variable {x : Subject} {k : FaultKind}

theorem createActive_condition_tells (h : LineCondition x k) (s : State) : s.tells (createActive x k [] s) := by
  unfold createActive
  split
  next t ht =>
    have hraise : createActiveIn x k [] t = tellChange x none (t.addFault (newFault t x k .active 0 [])) := by
      simp only [createActiveIn, gainedCoil_condition h (r := newFault t x k .active 0 []) rfl,
        activeEffects_condition h]
    rw [hraise]
    exact tells_trans (makeRoom_tells ht) (tells_trans (addFault_tells _ t) (tellChange_none_tells x _))
  next => exact ⟨_, _, _, _, rfl⟩

theorem conditionFault_tells (h : LineCondition x k) (holds : Bool) (s : State) :
    s.tells (conditionFault x k holds s) := by
  unfold conditionFault
  split
  · exact createActive_condition_tells h s
  · exact tells_trans (t := s.setFaultFull false) ⟨_, _, _, _, rfl⟩ (removeFault_tells _ _)
  · exact tells_refl s
  · exact tells_refl s

end

theorem reportContact_tells (c : Call) (s : State) : s.tells (reportContact c s) := by
  unfold reportContact
  split
  · exact conditionFault_tells (nodeSubject_condition _) _ s
  · split
    · exact conditionFault_tells (nodeSubject_condition _) _ s
    · exact tells_refl s

theorem reportSplits_tells : ∀ (l : List (Fin 30 × Bool)) (s : State), s.tells (reportSplits l s)
  | [], s => tells_refl s
  | x :: l, s => tells_trans (conditionFault_tells (segment_condition x.1) x.2 s) (reportSplits_tells l _)

theorem handed_tells_always (c : Call) (result : Option Answer) (s : State) : s.tells (handed c result s) := by
  obtain ⟨hbutton, -⟩ := releaseButton_keeps c result (sendReports c s)
  refine tells_trans ?_ hbutton
  rw [sendReports_reported]
  exact tells_trans (tells_trans (reportContact_tells c s) (reportSplits_tells c.splits _))
    (reportDockContact_tells c _ _).1

/-! ### The dock records when the outcome is handed over -/

theorem addFault_length_le (r : FaultRecord) (s : State) :
    (s.addFault r).faults.records.length ≤ s.faults.records.length + 1 := by
  unfold State.addFault
  repeat' split
  · exact Nat.le_succ _
  · exact (length_insertFault _ _).le
  · exact Nat.le_succ _

/-- A LINE_SPLIT that is told leaves the dock records where a slot is free (R140). -/
theorem segment_told_docks {s : State} (k : Fin 30) (holds : Bool) (hroom : s.faults.records.length < 32) :
    (conditionFault (.segment k) .lineSplit holds s).docks = s.docks ∧
    (conditionFault (.segment k) .lineSplit holds s).faults.records.length ≤ s.faults.records.length + 1 := by
  unfold conditionFault
  split
  · have hraise : createActive (.segment k) .lineSplit [] s =
        s.addFault (newFault s (.segment k) .lineSplit .active 0 []) := by
      simp only [createActive, makeRoom, freeFaultSlot_isSome hroom, if_true]
      rfl
    rw [hraise]
    exact ⟨addFault_docks s _, addFault_length_le _ s⟩
  next r hr =>
    obtain ⟨-, hsubject, -⟩ := mem_of_findFault hr
    have hretire : retireFault r s = (s.setFaultFull false).filterFaults (fun x => decide (x.slot ≠ r.slot)) := by
      rw [retireFault, removeFault_eq]
      simp only [State.withoutFault, hsubject, tellChange]
    rw [hretire]
    exact ⟨rfl, (List.length_filter_le _ _).trans (Nat.le_succ _)⟩
  · exact ⟨rfl, Nat.le_succ _⟩
  · exact ⟨rfl, Nat.le_succ _⟩

theorem reportSplits_docks : ∀ (l : List (Fin 30 × Bool)) {s : State},
    s.faults.records.length + l.length ≤ 32 → (reportSplits l s).docks = s.docks
  | [], _, _ => rfl
  | x :: l, s, hroom => by
    rw [List.length_cons] at hroom
    obtain ⟨hdocks, hsize⟩ := segment_told_docks (s := s) x.1 x.2 (by omega)
    have hrest : (conditionFault (.segment x.1) .lineSplit x.2 s).faults.records.length + l.length ≤ 32 := by omega
    exact (reportSplits_docks l hrest).trans hdocks

/-- A call whose contact state is as at the take leaves the dock records, with slots free for its splits. -/
theorem handed_docks {s : State} {c : Call} (result : Option Answer)
    (hsame : (s.link c.node).contact = c.contactAtTake)
    (hroom : s.faults.records.length + c.splits.length ≤ 32) : (handed c result s).docks = s.docks := by
  obtain ⟨-, -, hbutton, -⟩ := releaseButton_keeps c result (sendReports c s)
  have hreported : reported c s = reportSplits c.splits s := by
    rw [reported, reportContact_same (by rw [hsame])]
  have hdock : ∀ t, reportDockContact c (s.link c.node).contact t = t := fun t => by
    unfold reportDockContact
    simp only [hsame, if_true]
    split <;> rfl
  rw [handed, hbutton, sendReports_reported, hdock, hreported, reportSplits_docks _ hroom]

/-- A dock record without what the handing over of an outcome may give it: a resynchronization that is due. -/
def DockRecord.unresynced (r : DockRecord) : DockRecord := ({ r with resyncDue := false } : DockRecord).known

theorem unresynced_of_known {a b : DockRecord} (h : a.known = b.known) : a.unresynced = b.unresynced :=
  congrArg (fun r : DockRecord => { r with resyncDue := false }) h

theorem reportDockContact_known {c : Call} {next : Contact} (h : next ≠ .lost) (s : State) (e : Dock) :
    ((reportDockContact c next s).dock e).known = (s.dock e).known := by
  unfold reportDockContact
  split
  · split
    · rfl
    · exact closed_tellContact (known_closed e _) _ (closed_selectLamp (known_closed e _).toLampClosed _ _ rfl)
  · rfl

theorem reportDockContact_unresynced (c : Call) (next : Contact) (s : State) (e : Dock) :
    ((reportDockContact c next s).dock e).unresynced = (s.dock e).unresynced := by
  by_cases h : next = .lost
  · unfold reportDockContact
    split
    · split
      · rfl
      · rename_i d _ _
        have hset : ((s.setDock d (fun r => { r with resyncDue := true })).dock e).unresynced =
            (s.dock e).unresynced := by
          rw [setDock_dock]
          split
          · subst_vars; rfl
          · rfl
        rw [← hset]
        exact unresynced_of_known (closed_tellContact (known_closed e _) _
          (closed_selectLamp (known_closed e _).toLampClosed _ _ rfl))
    · rfl
  · exact unresynced_of_known (reportDockContact_known h s e)

theorem handed_unresynced (c : Call) (result : Option Answer) (s : State) (e : Dock) :
    ((handed c result s).dock e).unresynced = (s.dock e).unresynced := by
  obtain ⟨-, -, hbutton, -⟩ := releaseButton_keeps c result (sendReports c s)
  rw [handed, dock_of_docks hbutton, sendReports_reported, reportDockContact_unresynced,
    unresynced_of_known (reported_known c s e)]

theorem handed_known {c : Call} {s : State} (result : Option Answer) (h : (s.link c.node).contact ≠ .lost)
    (e : Dock) : ((handed c result s).dock e).known = (s.dock e).known := by
  obtain ⟨-, -, hbutton, -⟩ := releaseButton_keeps c result (sendReports c s)
  rw [handed, dock_of_docks hbutton, sendReports_reported, reportDockContact_known h, reported_known]

/-! ### The state in which the outcome of a call is handed over -/

/-- The state `v` in which the outcome of the call `c` of `s` is handed over, its contact state being `next`: the
string, the docks, the faults and the agenda may have changed, the dock records only as O47 and O51 say. -/
structure HandsOver (s : State) (c : Call) (next : Contact) (v : State) : Prop where
  frame : s.tells v
  flight : v.string.flight.isSome = true
  unresynced : ∀ e, (v.dock e).unresynced = (s.dock e).unresynced
  known : next ≠ .lost → ∀ e, (v.dock e).known = (s.dock e).known
  docks : c.contactAtTake = next → s.faults.records.length + c.splits.length ≤ 29 → v.docks = s.docks

theorem frame_of_tells {s t : State} (h : s.tells t) :
    t = { s with string := t.string, docks := t.docks, faults := t.faults, agenda := t.agenda } := by
  obtain ⟨_, _, _, _, h⟩ := h
  rw [h]

section

variable {s u : State} {c c' : Call} {r : Reach} {next : Contact}

theorem handsOver_of_completes (result : Option Answer) (h : Completes s c r u c')
    (hflight : s.string.flight = some (.call c)) (hnext : (u.link c.node).contact = next) :
    HandsOver s c next (handed c' result u) := by
  obtain ⟨htells, hfaults, hdocks, hflight', -⟩ := judged_tells h.judged
  have hlen := splitChanges_length c r s
  refine ⟨tells_trans htells (handed_tells_always c' result u), ?_, fun e => ?_, fun hne e => ?_,
    fun hsame hroom => ?_⟩
  · rw [handed_flight result (hflight'.trans hflight)]
    rfl
  · rw [handed_unresynced, dock_of_docks hdocks]
  · rw [handed_known result (by rwa [h.node, hnext]), dock_of_docks hdocks]
  · refine (handed_docks result (by rw [h.node, hnext, h.take, hsame]) ?_).trans hdocks
    rw [hfaults, h.splits, List.length_append]
    omega

/-- A dock's answer as it is handed over in the state `v`: the button held at `held` is added to its condition
character, and the mask in force applied (R14, R15). -/
def State.handedAnswer (v : State) (n : Node) (held : Bool) (a : Answer) : Answer :=
  { a with condition := ({ v.link n with heldButton := held } : LinkRecord).handOver a.condition }

/-- The mark that a call to a dock without contact at its take puts on its answer (R32). -/
def Call.marked (c : Call) : Bool := decide (c.contactAtTake = .unknown ∨ c.contactAtTake = .lost)

/-- A GOOD call to a dock hands its answer over with the held button added and the mask applied. -/
theorem completeCall_good {d : Dock} (hd : c.node = dockNode d) (a : Answer) (s : State) :
    completeCall c (some a) s = freeString (handOutcome (dockNode d) c.entry
      (some ((handed c (some a) s).handedAnswer (dockNode d) (s.link (dockNode d)).heldButton a)) c.marked
      (handed c (some a) s)) := by
  have hdock : nodeDock c.node = some d := by rw [hd, nodeDock_dockNode]
  have hheld : ((sendReports c s).link c.node).heldButton = (s.link c.node).heldButton :=
    sendReports_heldButton c s c.node
  have hlink : ({ (handed c (some a) s).link c.node with heldButton := (s.link c.node).heldButton } : LinkRecord) =
      (sendReports c s).link c.node := by
    rw [handed, releaseButton, if_pos ⟨rfl, by rw [hdock]; rfl⟩, setLink_link, if_pos rfl, ← hheld]
  rw [← hd, State.handedAnswer, hlink, handed, releaseButton, if_pos ⟨rfl, by rw [hdock]; rfl⟩, Call.marked,
    Bool.decide_or]
  simp only [completeCall, handOn, hdock, Option.isNone_some, Bool.false_eq_true, if_false]

theorem completeCall_failed (c : Call) (s : State) :
    completeCall c none s = freeString (handOutcome c.node c.entry none c.marked (handed c none s)) := by
  have hsame : handed c none s = sendReports c s := rfl
  rw [hsame, Call.marked, Bool.decide_or]
  rfl

/-! ### How a call to a dock hands its outcome over (R8, R11, R13) -/

theorem ended_heldButton {g : LinkRecord → LinkRecord} {b : Bool}
    (hg : (g ((s.link c.node).setReach c.on r)).heldButton = b) {d : Dock} (hd : c.node = dockNode d) :
    ((s.ended c r g).link (dockNode d)).heldButton = b := by
  rw [← hd, ended_link, hg]

variable {d : Dock}

/-- A GOOD ordinary call without a cross attempt. -/
theorem good_call_hands_over (hflight : s.string.flight = some (.call c)) (hcross : c.crossOf = none)
    (hmark : c.entry.verb ≠ .survey ∨ c.entry.cross = false) (hd : c.node = dockNode d) (a : Answer) :
    ∃ v, attemptEnd (.good a) c s = freeString (handOutcome (dockNode d) c.entry
        (some (v.handedAnswer (dockNode d) (s.link (dockNode d)).heldButton a)) c.marked v) ∧
      HandsOver s c .reachable v := by
  obtain ⟨-, -, -, hheld⟩ := setReach_fields (s.link c.node) c.on .yes
  have hlink : ((s.ended c .yes (c.linkAfter true)).link (dockNode d)).heldButton = (s.link (dockNode d)).heldButton :=
    ended_heldButton (by rw [linkAfter_good, ← hd]; exact hheld) hd
  rw [good_ordinary_ends hcross hmark, completeCall_good (c := c.noting .yes s) hd, hlink]
  exact ⟨_, rfl, handsOver_of_completes (some a) ⟨ended_judged c .yes _ s, rfl, rfl, rfl⟩ hflight
    (by rw [ended_link, linkAfter_good])⟩

/-- A failed ordinary call without a cross attempt. -/
theorem failed_call_hands_over (hflight : s.string.flight = some (.call c)) (hcross : c.crossOf = none)
    (hlast : 1 + c.retries ≤ c.ended + 1) (hmark : c.entry.verb ≠ .survey) {o : AttemptOutcome} (ho : o.failed) :
    ∃ v, attemptEnd o c s = freeString (handOutcome c.node c.entry none c.marked v) ∧
      HandsOver s c (contactAfterFailure (s.link c.node)) v := by
  rw [failed_ordinary_ends hcross hlast (.inl hmark) ho, completeCall_failed]
  exact ⟨_, rfl, handsOver_of_completes none ⟨ended_judged c o.reach _ s, rfl, rfl, rfl⟩ hflight
    (by rw [ended_link, linkAfter_failed_reached])⟩

/-- A cross attempt after a GOOD ordinary call: the answer of the ordinary call is handed over (R13, R14). -/
theorem cross_hands_over {a : Answer} (hflight : s.string.flight = some (.call c))
    (hcross : c.crossOf = some (some a)) (hd : c.node = dockNode d) (o : AttemptOutcome) :
    ∃ v, attemptEnd o c s = freeString (handOutcome (dockNode d) c.entry
        (some (v.handedAnswer (dockNode d) (c.linkAfterCross o (s.link (dockNode d))).heldButton a)) c.marked v) ∧
      HandsOver s c (s.link (dockNode d)).contact v := by
  obtain ⟨-, hcontact, -, hheld⟩ := setReach_fields (s.link c.node) c.on o.reach
  obtain ⟨-, hcontact', -⟩ := linkAfterCross_fields c o ((s.link c.node).setReach c.on o.reach)
  have hlink : ((s.ended c o.reach (c.linkAfterCross o)).link (dockNode d)).heldButton =
      (c.linkAfterCross o (s.link (dockNode d))).heldButton :=
    ended_heldButton (by
      rw [← hd]
      cases o with
      | good b => exact congrArg (· || ((nodeDock c.node).isSome && hasButton b.condition)) hheld
      | silent | garbled | mismatch => exact hheld) hd
  rw [attemptEnd_cross_completes hcross, completeCall_good (c := c.noting o.reach s) hd, hlink]
  exact ⟨_, rfl, handsOver_of_completes (some a) ⟨ended_judged c o.reach _ s, rfl, rfl, rfl⟩ hflight
    (by rw [ended_link, hcontact', hcontact, hd])⟩

end

/-! ### Taking an outcome in (R17, step 6) -/

/-- An outcome that one block asked for goes to it alone, a dock's button first (R18, R29). -/
theorem handOutcome_good {d : Dock} {e : QueueEntry} {o : Originator} (h : e.originators = [o])
    (hverb : e.verb ≠ .survey) (a : Answer) (mark : Bool) (s : State) :
    handOutcome (dockNode d) e (some a) mark s =
      dockOutcome d e (some a) mark o (noteButton d a.condition s) := by
  simp only [handOutcome, nodeDock_dockNode, h, hverb, if_false, List.foldl_cons, List.foldl_nil]

theorem handOutcome_survey {d : Dock} {e : QueueEntry} {o : Originator} (h : e.originators = [o])
    (hverb : e.verb = .survey) (a : Answer) (mark : Bool) (s : State) :
    handOutcome (dockNode d) e (some a) mark s = surveyAnswer d a.condition mark s := by
  simp only [handOutcome, nodeDock_dockNode, h, hverb, if_true, List.foldl_cons, List.foldl_nil, dockOutcome]

theorem handOutcome_failed {d : Dock} {e : QueueEntry} {o : Originator} (h : e.originators = [o]) (mark : Bool)
    (s : State) : handOutcome (dockNode d) e none mark s = dockOutcome d e none mark o s := by
  simp only [handOutcome, nodeDock_dockNode, h, List.foldl_cons, List.foldl_nil]

theorem noteButton_eq (d : Dock) (x : Byte) (s : State) : noteButton d x s =
    s.setDock d (fun r => { r with heldButton := r.heldButton || x.getLsbD 4 }) := by
  have hbit : x.getLsbD 4 = hasButton x := rfl
  unfold noteButton
  cases h : hasButton x with
  | false => exact (setDock_of_eq (by rw [hbit, h, Bool.or_false])).symm
  | true => simp only [hbit, h, Bool.or_true, if_true]

theorem noteButton_dock (d e : Dock) (x : Byte) (s : State) : (noteButton d x s).dock e =
    if d = e then { s.dock d with heldButton := (s.dock d).heldButton || x.getLsbD 4 } else s.dock e := by
  rw [noteButton_eq, setDock_dock]

theorem noteButton_other {d e : Dock} (h : e ≠ d) (x : Byte) (s : State) :
    (noteButton d x s).dock e = s.dock e := by
  rw [noteButton_dock, if_neg (Ne.symm h)]

/-- A dock record but for a held button and a resynchronization that is due, of which an answer in hand says
nothing. -/
def DockRecord.told (r : DockRecord) : DockRecord :=
  ({ r with heldButton := false, resyncDue := false } : DockRecord).known

theorem told_of_unresynced {a b : DockRecord} (h : a.unresynced = b.unresynced) : a.told = b.told :=
  congrArg (fun r : DockRecord => { r with heldButton := false }) h

/-- The state in which an outcome is taken in after the dock's button has been noted. -/
theorem handsOver_noteButton {s v : State} {c : Call} {next : Contact} (h : HandsOver s c next v) (d : Dock)
    (x : Byte) : s.tells (noteButton d x v) ∧ (noteButton d x v).string.flight.isSome = true ∧
      (∀ e, ((noteButton d x v).dock e).told = (s.dock e).told) ∧
      (c.contactAtTake = next → s.faults.records.length + c.splits.length ≤ 29 → ∀ e,
        (noteButton d x v).dock e = { s.dock e with heldButton := ((noteButton d x v).dock e).heldButton }) := by
  have hdock : ∀ e, (noteButton d x v).dock e =
      { v.dock e with heldButton := ((noteButton d x v).dock e).heldButton } := fun e => by
    rw [noteButton_dock]
    split
    · subst_vars; rfl
    · rfl
  refine ⟨?_, ?_, fun e => ?_, fun hsame hroom e => ?_⟩
  · rw [noteButton_eq]
    exact tells_trans h.frame ⟨_, _, _, _, rfl⟩
  · rw [noteButton_eq]
    exact h.flight
  · rw [hdock, ← told_of_unresynced (h.unresynced e)]
    rfl
  · rw [← dock_of_docks (h.docks hsame hroom) e]
    exact hdock e

end Sys2Proof.Machine
end

section
/-! PROOFS. The statement on hireable docks and lamps (R37 to R39). -/

namespace Sys2Proof.Machine

open Sys2Proof

theorem dockOutcome_show {e : QueueEntry} (h : e.verb = .lampShow) (d : Dock) (answer : Option Answer) (mark : Bool)
    (o : Originator) (s : State) : dockOutcome d e answer mark o s = showEnd d e.args answer.isSome s := by
  simp only [dockOutcome, h]

theorem exec_good_call {s : State} {c : Call} {d : Dock} {o : Originator} {got : List Byte} {data : Byte}
    (hflight : s.string.flight = some (.call c)) (hcross : c.crossOf = none) (hd : c.node = dockNode d)
    (ho : c.entry.originators = [o]) (hverb : c.entry.verb ≠ .survey) (hdata : c.entry.verb.answerData = 0)
    (hphase : c.phase = .answering got) (hlen : got.length = 2) (hsum : sum8 (got ++ [data]) = 0) : ∃ v x a,
      exec (.stringCharacterReceived c.on data false) s =
        .next (finishEvent (freeString (dockOutcome d c.entry (some a) c.marked o (noteButton d x v)))) ∧
      HandsOver s c .reachable v := by
  have hgot : got ≠ [] := List.ne_nil_of_length_pos (by omega)
  obtain ⟨v, hend, hover⟩ := good_call_hands_over hflight hcross (.inl hverb) hd (c.answer got data)
  rw [handOutcome_good ho hverb] at hend
  exact ⟨v, _, _, hend ▸ exec_good_answer hflight hphase (.inl hgot) (by rw [hlen, hdata]) hsum, hover⟩

theorem exec_failed_call {s : State} {c : Call} {d : Dock} {o : Originator}
    (hflight : s.string.flight = some (.call c)) (hcross : c.crossOf = none) (hd : c.node = dockNode d)
    (ho : c.entry.originators = [o]) (hverb : c.entry.verb ≠ .survey) (hlast : 1 + c.retries ≤ c.ended + 1) :
    ∃ v, exec .answerWindowExpiry s =
        .next (finishEvent (freeString (dockOutcome d c.entry none c.marked o v))) ∧
      HandsOver s c (contactAfterFailure (s.link c.node)) v := by
  obtain ⟨v, hend, hover⟩ := failed_call_hands_over hflight hcross hlast hverb (expired_failed c.phase)
  rw [hd, handOutcome_failed ho] at hend
  exact ⟨v, hend ▸ exec_window_call hflight, hover⟩

/-- Settles O47: `hireable_iff`, the cases of `lampFor`, the three ways of a selection, and the end of a SHOW. -/
theorem hireableAndLamp : Obligations.HireableAndLamp := by
  unfold Obligations.HireableAndLamp
  refine ⟨fun s d => ⟨hireable_iff s d, fun f => lampFor_flash, fun hf => ⟨lampFor_releasing hf, fun ho =>
      ⟨lampFor_refer hf ho, fun hr => ⟨fun hred => ?_, fun hred => ⟨fun hres => ?_, fun hres => ⟨fun hh => ?_,
        fun hh => ?_⟩⟩⟩⟩⟩, rfl⟩,
    fun s d => ⟨selectLamp_shown, fun hlost => ?_, fun hp hc => ⟨?_, fun hf => ⟨fun hroom hnew => ?_,
      fun pre e post hq ht hv hothers => ?_⟩⟩⟩, ?_⟩
  · rw [lampFor_rest hf ho hr, if_pos (by rw [dockFaultActive_iff]; exact hred)]
  · rw [lampFor_rest hf ho hr, if_neg (by rw [dockFaultActive_iff]; exact hred), if_pos hres]
  · rw [lampFor_rest hf ho hr, if_neg (by rw [dockFaultActive_iff]; exact hred), if_neg (by simpa using hres),
      if_pos hh]
  · rw [lampFor_rest hf ho hr, if_neg (by rw [dockFaultActive_iff]; exact hred), if_neg (by simpa using hres),
      if_neg (by simp [hh])]
  · rw [selectLamp_lost hlost, relit_eq]
    rfl
  · rw [selectLamp_shows hp hc, relit_eq]
    rfl
  · rw [selectLamp_joins hp hc hf hroom hnew, relit_eq]
    rfl
  · rw [selectLamp_merges hp hc hf hq ht hv hothers, relit_eq]
    exact ⟨_, rfl, rfl, hv, rfl⟩
  · intro s c d hflight hcross hd ht ho hv shown kept
    have hverb : c.entry.verb ≠ .survey := by rw [hv]; decide
    refine ⟨fun got data hphase hlen hsum => ?_, fun hlast => ?_⟩
    · obtain ⟨v, x, a, hexec, hover⟩ :=
        exec_good_call hflight hcross hd ho hverb (by rw [hv]; rfl) hphase hlen hsum
      obtain ⟨hframe, hfree, htold, hkept⟩ := handsOver_noteButton hover d x
      refine ⟨noteButton d x v, ?_, frame_of_tells hframe, hfree, hkept, htold⟩
      rw [hexec, dockOutcome_show hv]
      rfl
    · obtain ⟨v, hexec, hover⟩ := exec_failed_call hflight hcross hd ho hverb hlast
      refine ⟨v, ?_, frame_of_tells hover.frame, hover.flight, fun hsame hroom e => ?_,
        fun e => told_of_unresynced (hover.unresynced e)⟩
      · rw [hexec, dockOutcome_show hv]
        rfl
      · rw [dock_of_docks (hover.docks hsame hroom)]

end Sys2Proof.Machine
end

section
/-! PROOFS. What the blocks behind a dock's answer can do, said once for each: the Manifest Unit's work, the ends of
releases and trips, and the Fault Table's work at a dock and at a bicycle (R75, R77, R135 to R145, R164). -/

namespace Sys2Proof.Machine

open Sys2Proof

variable {P : State → Prop}

/-! ### The Manifest Unit's work (chapter 9) -/

/-- What placing moves, giving docks up and the end of a manifest can do: select lamps, change the buffers but not
van_unstamp, drop crew requests, and leave notes to the event's end. -/
structure ManifestClosed (P : State → Prop) : Prop extends LampClosed P where
  setManifest : ∀ (f : ManifestUnit → ManifestUnit) (s : State), (∀ m, (f m).vanUnstamp = m.vanUnstamp) → P s →
    P (s.setManifest f)
  noteManifest : ∀ s : State, P s → P s.noteManifest
  noteFollowOn : ∀ s : State, P s → P s.noteFollowOn
  filterHire : ∀ (p : HireRequest → Bool) (s : State), P s → P (s.filterHire p)

section

variable (h : ManifestClosed P)
include h

theorem managed_setMove (i : Nat) (f : Move → Move) (s : State) (hs : P s) : P (s.setMove i f) :=
  h.setManifest _ s (fun _ => rfl) hs

theorem managed_takeDock (i : Nat) (k : MoveKind) (found : Option Dock) (s : State) (hs : P s) :
    P (takeDock i k found s) := by
  unfold takeDock
  split
  · exact closed_setReservation h.toLampClosed _ _ _ (managed_setMove h _ _ s hs)
  · exact managed_setMove h _ _ s hs

theorem managed_placeMove (i : Nat) (s : State) (hs : P s) : P (placeMove i s) := by
  unfold placeMove
  split
  · exact managed_takeDock h _ _ _ s hs
  · exact hs

theorem managed_giveUp (i : Nat) (s : State) (hs : P s) : P (giveUp i s) := by
  have hmoved : ∀ f, P (s.setMove i f).noteManifest := fun f => h.noteManifest _ (managed_setMove h i f s hs)
  unfold giveUp
  dsimp only
  repeat' split
  · exact closed_setReservation h.toLampClosed _ _ _ (hmoved _)
  · exact hmoved _
  · exact hs
  · exact hs

theorem managed_migrate (i : Nat) (s : State) (hs : P s) : P (migrate i s) :=
  managed_takeDock h _ _ _ _ (managed_setMove h _ _ s hs)

theorem managed_shorten (i : Nat) (s : State) (hs : P s) : P (shorten i s) :=
  managed_setMove h _ _ _ (managed_giveUp h i s hs)

omit h in
theorem managed_onMove {f : Nat → State → State} (hf : ∀ i s, P s → P (f i s)) (p : Move → Bool) (s : State)
    (hs : P s) : P (onMove p f s) := by
  unfold onMove
  split
  · exact hf _ s hs
  · exact hs

theorem managed_tellOccupancy (d : Dock) (s : State) (hs : P s) : P (tellOccupancy d s) := by
  unfold tellOccupancy
  dsimp only
  split
  · exact managed_onMove (managed_shorten h) _ _ (managed_onMove (managed_migrate h) _ _ (h.noteManifest s hs))
  · exact h.noteManifest s hs

theorem managed_tellBikeNumber (d : Dock) (s : State) (hs : P s) : P (tellBikeNumber d s) := by
  unfold tellBikeNumber
  dsimp only
  split
  · exact managed_onMove (managed_migrate h) _ _ (managed_onMove (managed_shorten h) _ _ (h.noteManifest s hs))
  · exact h.noteManifest s hs

theorem managed_tellArrival (d : Dock) (s : State) (hs : P s) : P (tellArrival d s) := by
  unfold tellArrival
  split
  · exact managed_setMove h _ _ _ (managed_giveUp h _ s hs)
  · exact hs
  · exact hs

theorem managed_tellFault (gained : Option Dock) (s : State) (hs : P s) : P (tellFault gained s) := by
  unfold tellFault
  dsimp only
  repeat' split
  · exact managed_onMove (managed_shorten h) _ _
      (managed_onMove (fun i s hs => managed_migrate h i _ (managed_giveUp h i s hs)) _ _ (h.noteManifest s hs))
  · exact h.noteManifest s hs
  · exact h.noteManifest s hs

theorem managed_tellChange (x : Subject) (gained : Option Dock) (s : State) (hs : P s) :
    P (tellChange x gained s) := by
  unfold tellChange
  split
  · exact managed_tellFault h _ _ (closed_selectLamp h.toLampClosed _ s hs)
  · exact managed_tellFault h _ _ (closed_selectLampsOfBike h.toLampClosed _ s hs)
  · exact hs
  · exact hs

theorem managed_activate (g : StagedManifest) (s : State) (hs : P s) : P (activate g s) := by
  unfold activate
  dsimp only
  refine closed_foldl (fun s i hs => managed_placeMove h i s hs) _ _ ?_
  refine h.setManifest _ s ?_ hs
  intro m
  rfl

theorem managed_followOn (s : State) (hs : P s) : P (followOn s) := by
  unfold followOn
  repeat' split
  · exact managed_activate h _ s hs
  · exact hs
  · exact hs

theorem managed_dropReservations (s : State) (hs : P s) : P (dropReservations s) := by
  refine closed_foldl (fun s d hs => ?_) _ s hs
  split
  · exact hs
  · exact closed_setReservation h.toLampClosed d _ s hs

theorem managed_endManifest (o : ManifestOutcome) (s : State) (hs : P s) : P (endManifest o s) := by
  unfold endManifest
  dsimp only
  exact managed_followOn h _ (h.filterHire _ _ (managed_dropReservations h _ (h.setManifest _ s (fun _ => rfl) hs)))

theorem managed_doneMove (i : Nat) (d : Dock) (b : Bike) (late : Bool) (s : State) (hs : P s) :
    P (doneMove i d b late s) := by
  have hmoved : ∀ f, P ((giveUp i s).setMove i f) := fun f => managed_setMove h i f _ (managed_giveUp h i s hs)
  have hreloaded : ∀ f, P (((giveUp i s).setMove i f).setManifest (fun m => { m with counter := m.reload })) :=
    fun f => h.setManifest _ _ (fun _ => rfl) (hmoved f)
  unfold doneMove
  dsimp only
  repeat' split
  · exact managed_endManifest h _ _ (hreloaded _)
  · exact hreloaded _
  · exact hmoved _

theorem managed_reportMove (i : Nat) (r : CrewReport) (d : Dock) (b : Bike) (m : Move) (s : State) (hs : P s) :
    P (reportMove i r d b m s) := by
  cases r with
  | dropped => exact hs
  | granted | returned => exact managed_setMove h i _ s hs
  | taken late => exact managed_doneMove h i d b late s hs
  | takenAfterCancel =>
    simp only [reportMove]
    split
    · exact managed_doneMove h i d b true s hs
    · exact hs

theorem managed_crewReport (n i : Nat) (r : CrewReport) (d : Dock) (b : Bike) (s : State) (hs : P s) :
    P (crewReport n i r d b s) := by
  unfold crewReport
  dsimp only
  repeat' split
  · exact hs
  · exact hs
  · exact hs
  · exact h.noteFollowOn _ (managed_reportMove h _ _ _ _ _ s hs)
  · exact managed_reportMove h _ _ _ _ _ s hs

theorem managed_matchDrop (d : Dock) (b : Bike) (s : State) (hs : P s) : P (matchDrop d b s) := by
  unfold matchDrop
  repeat' split
  · exact hs
  · exact managed_doneMove h _ d b _ s hs
  · exact managed_doneMove h _ d b _ s hs
  · exact hs

end

/-! ### Releases and trips that end (chapters 3 to 5) -/

/-- What the departure of a bicycle, the end of a release and the watch after REINIT can do, outside the Fault Table:
cards, trip records and the contexts of releases change. -/
structure TripClosed (P : State → Prop) : Prop extends ManifestClosed P where
  setCard : ∀ (c : CardNo) (f : CardEntry → CardEntry) (s : State), P s → P (s.setCard c f)
  setTrip : ∀ (b : Bike) (f : TripRecord → TripRecord) (s : State), P s → P (s.setTrip b f)
  filterTrips : ∀ (p : TripRecord → Bool) (s : State), P s → P (s.filterTrips p)
  noteTrips : ∀ s : State, P s → P s.noteTrips
  setRelease : ∀ (d : Dock) (x : Option ReleaseContext) (s : State), P s → P (s.setRelease d x)
  setCancel : ∀ (d : Dock) (x : Option CancelContext) (s : State), P s → P (s.setCancel d x)

section

variable (h : TripClosed P)
include h

theorem tripped_moveTrip (b : Bike) (f : TripRecord → TripRecord) (s : State) (hs : P s) : P (s.moveTrip b f) :=
  h.noteTrips _ (h.setTrip b f s hs)

theorem tripped_cardFree (c : CardNo) (b : Bike) (start : Time) (fare : Option Nat) (s : State) (hs : P s) :
    P (cardFree c b start fare s).1 := by
  unfold cardFree
  repeat' split
  · exact h.setCard _ _ s hs
  · exact hs
  · exact hs

theorem tripped_cardRelink (c : CardNo) (b : Bike) (start : Time) (s : State) (hs : P s) :
    P (cardRelink c b start s).1 := by
  unfold cardRelink
  repeat' split
  · exact h.setCard _ _ s hs
  · exact hs
  · exact hs

theorem tripped_dropCancelOf (b : Bike) (s : State) (hs : P s) : P (dropCancelOf b s) := by
  refine closed_foldl (fun s d hs => ?_) _ s hs
  split
  · exact h.setCancel d none s hs
  · exact hs

theorem tripped_latePullTrip (r : TripRecord) (s : State) (hs : P s) : P (latePullTrip r s) := by
  have hrelinked := tripped_cardRelink h r.stamp.card r.bike r.stamp.start _ (tripped_moveTrip h r.bike
    (fun r => { r with state := .out, latePull := r.latePull || true }) s hs)
  unfold latePullTrip
  refine tripped_dropCancelOf h _ _ ?_
  split
  · exact hrelinked
  · exact h.setTrip _ _ _ hrelinked

theorem tripped_pullRelease (d : Dock) (x : ReleaseContext) (s : State) (hs : P s) : P (pullRelease d x s) := by
  unfold pullRelease
  refine h.setRelease d none _ ?_
  repeat' split
  · exact h.setCard _ _ _ (tripped_moveTrip h _ _ s hs)
  · exact hs
  · exact managed_crewReport h.toManifestClosed _ _ _ _ _ s hs

/-- A release is given back: a member's card is freed and its trip record changed by `g`, a crew's move told. -/
def giveBack (d : Dock) (x : ReleaseContext) (g : State → State) (s : State) : State :=
  match x.kind with
  | .member =>
    if s.tripIn x.bike x.start isReleasing then (cardFree x.card x.bike x.start none (g s)).1 else s
  | .crew move n => crewReport n move .returned d x.bike s

theorem tripped_giveBack {g : State → State} (hg : ∀ s, P s → P (g s)) (d : Dock) (x : ReleaseContext) (s : State)
    (hs : P s) : P (giveBack d x g s) := by
  unfold giveBack
  repeat' split
  · exact tripped_cardFree h _ _ _ _ _ (hg s hs)
  · exact hs
  · exact managed_crewReport h.toManifestClosed _ _ _ _ _ s hs

theorem tripped_watchReport (d : Dock) (found : Option Bike) (s : State) (hs : P s) : P (watchReport d found s) := by
  unfold watchReport
  split
  · exact closed_foldl (fun s r hs => tripped_moveTrip h r.bike _ s hs) _ s hs
  · exact hs

end

/-! ### The Fault Table's work at a dock (chapter 8) -/

/-- What judging a dock's conditions can do besides the mask of a stuck button: records of the table change, and
changes are told. -/
structure FaultClosed (P : State → Prop) : Prop extends ManifestClosed P where
  addFault : ∀ (r : FaultRecord) (s : State), P s → P (s.addFault r)
  setFault : ∀ (i : Fin 32) (f : FaultRecord → FaultRecord) (s : State), P s → P (s.setFault i f)
  filterFaults : ∀ (p : FaultRecord → Bool) (s : State), P s → P (s.filterFaults p)
  setFaultFull : ∀ (b : Bool) (s : State), P s → P (s.setFaultFull b)

/-- Masking a button, or no longer, keeps the property (R141). -/
def MasksButton (P : State → Prop) : Prop :=
  ∀ (n : Node) (b : Bool) (s : State), P s → P (s.setLink n (fun l => { l with buttonMask := b }))

/-- A record created in ACTIVE with a slot free evicts none (R136). -/
theorem createActive_room {x : Subject} {k : FaultKind} {l : List CardNo} {s : State}
    (hroom : s.freeFaultSlot.isSome = true) : createActive x k l s = createActiveIn x k l s := by
  simp only [createActive, makeRoom, hroom, if_true]

section

variable (h : FaultClosed P)
include h

omit h in
theorem faulted_activeEffects_dock {k : FaultKind} (hk : k ≠ .buttonStuck ∨ MasksButton P) (d : Dock) (s : State)
    (hs : P s) : P (activeEffects (.dock d) k s) := by
  simp only [activeEffects]
  split
  next hstuck => exact hk.elim (fun hne => absurd hstuck hne) (fun hmask => hmask _ true s hs)
  next => exact hs

/-- A record that enters ACTIVE, with the effects that its subject has. -/
theorem faulted_confirmFault {r : FaultRecord} (heffects : ∀ s, P s → P (activeEffects r.subject r.kind s))
    (s : State) (hs : P s) : P (confirmFault r s) :=
  managed_tellChange h.toManifestClosed _ _ _ (heffects _ (h.setFault _ _ s hs))

theorem faulted_removeFault {r : FaultRecord} (hk : r.kind ≠ .buttonStuck ∨ MasksButton P) (s : State) (hs : P s) :
    P (removeFault r s) := by
  rw [removeFault_eq]
  refine managed_tellChange h.toManifestClosed _ _ _ ?_
  have hgone := h.filterFaults (fun x => decide (x.slot ≠ r.slot)) s hs
  unfold State.withoutFault
  split
  · split
    next hstuck => exact hk.elim (fun hne => absurd hstuck hne) (fun hmask => hmask _ false _ hgone)
    next => exact hgone
  all_goals exact hgone

theorem faulted_retireFault {r : FaultRecord} (hk : r.kind ≠ .buttonStuck ∨ MasksButton P) (s : State) (hs : P s) :
    P (retireFault r s) :=
  faulted_removeFault h hk _ (h.setFaultFull false s hs)

theorem faulted_createSuspect (x : Subject) (k : FaultKind) (n : Nat) (l : List CardNo) (s : State) (hs : P s) :
    P (createSuspect x k n l s) := by
  unfold createSuspect
  split
  · exact managed_tellChange h.toManifestClosed _ _ _ (h.addFault _ s hs)
  · exact hs

theorem faulted_createActiveIn {x : Subject} {k : FaultKind} (heffects : ∀ s, P s → P (activeEffects x k s))
    (l : List CardNo) (s : State) (hs : P s) : P (createActiveIn x k l s) :=
  managed_tellChange h.toManifestClosed _ _ _ (heffects _ (h.addFault _ s hs))

theorem faulted_makeRoom (hmask : MasksButton P) {s t : State} (hs : P s) (ht : makeRoom s = some t) : P t := by
  unfold makeRoom at ht
  repeat' split at ht
  · exact Option.some.inj ht ▸ hs
  · exact Option.some.inj ht ▸ faulted_removeFault h (.inr hmask) s hs
  · cases ht

theorem faulted_createActive {x : Subject} {k : FaultKind} (heffects : ∀ s, P s → P (activeEffects x k s))
    (l : List CardNo) {s : State} (hroom : s.freeFaultSlot.isSome = true ∨ MasksButton P) (hs : P s) :
    P (createActive x k l s) := by
  rcases hroom with hroom | hmask
  · rw [createActive_room hroom]
    exact faulted_createActiveIn h heffects l s hs
  · unfold createActive
    split
    next t ht => exact faulted_createActiveIn h heffects l t (faulted_makeRoom h hmask hs ht)
    next => exact h.setFaultFull true s hs

theorem faulted_judgeKind {k : FaultKind} (hk : k ≠ .buttonStuck ∨ MasksButton P) (d : Dock) (n : Nat)
    (present : Bool) (s : State) (hs : P s) : P (judgeKind d k n present s) := by
  unfold judgeKind
  split
  · split
    · exact faulted_createSuspect h _ _ _ _ s hs
    · exact hs
  next r hr =>
    obtain ⟨-, hsubject, rfl⟩ := mem_of_findFault hr
    have hconfirm : P (confirmFault r s) :=
      faulted_confirmFault h (by rw [hsubject]; exact faulted_activeEffects_dock hk d) s hs
    repeat' split
    · exact hconfirm
    · exact h.setFault _ _ s hs
    · exact faulted_retireFault h hk s hs
    · exact hs
    · exact hconfirm
    · exact faulted_retireFault h hk s hs
    · exact h.setFault _ _ s hs

theorem faulted_forcedRemoval (d : Dock) {s : State} (hroom : s.freeFaultSlot.isSome = true ∨ MasksButton P)
    (hs : P s) : P (forcedRemoval d s) := by
  have hkind : FaultKind.forcedRemoval ≠ .buttonStuck ∨ MasksButton P := .inl (by decide)
  unfold forcedRemoval
  split
  · exact faulted_createActive h (faulted_activeEffects_dock hkind d) _ hroom hs
  next r hr =>
    obtain ⟨-, hsubject, hk⟩ := mem_of_findFault hr
    split
    · exact faulted_confirmFault h (by rw [hsubject, hk]; exact faulted_activeEffects_dock hkind d) s hs
    · exact hs
    · exact hs

end

/-! ### A rider's report (R143) -/

/-- The reporters of a record once a card reports: at most three, each once. -/
def withReporter (c : CardNo) (l : List CardNo) : List CardNo :=
  if c ∈ l ∨ 3 ≤ l.length then l else l ++ [c]

theorem riderReport_new {b : Bike} {c : CardNo} {s : State} (hr : s.findFault (.bike b) .riderReport = none) :
    riderReport b c s =
      if s.settings.reportThreshold ≤ 1 then createActive (.bike b) .riderReport [c] s
      else createSuspect (.bike b) .riderReport 0 [c] s := by
  simp only [riderReport, hr]

theorem riderReport_again {b : Bike} {c : CardNo} {s : State} {r : FaultRecord}
    (hr : s.findFault (.bike b) .riderReport = some r) :
    riderReport b c s =
      let t := s.setFault r.slot (fun x => { x with reporters := withReporter c r.reporters })
      if r.state = .suspect ∧ s.settings.reportThreshold ≤ (withReporter c r.reporters).length
      then confirmFault r t else t := by
  have hjoin : (if r.reporters.contains c = true then r.reporters
      else if r.reporters.length < 3 then r.reporters ++ [c] else r.reporters) = withReporter c r.reporters := by
    unfold withReporter
    by_cases hin : c ∈ r.reporters
    · simp [hin]
    · by_cases hroom : r.reporters.length < 3
      · simp [hin, hroom, Nat.not_le.mpr hroom]
      · simp [hin, hroom, Nat.not_lt.mp hroom]
  simp only [riderReport, hr, hjoin]
  cases r.state <;> simp

/-! ### The Fault Table's work at a bicycle (R143 to R145) -/

/-- What a change of a bicycle's record can do besides: a MARK is placed, and unmark and mark_pending of docks
change. -/
structure ReportClosed (P : State → Prop) : Prop extends FaultClosed P where
  enqueue : ∀ (r : QueueEntry) (s : State), P s → P (enqueue r s)
  setMark : ∀ (d : Dock) (f : FaultDock → FaultDock) (s : State),
    (∀ g, (f g).report = g.report ∧ (f g).tagFailed = g.tagFailed) → P s → P (s.setFaultDock d f)
  mapMarks : ∀ (f : FaultDock → FaultDock) (s : State),
    (∀ g, (f g).report = g.report ∧ (f g).tagFailed = g.tagFailed) → P s → P (s.mapFaultDocks f)

section

variable (h : ReportClosed P)
include h

theorem reported_evalMark (d : Dock) (s : State) (hs : P s) : P (evalMark d s) := by
  unfold evalMark
  split
  · split
    · exact h.takeNext _ (h.enqueue _ _ (h.setMark d _ s (fun _ => ⟨rfl, rfl⟩) hs))
    · exact hs
  · exact hs

theorem reported_activeEffects {k : FaultKind} (hk : k ≠ .buttonStuck ∨ MasksButton P) (x : Subject) (s : State)
    (hs : P s) : P (activeEffects x k s) := by
  cases x with
  | dock d => exact faulted_activeEffects_dock hk d s hs
  | bike b =>
    have hunmarked : P (s.mapFaultDocks (fun f => if f.unmark = some b then { f with unmark := none } else f)) :=
      h.mapMarks _ s (fun _ => by split <;> exact ⟨rfl, rfl⟩) hs
    simp only [activeEffects, evalMarkOfBike]
    split
    · exact reported_evalMark h _ _ hunmarked
    · exact hunmarked
  | segment _ | terminal => exact hs

theorem reported_confirmFault {r : FaultRecord} (hk : r.kind ≠ .buttonStuck ∨ MasksButton P) (s : State) (hs : P s) :
    P (confirmFault r s) :=
  faulted_confirmFault h.toFaultClosed (reported_activeEffects h hk _) s hs

theorem reported_createActive {k : FaultKind} (hk : k ≠ .buttonStuck) (x : Subject) (l : List CardNo) {s : State}
    (hroom : s.freeFaultSlot.isSome = true ∨ MasksButton P) (hs : P s) : P (createActive x k l s) :=
  faulted_createActive h.toFaultClosed (reported_activeEffects h (.inl hk) _) l hroom hs

theorem reported_riderReport (b : Bike) (c : CardNo) {s : State}
    (hroom : s.freeFaultSlot.isSome = true ∨ MasksButton P) (hs : P s) : P (riderReport b c s) := by
  cases hr : s.findFault (.bike b) .riderReport with
  | none =>
    rw [riderReport_new hr]
    split
    · exact reported_createActive h (by decide) _ _ hroom hs
    · exact faulted_createSuspect h.toFaultClosed _ _ _ _ s hs
  | some r =>
    obtain ⟨-, -, hk⟩ := mem_of_findFault hr
    rw [riderReport_again hr]
    have hjoined := h.setFault r.slot (fun x => { x with reporters := withReporter c r.reporters }) s hs
    split
    · exact reported_confirmFault h (.inl (by rw [hk]; decide)) _ hjoined
    · exact hjoined

theorem reported_importMark (d : Dock) (b : Bike) {s : State}
    (hroom : s.freeFaultSlot.isSome = true ∨ MasksButton P) (hs : P s) : P (importMark d b s) := by
  unfold importMark
  repeat' split
  · exact hs
  · exact hs
  · exact reported_createActive h (by decide) _ _ hroom hs

end

end Sys2Proof.Machine
end

section
/-! PROOFS. The end of a refusal shown, of a report window and of a MARK, and the mark wanted at a dock (R40, R143,
R145). -/

namespace Sys2Proof.Machine

open Sys2Proof

/-! ### A selection writes the record of its own dock alone (R39) -/

/-- Placing a SHOW for a dock changes the queue, or with a full queue the dock's own lamp_shown. -/
theorem enqueue_show_cases (d : Dock) (p : Lamp) (s : State) :
    (∃ q, enqueue (showRequest d p) s = s.setQueue q) ∨
    enqueue (showRequest d p) s = s.setDock d (fun r => { r with lampShown := false }) := by
  by_cases hkey : ∃ e ∈ s.string.queue, sameKey e (showRequest d p) = true
  · exact .inl ⟨_, enqueue_merge hkey⟩
  have hnew : ∀ e ∈ s.string.queue, sameKey e (showRequest d p) = false := by simpa using hkey
  rcases Nat.lt_or_ge s.string.queue.length 40 with hroom | hfull
  · exact .inl ⟨_, enqueue_append hnew hroom⟩
  · refine .inr ((enqueue_full_show hnew hfull rfl).trans ?_)
    simp only [showRequest, request, notShown, nodeDock_dockNode]

/-- A lamp was selected at a dock: its lamp, and the string, may have changed. -/
structure Relights (d : Dock) (s t : State) : Prop where
  frame : t = { s with docks := t.docks, string := t.string }
  other : ∀ e, e ≠ d → t.dock e = s.dock e
  own : t.dock d = { s.dock d with lamp := (t.dock d).lamp, lampShown := (t.dock d).lampShown }

theorem relights_setDock {d : Dock} {f : DockRecord → DockRecord} {s : State}
    (hf : f (s.dock d) = { s.dock d with lamp := (f (s.dock d)).lamp, lampShown := (f (s.dock d)).lampShown }) :
    Relights d s (s.setDock d f) where
  frame := rfl
  other e he := by rw [setDock_dock, if_neg (Ne.symm he)]
  own := by simpa [setDock_dock] using hf

theorem Relights.trans {d : Dock} {s t u : State} (h : Relights d s t) (h' : Relights d t u) : Relights d s u where
  frame := by rw [h'.frame, h.frame]
  other e he := (h'.other e he).trans (h.other e he)
  own := by rw [h'.own, h.own]

theorem relights_string (d : Dock) {s t : State} (h : t = { s with string := t.string }) : Relights d s t where
  frame := by rw [h]
  other e _ := by rw [h]; rfl
  own := by rw [h]; rfl

theorem relights_show (d : Dock) (p : Lamp) (s : State) : Relights d s (enqueue (showRequest d p) s) := by
  rcases enqueue_show_cases d p s with ⟨q, h⟩ | h <;> rw [h]
  · exact relights_string d rfl
  · exact relights_setDock rfl

theorem selectLamp_relights (d : Dock) (s : State) : Relights d s (selectLamp d s) := by
  have hrelit : Relights d s (s.relit d) := by rw [relit_eq]; exact relights_setDock rfl
  rw [selectLamp_eq]
  split
  · exact hrelit.trans ((relights_show d (s.lampFor d) (s.relit d)).trans (relights_string d (takeNext_only _)))
  · exact hrelit

/-! ### A refusal's flash and a report window end (R40, R143) -/

theorem refusalFlash_ends {s : State} {d : Dock} (h : (s.dock d).flash.isSome = true) :
    exec (.refusalFlashExpiry (d.val + 1)) s =
      .next (finishEvent (selectLamp d (s.setDock d (fun r => { r with flash := none })))) := by
  simp only [exec_refusalFlashExpiry, dockEvent, dockOfNumber_dockNumber, h, if_true]

theorem refusalFlash_idle {s : State} {d : Dock} (h : (s.dock d).flash = none) :
    exec (.refusalFlashExpiry (d.val + 1)) s = .next (finishEvent s) := by
  simp only [exec_refusalFlashExpiry, dockEvent, dockOfNumber_dockNumber, h, Option.isSome_none, Bool.false_eq_true,
    if_false]

theorem reportWindow_ends (s : State) (d : Dock) : exec (.reportWindowExpiry (d.val + 1)) s =
    .next (finishEvent (s.setFaultDock d (fun f => { f with report := none }))) := by
  simp only [exec_reportWindowExpiry, dockEvent, dockOfNumber_dockNumber]

theorem setFaultDock_congr {s : State} {d : Dock} {f g : FaultDock → FaultDock}
    (h : f (s.faultDock d) = g (s.faultDock d)) : s.setFaultDock d f = s.setFaultDock d g := by
  unfold State.setFaultDock upd
  rw [show f (s.faults.docks.get d) = g (s.faults.docks.get d) from h]

theorem setFaultDock_of_eq {s : State} {d : Dock} {f : FaultDock → FaultDock}
    (h : f (s.faultDock d) = s.faultDock d) : s.setFaultDock d f = s := by
  unfold State.setFaultDock
  rw [upd_of_eq h]

theorem setFaultDock_setFaultDock (s : State) (d : Dock) (f g : FaultDock → FaultDock) :
    (s.setFaultDock d f).setFaultDock d g = s.setFaultDock d (fun x => g (f x)) := by
  have hdocks : upd (upd s.faults.docks d f) d g = upd s.faults.docks d (fun x => g (f x)) :=
    vector_ext_get fun k => by
      simp only [upd_get]
      split <;> simp
  unfold State.setFaultDock
  rw [← hdocks]

/-! ### The end of a MARK (R145) -/

theorem dockOutcome_mark {e : QueueEntry} (h : e.verb = .mark) (d : Dock) (answer : Option Answer) (mark : Bool)
    (o : Originator) (s : State) :
    dockOutcome d e answer mark o s = markEnd d o.bike (decide (field e.args 0 1 = 1)) answer.isSome s := by
  simp only [dockOutcome, h]

/-- unmark and mark_pending of a dock once a MARK has ended. -/
def FaultDock.marked (value good : Bool) (b : Bike) (f : FaultDock) : FaultDock :=
  { f with
    unmark := if good = true ∧ value = false ∧ f.unmark = some b then none else f.unmark,
    markPending := if f.markPending = some (value, b) then none else f.markPending }

theorem markEnd_eq (d : Dock) (b : Bike) (value good : Bool) (s : State) : markEnd d b value good s =
    (if good = true then reportMarked d b value s else s).setFaultDock d (FaultDock.marked value good b) := by
  have hunmarked : ∀ t : State,
      (if value = false ∧ (t.faultDock d).unmark = some b then t.setFaultDock d (fun f => { f with unmark := none })
        else t).setFaultDock d
          (fun f => if f.markPending = some (value, b) then { f with markPending := none } else f) =
      t.setFaultDock d (FaultDock.marked value true b) := fun t => by
    split
    next h =>
      rw [setFaultDock_setFaultDock]
      refine setFaultDock_congr ?_
      unfold FaultDock.marked
      dsimp only
      split <;> simp [h]
    next h =>
      refine setFaultDock_congr ?_
      unfold FaultDock.marked
      split <;> simp [h]
  cases good with
  | false =>
    refine setFaultDock_congr ?_
    simp only [FaultDock.marked, Bool.false_eq_true, false_and, if_false]
    split <;> rfl
  | true => exact hunmarked (reportMarked d b value s)

/-- The dock that holds the bicycle takes the value written, and selects its lamp (R34). -/
theorem reportMarked_writes (d : Dock) (b : Bike) (value : Bool) (s : State) :
    let t := reportMarked d b value s
    t = { s with docks := t.docks, string := t.string } ∧ (∀ e, e ≠ d → t.dock e = s.dock e) ∧
    (t.dock d).known =
      (if (s.dock d).bike = some b then { s.dock d with serviceMark := value } else s.dock d).known := by
  unfold reportMarked reportDock
  split
  · obtain ⟨hframe, hother, hown⟩ := selectLamp_relights d (s.setDock d (fun r => { r with serviceMark := value }))
    refine ⟨hframe, fun e he => (hother e he).trans ?_, ?_⟩
    · rw [setDock_dock, if_neg (Ne.symm he)]
    · rw [hown, setDock_dock, if_pos rfl]
      rfl
  · exact ⟨rfl, fun _ _ => rfl, rfl⟩

theorem markEnd_writes (d : Dock) (b : Bike) (value good : Bool) (s : State) :
    let t := markEnd d b value good s
    t = { s with docks := t.docks, string := t.string, faults := { s.faults with docks := t.faults.docks } } ∧
    t.faultDock d = (s.faultDock d).marked value good b ∧
    (∀ e, e ≠ d → t.faultDock e = s.faultDock e ∧ (t.dock e).known = (s.dock e).known) ∧
    (t.dock d).known = (if good = true ∧ (s.dock d).bike = some b then { s.dock d with serviceMark := value }
      else s.dock d).known ∧
    (good = false → t.docks = s.docks ∧ t.string = s.string) := by
  have hfaultDock : ∀ {u : State}, u.faults = s.faults →
      (u.setFaultDock d (FaultDock.marked value good b)).faultDock d = (s.faultDock d).marked value good b ∧
      ∀ e, e ≠ d → (u.setFaultDock d (FaultDock.marked value good b)).faultDock e = s.faultDock e := fun h => by
    refine ⟨by rw [setFaultDock_faultDock, if_pos rfl]; unfold State.faultDock; rw [h], fun e he => ?_⟩
    rw [setFaultDock_faultDock, if_neg (Ne.symm he)]
    unfold State.faultDock
    rw [h]
  dsimp only
  rw [markEnd_eq]
  cases good with
  | false =>
    obtain ⟨hown, hother⟩ := hfaultDock (u := s) rfl
    exact ⟨rfl, hown, fun e he => ⟨hother e he, rfl⟩, rfl, fun _ => ⟨rfl, rfl⟩⟩
  | true =>
    rw [if_pos rfl]
    obtain ⟨hframe, hdocks, hdock⟩ := reportMarked_writes d b value s
    obtain ⟨hown, hother⟩ := hfaultDock (u := reportMarked d b value s) (by rw [hframe])
    refine ⟨?_, hown, fun e he => ⟨hother e he, congrArg DockRecord.known (hdocks e he)⟩, ?_, fun h => nomatch h⟩
    · unfold State.setFaultDock
      rw [hframe]
    · simp only [true_and]
      exact hdock

/-! ### The mark wanted (R145) -/

section

variable {s : State} {d : Dock}

/-- A mark is wanted of the bicycle of an OCCUPIED dock in contact. -/
theorem markWanted_at {c : Bike} (hocc : (s.dock d).occupancy = .occupied)
    (hc : (s.link (dockNode d)).contact ≠ .lost) (hb : (s.dock d).bike = some c) : s.markWanted d =
      if s.bikeFaultActive c then some (true, c)
      else if (s.faultDock d).unmark = some c then some (false, c) else none := by
  simp only [State.markWanted, hb]
  exact if_pos ⟨hocc, hc⟩

theorem markWanted_none (h : ∀ c, ¬((s.dock d).occupancy = .occupied ∧ (s.link (dockNode d)).contact ≠ .lost ∧
    (s.dock d).bike = some c)) : s.markWanted d = none := by
  unfold State.markWanted
  dsimp only
  split
  next c hb => exact if_neg fun hat => h c ⟨hat.1, hat.2, hb⟩
  next => rfl

theorem markWanted_iff {v : Bool} {b : Bike} : s.markWanted d = some (v, b) ↔
    ((s.dock d).occupancy = .occupied ∧ (s.link (dockNode d)).contact ≠ .lost ∧ (s.dock d).bike = some b) ∧
    ((v = true ∧ ∃ r ∈ s.faults.records, r.subject = .bike b ∧ r.state = .active) ∨
     (v = false ∧ (s.faultDock d).unmark = some b ∧
      ∀ r ∈ s.faults.records, r.subject = .bike b → r.state ≠ .active)) := by
  rw [← bikeFaultActive_iff, ← bikeFaultActive_eq_false_iff]
  by_cases hat : ∃ c, (s.dock d).occupancy = .occupied ∧ (s.link (dockNode d)).contact ≠ .lost ∧
      (s.dock d).bike = some c
  · obtain ⟨c, hocc, hc, hb⟩ := hat
    rw [markWanted_at hocc hc hb]
    simp only [hocc, hc, hb, Option.some.injEq, true_and, ne_eq, not_false_eq_true]
    cases hactive : s.bikeFaultActive c <;> by_cases hunmark : (s.faultDock d).unmark = some c <;> grind
  · have hnone := markWanted_none fun c hc => hat ⟨c, hc⟩
    simp only [hnone, reduceCtorEq, false_iff]
    exact fun h => hat ⟨b, h.1⟩

theorem evalMark_idle (h : s.markWanted d = none) : evalMark d s = s := by
  simp only [evalMark, h]

theorem evalMark_stays {v : Bool} {b : Bike} (h : s.markWanted d = some (v, b))
    (hstays : v = (s.dock d).serviceMark ∨ (s.faultDock d).markPending = some (v, b)) : evalMark d s = s := by
  simp only [evalMark, h]
  exact if_neg fun hplace => hstays.elim hplace.1 hplace.2

/-- With room in the queue of a string in use, a MARK for another value than the dock shows joins last. -/
theorem evalMark_joins {v : Bool} {b : Bike} (h : s.markWanted d = some (v, b)) (hv : v ≠ (s.dock d).serviceMark)
    (hp : (s.faultDock d).markPending ≠ some (v, b)) (hflight : s.string.flight.isSome = true)
    (hroom : s.string.queue.length < 40)
    (hnew : ∀ q ∈ s.string.queue, q.target = .node (dockNode d) → q.verb ≠ .mark) :
    evalMark d s = (s.setFaultDock d (fun f => { f with markPending := some (v, b) })).setQueue
      (s.string.queue ++ [request (dockNode d) .mark [if v then 1 else 0] (.faultTable b)]) := by
  simp only [evalMark, h]
  rw [if_pos ⟨hv, hp⟩, placeDock, place, takeNext_in_use (by rw [enqueue_flight]; exact hflight)]
  exact enqueue_append (not_sameKey_of fun q hq hkey => hnew q hq hkey.1 hkey.2) hroom

theorem dropStaleUnmark_none (h : (s.faultDock d).unmark = none) : dropStaleUnmark d s = s := by
  simp only [dropStaleUnmark, h]

theorem dropStaleUnmark_some {b : Bike} (h : (s.faultDock d).unmark = some b) : dropStaleUnmark d s =
    s.setFaultDock d (fun f => { f with unmark :=
      (if (s.dock d).occupancy = .empty ∨ ((s.dock d).bike ≠ none ∧ (s.dock d).bike ≠ some b)
        then none else some b) }) := by
  simp only [dropStaleUnmark, h, ← Option.isSome_iff_ne_none]
  split
  · rfl
  · exact (setFaultDock_of_eq (by rw [← h])).symm

end

end Sys2Proof.Machine
end

section
/-! PROOFS. One record of the fault table: what creating, confirming, judging and retiring it leave of the others, and
the record afterwards (R134 to R139, R143). -/

namespace Sys2Proof.Machine

open Sys2Proof

/-! ### The table (R134) -/

theorem findFault_of_records {s t : State} (h : t.faults.records = s.faults.records) (x : Subject) (k : FaultKind) :
    t.findFault x k = s.findFault x k := by
  unfold State.findFault
  rw [h]

theorem freeFaultSlot_of_records {s t : State} (h : t.faults.records = s.faults.records) :
    t.freeFaultSlot = s.freeFaultSlot := by
  unfold State.freeFaultSlot
  rw [h]

theorem find_insertFault {p : FaultRecord → Bool} {e : FaultRecord} (he : p e = true) {l : List FaultRecord}
    (h : l.find? p = none) : (insertFault e l).find? p = some e := by
  induction l with
  | nil => simp [insertFault, he]
  | cons y l ih =>
    have hy : p y = false := by simpa using List.find?_eq_none.1 h y (List.mem_cons_self ..)
    rw [List.find?_cons_of_neg (by simp [hy])] at h
    unfold insertFault
    split
    · exact List.find?_cons_of_pos he
    · rw [List.find?_cons_of_neg (by simp [hy])]
      exact ih h

/-- The table changed in the record of one subject and one kind alone, by one record more at most. -/
structure FaultWrites (x : Subject) (k : FaultKind) (s t : State) : Prop where
  ok : t.faultsOk
  size : t.faults.records.length ≤ s.faults.records.length + 1
  others : ∀ y j, ¬(y = x ∧ j = k) → t.findFault y j = s.findFault y j

section

variable {s t u : State} {x : Subject} {k : FaultKind} {r : FaultRecord}

theorem faultWrites_refl (hs : s.faultsOk) : FaultWrites x k s s := ⟨hs, Nat.le_succ _, fun _ _ _ => rfl⟩

/-- The writes are those of the table. -/
theorem FaultWrites.of_records (h : FaultWrites x k s t) (hr : u.faults.records = t.faults.records) :
    FaultWrites x k s u where
  ok := by unfold State.faultsOk; rw [hr]; exact h.ok
  size := hr ▸ h.size
  others y j hne := (findFault_of_records hr y j).trans (h.others y j hne)

theorem FaultWrites.from_records (h : FaultWrites x k t u) (hr : t.faults.records = s.faults.records) :
    FaultWrites x k s u where
  ok := h.ok
  size := hr ▸ h.size
  others y j hne := (h.others y j hne).trans (findFault_of_records hr y j)

/-- A record is changed in place. -/
theorem setFault_writes (hs : s.faultsOk) (hr : s.findFault x k = some r) (f : FaultRecord → FaultRecord) :
    FaultWrites x k s (s.setFault r.slot f) ∧ (s.setFault r.slot f).findFault x k =
      some { f r with slot := r.slot, subject := r.subject, kind := r.kind, order := r.order } := by
  obtain ⟨hmem, rfl, rfl⟩ := mem_of_findFault hr
  have hok : (s.setFault r.slot f).faultsOk := by
    unfold State.faultsOk State.setFault
    rw [List.pairwise_map]
    refine hs.imp fun {a b} hab => ?_
    split <;> split <;> exact hab
  have hin : ∀ a, a ∈ (s.setFault r.slot f).faults.records ↔ ∃ y ∈ s.faults.records,
      (if y.slot = r.slot then { f y with slot := y.slot, subject := y.subject, kind := y.kind, order := y.order }
        else y) = a := fun a => List.mem_map
  refine ⟨⟨hok, ?_, fun y j hne => findFault_congr hs hok fun a ha hj => ?_⟩, ?_⟩
  · unfold State.setFault
    rw [List.length_map]
    exact Nat.le_succ _
  · rw [hin]
    constructor
    · rintro ⟨z, hz, hza⟩
      by_cases hslot : z.slot = r.slot
      · rw [if_pos hslot, fault_eq_of_slot hs hz hmem hslot] at hza
        subst hza
        exact absurd ⟨ha.symm, hj.symm⟩ hne
      · rw [if_neg hslot] at hza
        exact hza ▸ hz
    · intro hmem'
      refine ⟨a, hmem', if_neg fun hslot => hne ?_⟩
      rw [fault_eq_of_slot hs hmem' hmem hslot] at ha hj
      exact ⟨ha.symm, hj.symm⟩
  · rw [findFault_eq_some_iff hok, hin]
    exact ⟨⟨r, hmem, if_pos rfl⟩, rfl, rfl⟩

/-- A record is taken out by its slot. -/
theorem filterFaults_writes (hs : s.faultsOk) (hr : s.findFault x k = some r) :
    FaultWrites x k s (s.filterFaults (fun a => decide (a.slot ≠ r.slot))) ∧
      (s.filterFaults (fun a => decide (a.slot ≠ r.slot))).findFault x k = none := by
  obtain ⟨hmem, rfl, rfl⟩ := mem_of_findFault hr
  have hok : (s.filterFaults (fun a => decide (a.slot ≠ r.slot))).faultsOk := hs.filter _
  have hin : ∀ a, a ∈ (s.filterFaults (fun a => decide (a.slot ≠ r.slot))).faults.records ↔
      a ∈ s.faults.records ∧ a.slot ≠ r.slot := fun a => by
    unfold State.filterFaults
    rw [List.mem_filter, decide_eq_true_eq]
  refine ⟨⟨hok, (List.length_filter_le _ _).trans (Nat.le_succ _), fun y j hne => findFault_congr hs hok
    fun a ha hj => ?_⟩, ?_⟩
  · rw [hin]
    refine and_iff_left_of_imp fun hmem' hslot => hne ?_
    rw [fault_eq_of_slot hs hmem' hmem hslot] at ha hj
    exact ⟨ha.symm, hj.symm⟩
  · rw [findFault_eq_none_iff]
    intro a ha hkey
    obtain ⟨ha, hslot⟩ := (hin a).1 ha
    exact hslot (congrArg FaultRecord.slot (fault_eq_of_key hs ha hmem hkey))

/-- A new record is found with the slot and the order that it took. -/
theorem findFault_addFault (hnone : s.findFault r.subject r.kind = none) (hroom : s.freeFaultSlot.isSome = true) :
    ∃ i o, (s.addFault r).findFault r.subject r.kind = some { r with slot := i, order := o } := by
  obtain ⟨i, hi⟩ := Option.isSome_iff_exists.1 hroom
  rw [addFault_eq hi hnone]
  exact ⟨i, s.faults.nextOrder, find_insertFault (by simp) hnone⟩

theorem addFault_writes (hs : s.faultsOk) (hnone : s.findFault r.subject r.kind = none)
    (hroom : s.freeFaultSlot.isSome = true) : FaultWrites r.subject r.kind s (s.addFault r) := by
  obtain ⟨i, hi⟩ := Option.isSome_iff_exists.1 hroom
  have hadd := addFault_eq hi hnone
  have hok : (s.addFault r).faultsOk := by
    rw [hadd]
    exact insertFault_ok _ _ hs (freeFaultSlot_free hi) (findFault_eq_none_iff.1 hnone)
  refine ⟨hok, addFault_length_le r s, fun y j hne => findFault_congr hs hok fun a ha hj => ?_⟩
  rw [hadd]
  refine (mem_insertFault _ _ _).trans (or_iff_right ?_)
  rintro rfl
  exact hne ⟨ha.symm, hj.symm⟩

end

/-! ### What is told leaves the table (R135) -/

theorem records_managed (l : List FaultRecord) : ManifestClosed (fun t => t.faults.records = l) := by
  constructor
  · constructor <;> (intros; simp_all)
  all_goals (intros; simp_all)

theorem tellChange_records (x : Subject) (g : Option Dock) (s : State) :
    (tellChange x g s).faults.records = s.faults.records :=
  managed_tellChange (records_managed _) x g s rfl

theorem evalMark_records (d : Dock) (s : State) : (evalMark d s).faults.records = s.faults.records := by
  unfold evalMark
  split
  · split
    · rw [placeDock, place, takeNext_faults, enqueue_faults]
      rfl
    · rfl
  · rfl

theorem activeEffects_records (x : Subject) (k : FaultKind) (s : State) :
    (activeEffects x k s).faults.records = s.faults.records := by
  cases x with
  | dock d =>
    simp only [activeEffects]
    split <;> rfl
  | bike b =>
    simp only [activeEffects, evalMarkOfBike]
    split
    · exact evalMark_records _ _
    · rfl
  | segment _ | terminal => rfl

/-! ### Creating, confirming and retiring (R135, R136) -/

section

variable {s : State} {x : Subject} {k : FaultKind} {r : FaultRecord}

/-- The record of a slot enters ACTIVE. -/
def State.confirmed (r : FaultRecord) (s : State) : State :=
  s.setFault r.slot (fun r => { r with state := .active, count := 0, seen := false })

theorem confirmFault_eq (r : FaultRecord) (s : State) : confirmFault r s =
    tellChange r.subject (gainedCoil s (s.confirmed r) r.subject)
      (activeEffects r.subject r.kind (s.confirmed r)) := rfl

theorem confirmFault_records (r : FaultRecord) (s : State) :
    (confirmFault r s).faults.records = (s.confirmed r).faults.records := by
  rw [confirmFault_eq, tellChange_records, activeEffects_records]

theorem confirmFault_writes (hs : s.faultsOk) (hr : s.findFault x k = some r) :
    FaultWrites x k s (confirmFault r s) ∧ (confirmFault r s).findFault x k =
      some { r with state := .active, count := 0, seen := false } := by
  obtain ⟨hwrites, hfind⟩ := setFault_writes hs hr (fun r => { r with state := .active, count := 0, seen := false })
  have hrecords := confirmFault_records r s
  exact ⟨hwrites.of_records hrecords, (findFault_of_records hrecords x k).trans hfind⟩

theorem withoutFault_records (r : FaultRecord) (s : State) : (s.withoutFault r).faults.records =
    (s.filterFaults (fun a => decide (a.slot ≠ r.slot))).faults.records := by
  unfold State.withoutFault
  repeat' split
  all_goals rfl

theorem retireFault_writes (hs : s.faultsOk) (hr : s.findFault x k = some r) :
    FaultWrites x k s (retireFault r s) ∧ (retireFault r s).findFault x k = none := by
  obtain ⟨hwrites, hfind⟩ := filterFaults_writes hs hr
  have hrecords : (retireFault r s).faults.records =
      (s.filterFaults (fun a => decide (a.slot ≠ r.slot))).faults.records := by
    rw [retireFault, removeFault_eq, tellChange_records, withoutFault_records]
    rfl
  exact ⟨hwrites.of_records hrecords, (findFault_of_records hrecords x k).trans hfind⟩

/-- The record that is created, with the slot and the order that it takes. -/
def createdFault (s : State) (x : Subject) (k : FaultKind) (st : FaultState) (n : Nat) (l : List CardNo) (i : Fin 32)
    (o : Nat) : FaultRecord :=
  { slot := i, subject := x, kind := k, state := st, count := n, reporters := l, firstTime := s.clock.time,
    seen := false, order := o }

theorem createSuspect_records (x : Subject) (k : FaultKind) (n : Nat) (l : List CardNo)
    (hroom : s.freeFaultSlot.isSome = true) :
    (createSuspect x k n l s).faults.records = (s.addFault (newFault s x k .suspect n l)).faults.records := by
  unfold createSuspect
  rw [if_pos hroom, tellChange_records]

theorem createActive_records (x : Subject) (k : FaultKind) (l : List CardNo)
    (hroom : s.freeFaultSlot.isSome = true) :
    (createActive x k l s).faults.records = (s.addFault (newFault s x k .active 0 l)).faults.records := by
  rw [createActive_room hroom, createActiveIn, tellChange_records, activeEffects_records]

theorem findFault_added (hnone : s.findFault x k = none) (hroom : s.freeFaultSlot.isSome = true) (st : FaultState)
    (n : Nat) (l : List CardNo) :
    ∃ i o, (s.addFault (newFault s x k st n l)).findFault x k = some (createdFault s x k st n l i o) :=
  findFault_addFault (r := newFault s x k st n l) hnone hroom

theorem createSuspect_writes (hs : s.faultsOk) (hnone : s.findFault x k = none)
    (hroom : s.freeFaultSlot.isSome = true) (n : Nat) (l : List CardNo) :
    FaultWrites x k s (createSuspect x k n l s) ∧
      ∃ i o, (createSuspect x k n l s).findFault x k = some (createdFault s x k .suspect n l i o) := by
  have hrecords := createSuspect_records x k n l hroom
  rw [findFault_of_records hrecords]
  exact ⟨(addFault_writes (r := newFault s x k .suspect n l) hs hnone hroom).of_records hrecords,
    findFault_added hnone hroom _ _ _⟩

theorem createActive_writes (hs : s.faultsOk) (hnone : s.findFault x k = none)
    (hroom : s.freeFaultSlot.isSome = true) (l : List CardNo) :
    FaultWrites x k s (createActive x k l s) ∧
      ∃ i o, (createActive x k l s).findFault x k = some (createdFault s x k .active 0 l i o) := by
  have hrecords := createActive_records x k l hroom
  rw [findFault_of_records hrecords]
  exact ⟨(addFault_writes (r := newFault s x k .active 0 l) hs hnone hroom).of_records hrecords,
    findFault_added hnone hroom _ _ _⟩

end

end Sys2Proof.Machine
end

section
/-! PROOFS. The conditions of a sensed set at a dock, a forced removal and a rider's report: the records of the fault
table that they write, and the mask of a stuck button (R138, R139, R141, R143). -/

namespace Sys2Proof.Machine

open Sys2Proof

/-! ### What judging a dock's conditions leaves -/

theorem links_reported (l : Vector LinkRecord 31) : ReportClosed (fun t => t.string.links = l) where
  lampDock _ _ _ _ h := h
  show_ _ _ s h := (enqueue_links _ s).trans h
  takeNext s h := (takeNext_links s).trans h
  setManifest _ _ _ h := h
  noteManifest _ h := h
  noteFollowOn _ h := h
  filterHire _ _ h := h
  addFault r s h := (congrArg StringState.links (addFault_string s r)).trans h
  setFault _ _ _ h := h
  filterFaults _ _ h := h
  setFaultFull _ _ h := h
  enqueue r s h := (enqueue_links r s).trans h
  setMark _ _ _ _ h := h
  mapMarks _ _ _ h := h

theorem addFault_faultDocks (r : FaultRecord) (s : State) : (s.addFault r).faults.docks = s.faults.docks := by
  unfold State.addFault
  repeat' split
  all_goals rfl

theorem faultDocks_faulted (F : Vector FaultDock 30 → Prop) : FaultClosed (fun t => F t.faults.docks) where
  lampDock _ _ _ _ h := h
  show_ _ _ s h := by rw [enqueue_faults]; exact h
  takeNext s h := by rw [takeNext_faults]; exact h
  setManifest _ _ _ h := h
  noteManifest _ h := h
  noteFollowOn _ h := h
  filterHire _ _ h := h
  addFault r s h := by rw [addFault_faultDocks]; exact h
  setFault _ _ _ h := h
  filterFaults _ _ h := h
  setFaultFull _ _ h := h

theorem faultDocks_masks (F : Vector FaultDock 30 → Prop) : MasksButton (fun t => F t.faults.docks) :=
  fun _ _ _ h => h

theorem judgeKind_faultDocks (d : Dock) (k : FaultKind) (n : Nat) (p : Bool) (s : State) :
    (judgeKind d k n p s).faults.docks = s.faults.docks :=
  faulted_judgeKind (faultDocks_faulted (· = s.faults.docks)) (.inr (faultDocks_masks (· = s.faults.docks))) d n p s rfl

theorem judgeKind_links {k : FaultKind} (hk : k ≠ .buttonStuck) (d : Dock) (n : Nat) (p : Bool) (s : State) :
    (judgeKind d k n p s).string.links = s.string.links :=
  faulted_judgeKind (links_reported _).toFaultClosed (.inl hk) d n p s rfl

theorem judgeKind_clock (d : Dock) (k : FaultKind) (n : Nat) (p : Bool) (s : State) :
    (judgeKind d k n p s).clock = s.clock :=
  (closed_judgeKind (outside_closed s).toCalmClosed d k n p s ⟨rfl, rfl, rfl, rfl, rfl, rfl, rfl⟩).2.1

/-! ### Judging one kind (R138) -/

section

variable {s : State} {d : Dock} {k : FaultKind} {r : FaultRecord}

theorem judgeKind_none (h : s.findFault (.dock d) k = none) (n : Nat) (p : Bool) :
    judgeKind d k n p s = if p = true ∧ k ≠ .forcedRemoval then createSuspect (.dock d) k 1 [] s else s := by
  simp only [judgeKind, h]

/-- A record is judged: it is retired, it enters ACTIVE, its count grows, or it stays ACTIVE. -/
theorem judgeKind_some (h : s.findFault (.dock d) k = some r) (n : Nat) (p : Bool) :
    (r.judged n p = none ∧ judgeKind d k n p s = retireFault r s) ∨
    (r.state ≠ .active ∧ r.judged n p = some { r with state := .active, count := 0, seen := false } ∧
      judgeKind d k n p s = confirmFault r s) ∨
    (r.state ≠ .active ∧ r.judged n p = some { r with count := r.count + 1 } ∧
      judgeKind d k n p s = s.setFault r.slot (fun r => { r with count := r.count + 1 })) ∨
    (r.state = .active ∧ r.judged n p = some r ∧ judgeKind d k n p s = s) := by
  simp only [judgeKind, h]
  cases hstate : r.state with
  | active => exact .inr (.inr (.inr ⟨rfl, by simp only [FaultRecord.judged, hstate], rfl⟩))
  | suspect =>
    cases p with
    | false => exact .inl ⟨by simp only [FaultRecord.judged, hstate], rfl⟩
    | true =>
      by_cases hn : n ≤ r.count + 1
      · exact .inr (.inl ⟨nofun, by simp only [FaultRecord.judged, hstate, if_pos hn], if_pos hn⟩)
      · exact .inr (.inr (.inl ⟨nofun, by simp only [FaultRecord.judged, hstate, if_neg hn], if_neg hn⟩))
  | clearing =>
    cases p with
    | true => exact .inr (.inl ⟨nofun, by simp only [FaultRecord.judged, hstate], rfl⟩)
    | false =>
      by_cases hn : 4 ≤ r.count + 1
      · exact .inl ⟨by simp only [FaultRecord.judged, hstate, if_pos hn], if_pos hn⟩
      · exact .inr (.inr (.inl ⟨nofun, by simp only [FaultRecord.judged, hstate, if_neg hn], if_neg hn⟩))

end

/-- The record of one kind at a dock after it has been judged with this threshold and indication. -/
structure JudgedAs (d : Dock) (k : FaultKind) (n : Nat) (p : Bool) (s t : State) : Prop where
  held : ∀ r, s.findFault (.dock d) k = some r → t.findFault (.dock d) k = r.judged n p
  absent : s.findFault (.dock d) k = none → p = false → t.findFault (.dock d) k = none
  suspect : s.findFault (.dock d) k = none → p = true →
    ∃ i o, t.findFault (.dock d) k = some (createdFault s (.dock d) k .suspect 1 [] i o)

theorem judgeKind_writes {s : State} {d : Dock} {k : FaultKind} {p : Bool} (hs : s.faultsOk)
    (hroom : s.freeFaultSlot.isSome = true) (hk : p = true → k ≠ .forcedRemoval) (n : Nat) :
    FaultWrites (.dock d) k s (judgeKind d k n p s) ∧ JudgedAs d k n p s (judgeKind d k n p s) := by
  cases hfind : s.findFault (.dock d) k with
  | none =>
    rw [judgeKind_none hfind]
    cases p with
    | false => exact ⟨faultWrites_refl hs, by simp [hfind], fun _ _ => hfind, nofun⟩
    | true =>
      rw [if_pos ⟨rfl, hk rfl⟩]
      obtain ⟨hwrites, hnew⟩ := createSuspect_writes hs hfind hroom 1 []
      exact ⟨hwrites, by simp [hfind], nofun, fun _ _ => hnew⟩
  | some r =>
    have honly : ∀ t : State, t.findFault (.dock d) k = r.judged n p → JudgedAs d k n p s t := fun t ht =>
      ⟨fun a ha => by rw [hfind] at ha; cases ha; exact ht, by simp [hfind], by simp [hfind]⟩
    rcases judgeKind_some hfind n p with ⟨hj, he⟩ | ⟨-, hj, he⟩ | ⟨-, hj, he⟩ | ⟨-, hj, he⟩ <;> rw [he]
    · obtain ⟨hwrites, hafter⟩ := retireFault_writes hs hfind
      exact ⟨hwrites, honly _ (hafter.trans hj.symm)⟩
    · obtain ⟨hwrites, hafter⟩ := confirmFault_writes hs hfind
      exact ⟨hwrites, honly _ (hafter.trans hj.symm)⟩
    · obtain ⟨hwrites, hafter⟩ := setFault_writes hs hfind (fun r => { r with count := r.count + 1 })
      exact ⟨hwrites, honly _ (hafter.trans hj.symm)⟩
    · exact ⟨faultWrites_refl hs, honly _ (hfind.trans hj.symm)⟩

/-! ### The kinds of a sensed set, one after the other (R138) -/

/-- Kinds with their thresholds and indications are judged in turn. -/
def judgeAll (d : Dock) (l : List (FaultKind × Nat × Bool)) (s : State) : State :=
  l.foldl (fun s p => judgeKind d p.1 p.2.1 p.2.2 s) s

/-- What judging kinds does to the fault table: each kind by its threshold and indication, no other record. -/
structure KindsJudged (d : Dock) (l : List (FaultKind × Nat × Bool)) (s t : State) : Prop where
  ok : t.faultsOk
  size : t.faults.records.length ≤ s.faults.records.length + l.length
  others : ∀ y j, (∀ p ∈ l, ¬(y = .dock d ∧ j = p.1)) → t.findFault y j = s.findFault y j
  judged : ∀ p ∈ l, JudgedAs d p.1 p.2.1 p.2.2 s t

/-- A kind is judged alike in states that hold the same record of it, at the same time. -/
theorem JudgedAs.congr {d : Dock} {k : FaultKind} {n : Nat} {p : Bool} {s s' t t' : State} (h : JudgedAs d k n p s t)
    (hs : s'.findFault (.dock d) k = s.findFault (.dock d) k) (hclock : s'.clock = s.clock)
    (ht : t'.findFault (.dock d) k = t.findFault (.dock d) k) : JudgedAs d k n p s' t' := by
  have hnew : ∀ st i o, createdFault s' (.dock d) k st 1 [] i o = createdFault s (.dock d) k st 1 [] i o :=
    fun _ _ _ => by simp only [createdFault, hclock]
  refine ⟨?_, ?_, ?_⟩
  · rw [hs, ht]; exact h.held
  · rw [hs, ht]; exact h.absent
  · simp only [hs, ht, hnew]; exact h.suspect

theorem KindsJudged.of_records {d : Dock} {l : List (FaultKind × Nat × Bool)} {s t u : State}
    (h : KindsJudged d l s t) (hr : u.faults.records = t.faults.records) : KindsJudged d l s u where
  ok := by unfold State.faultsOk; rw [hr]; exact h.ok
  size := hr ▸ h.size
  others y j hj := (findFault_of_records hr y j).trans (h.others y j hj)
  judged p hp := (h.judged p hp).congr rfl rfl (findFault_of_records hr _ _)

theorem judgeAll_faultDocks (d : Dock) (l : List (FaultKind × Nat × Bool)) (s : State) :
    (judgeAll d l s).faults.docks = s.faults.docks := by
  induction l generalizing s with
  | nil => rfl
  | cons p l ih => exact (ih _).trans (judgeKind_faultDocks d _ _ _ s)

theorem judgeAll_links {l : List (FaultKind × Nat × Bool)} (hl : ∀ p ∈ l, p.1 ≠ .buttonStuck) (d : Dock) (s : State) :
    (judgeAll d l s).string.links = s.string.links := by
  induction l generalizing s with
  | nil => rfl
  | cons p l ih =>
    obtain ⟨hp, hl⟩ := List.forall_mem_cons.1 hl
    exact (ih hl _).trans (judgeKind_links hp d _ _ s)

theorem judgeAll_writes (d : Dock) : ∀ (l : List (FaultKind × Nat × Bool)) {s : State}, s.faultsOk →
    s.faults.records.length + l.length ≤ 32 → (l.map Prod.fst).Nodup →
    (∀ p ∈ l, p.2.2 = true → p.1 ≠ .forcedRemoval) → KindsJudged d l s (judgeAll d l s)
  | [], s, hs, _, _, _ => ⟨hs, Nat.le_refl _, fun _ _ _ => rfl, nofun⟩
  | p :: l, s, hs, hroom, hdiff, hforced => by
    rw [List.length_cons] at hroom
    obtain ⟨hp, hdiff⟩ := List.nodup_cons.1 hdiff
    obtain ⟨hforcedp, hforced⟩ := List.forall_mem_cons.1 hforced
    obtain ⟨⟨hok, hsize, hothers⟩, hjudged⟩ :=
      judgeKind_writes (d := d) hs (freeFaultSlot_isSome (by omega)) hforcedp p.2.1
    have hrest := judgeAll_writes d l hok (by omega) hdiff hforced
    have hne : ∀ q ∈ l, q.1 ≠ p.1 := fun q hq he => hp (he ▸ List.mem_map_of_mem hq)
    refine ⟨hrest.ok, ?_, fun y j hj => ?_, List.forall_mem_cons.2 ⟨?_, fun q hq => ?_⟩⟩
    · have := hrest.size
      rw [List.length_cons]
      exact this.trans (by omega)
    · obtain ⟨hjp, hjl⟩ := List.forall_mem_cons.1 hj
      exact (hrest.others y j hjl).trans (hothers y j hjp)
    · exact hjudged.congr rfl rfl (hrest.others _ _ fun q hq he => hne q hq he.2.symm)
    · exact (hrest.judged q hq).congr (hothers _ _ fun he => hne q hq he.2).symm
        (judgeKind_clock d p.1 p.2.1 p.2.2 s).symm rfl

/-! ### The mask of a stuck button (R141) -/

theorem tellChange_links (x : Subject) (g : Option Dock) (s : State) :
    (tellChange x g s).string.links = s.string.links :=
  managed_tellChange (links_reported _).toManifestClosed x g s rfl

/-- The mask follows the record of a stuck button: set where it enters ACTIVE, empty where it is retired. -/
theorem judgeKind_buttonMask (d : Dock) (n : Nat) (p : Bool) (s : State) :
    let mask := ((judgeKind d .buttonStuck n p s).link (dockNode d)).buttonMask
    (s.findFault (.dock d) .buttonStuck = none → mask = (s.link (dockNode d)).buttonMask) ∧
    (∀ r, s.findFault (.dock d) .buttonStuck = some r →
      (r.judged n p = none → mask = false) ∧
      (∀ z, r.judged n p = some z →
        (r.state ≠ .active → z.state = .active → mask = true) ∧
        (r.state = .active ∨ z.state ≠ .active → mask = (s.link (dockNode d)).buttonMask))) := by
  refine ⟨fun h => ?_, fun r hr => ?_⟩
  · rw [judgeKind_none h]
    split
    · exact congrArg LinkRecord.buttonMask (link_of_links
        (faulted_createSuspect (links_reported _).toFaultClosed (.dock d) .buttonStuck 1 [] s rfl) _)
    · rfl
  · obtain ⟨-, hsubject, hkind⟩ := mem_of_findFault hr
    rcases judgeKind_some hr n p with ⟨hj, he⟩ | ⟨hne, hj, he⟩ | ⟨hne, hj, he⟩ | ⟨hact, hj, he⟩ <;> rw [he, hj]
    · refine ⟨fun _ => ?_, nofun⟩
      rw [retireFault, removeFault_eq, link_of_links (tellChange_links _ _ _)]
      simp only [State.withoutFault, hsubject, hkind, if_true]
      rw [setLink_link, if_pos rfl]
    · have hset : ((confirmFault r s).link (dockNode d)).buttonMask = true := by
        rw [confirmFault_eq, link_of_links (tellChange_links _ _ _)]
        simp only [activeEffects, hsubject, hkind, if_true]
        rw [setLink_link, if_pos rfl]
      refine ⟨nofun, fun z hz => ?_⟩
      cases hz
      exact ⟨fun _ _ => hset, fun hstay => hstay.elim (fun h => absurd h hne) (fun h => absurd rfl h)⟩
    · refine ⟨nofun, fun z hz => ?_⟩
      cases hz
      exact ⟨fun _ h => absurd h hne, fun _ => rfl⟩
    · refine ⟨nofun, fun z hz => ?_⟩
      cases hz
      exact ⟨fun h => absurd hact h, fun _ => rfl⟩

/-! ### A rider's report (R143) -/

/-- The record of a bicycle's reports after a card has reported it. -/
structure ReportedAs (b : Bike) (c : CardNo) (s t : State) : Prop where
  active : s.findFault (.bike b) .riderReport = none → s.settings.reportThreshold ≤ 1 →
    ∃ i o, t.findFault (.bike b) .riderReport = some (createdFault s (.bike b) .riderReport .active 0 [c] i o)
  suspect : s.findFault (.bike b) .riderReport = none → 1 < s.settings.reportThreshold →
    ∃ i o, t.findFault (.bike b) .riderReport = some (createdFault s (.bike b) .riderReport .suspect 0 [c] i o)
  confirmed : ∀ r, s.findFault (.bike b) .riderReport = some r → r.state = .suspect →
    s.settings.reportThreshold ≤ (withReporter c r.reporters).length → t.findFault (.bike b) .riderReport =
      some { r with reporters := withReporter c r.reporters, state := .active, count := 0, seen := false }
  joined : ∀ r, s.findFault (.bike b) .riderReport = some r →
    (r.state ≠ .suspect ∨ (withReporter c r.reporters).length < s.settings.reportThreshold) →
    t.findFault (.bike b) .riderReport = some { r with reporters := withReporter c r.reporters }

theorem riderReport_writes {s : State} (hs : s.faultsOk) (hroom : s.freeFaultSlot.isSome = true) (b : Bike)
    (c : CardNo) :
    FaultWrites (.bike b) .riderReport s (riderReport b c s) ∧ ReportedAs b c s (riderReport b c s) := by
  cases hr : s.findFault (.bike b) .riderReport with
  | none =>
    rw [riderReport_new hr]
    split
    next hthreshold =>
      obtain ⟨hwrites, hnew⟩ := createActive_writes hs hr hroom [c]
      exact ⟨hwrites, fun _ _ => hnew, fun _ h => absurd hthreshold (Nat.not_le.2 h), by simp [hr], by simp [hr]⟩
    next hthreshold =>
      obtain ⟨hwrites, hnew⟩ := createSuspect_writes hs hr hroom 0 [c]
      exact ⟨hwrites, fun _ h => absurd h hthreshold, fun _ _ => hnew, by simp [hr], by simp [hr]⟩
  | some r =>
    rw [riderReport_again hr]
    obtain ⟨hwrites, hjoined⟩ := setFault_writes hs hr (fun x => { x with reporters := withReporter c r.reporters })
    dsimp only
    split
    next hconfirm =>
      obtain ⟨hwrites', hactive⟩ := confirmFault_writes hwrites.ok hjoined
      refine ⟨⟨hwrites'.ok, ?_, fun y j hne => (hwrites'.others y j hne).trans (hwrites.others y j hne)⟩,
        by simp [hr], by simp [hr], fun a ha _ _ => ?_, fun a ha hstay => ?_⟩
      · rw [confirmFault_records, State.confirmed, State.setFault, List.length_map, State.setFault, List.length_map]
        exact Nat.le_succ _
      · rw [hr] at ha; cases ha; exact hactive
      · rw [hr] at ha; cases ha
        exact absurd hconfirm fun ⟨h, h'⟩ => hstay.elim (fun hn => hn h) (fun hn => absurd h' (Nat.not_le.2 hn))
    next hstay =>
      refine ⟨hwrites, by simp [hr], by simp [hr], fun a ha h h' => ?_, fun a ha _ => ?_⟩
      · rw [hr] at ha; cases ha; exact absurd ⟨h, h'⟩ hstay
      · rw [hr] at ha; cases ha; exact hjoined

/-- A card's report depends on the record, the threshold and the time alone. -/
theorem ReportedAs.congr {b : Bike} {c : CardNo} {s s' t t' : State} (h : ReportedAs b c s t)
    (hs : s'.findFault (.bike b) .riderReport = s.findFault (.bike b) .riderReport)
    (hsettings : s'.settings = s.settings) (hclock : s'.clock = s.clock)
    (ht : t'.findFault (.bike b) .riderReport = t.findFault (.bike b) .riderReport) : ReportedAs b c s' t' := by
  have hnew : ∀ st i o, createdFault s' (.bike b) .riderReport st 0 [c] i o =
      createdFault s (.bike b) .riderReport st 0 [c] i o := fun _ _ _ => by simp only [createdFault, hclock]
  refine ⟨?_, ?_, ?_, ?_⟩
  · simp only [hs, ht, hsettings, hnew]; exact h.active
  · simp only [hs, ht, hsettings, hnew]; exact h.suspect
  · simp only [hs, ht, hsettings]; exact h.confirmed
  · simp only [hs, ht, hsettings]; exact h.joined

/-! ### A forced removal (R139) -/

section

variable {s : State} {d : Dock} {r : FaultRecord}

theorem forcedRemoval_none (h : s.findFault (.dock d) .forcedRemoval = none) :
    forcedRemoval d s = createActive (.dock d) .forcedRemoval [] s := by
  simp only [forcedRemoval, h]

theorem forcedRemoval_clearing (h : s.findFault (.dock d) .forcedRemoval = some r) (hr : r.state = .clearing) :
    forcedRemoval d s = confirmFault r s := by
  simp only [forcedRemoval, h, hr]

theorem forcedRemoval_stays (h : s.findFault (.dock d) .forcedRemoval = some r) (hr : r.state ≠ .clearing) :
    forcedRemoval d s = s := by
  simp only [forcedRemoval, h]
  split
  · exact absurd ‹_› hr
  · rfl
  · rfl

/-- With a slot free a forced removal writes its own record alone, which is ACTIVE after it unless it was SUSPECT. -/
theorem forcedRemoval_writes (hs : s.faultsOk) (hroom : s.freeFaultSlot.isSome = true) :
    FaultWrites (.dock d) .forcedRemoval s (forcedRemoval d s) ∧
    ((∀ r, s.findFault (.dock d) .forcedRemoval = some r → r.state ≠ .suspect) →
      ∃ r, (forcedRemoval d s).findFault (.dock d) .forcedRemoval = some r ∧ r.state = .active) := by
  cases hr : s.findFault (.dock d) .forcedRemoval with
  | none =>
    rw [forcedRemoval_none hr]
    obtain ⟨hwrites, i, o, hnew⟩ := createActive_writes hs hr hroom []
    exact ⟨hwrites, fun _ => ⟨_, hnew, rfl⟩⟩
  | some r =>
    by_cases hclearing : r.state = .clearing
    · rw [forcedRemoval_clearing hr hclearing]
      obtain ⟨hwrites, hnew⟩ := confirmFault_writes hs hr
      exact ⟨hwrites, fun _ => ⟨_, hnew, rfl⟩⟩
    · rw [forcedRemoval_stays hr hclearing]
      refine ⟨faultWrites_refl hs, fun hne => ⟨r, hr, ?_⟩⟩
      have hsuspect := hne r rfl
      cases hstate : r.state <;> simp_all

end

/-! ### BUTTON as a rider's report (R143) -/

section

variable {s : State} {d : Dock} {y : ReportContext}

theorem pressButton_none (h : (s.faultDock d).report = none) : pressButton d s = s := by
  simp only [pressButton, h]

theorem pressButton_same (h : (s.faultDock d).report = some y) (hb : (s.dock d).bike = some y.bike) :
    pressButton d s = riderReport y.bike y.card s := by
  simp only [pressButton, h, hb, if_true]

theorem pressButton_other (h : (s.faultDock d).report = some y) (hb : (s.dock d).bike ≠ some y.bike) :
    pressButton d s = s.setFaultDock d (fun f => { f with report := none }) := by
  simp only [pressButton, h, hb, if_false]

/-- A pressed button writes no record but one of a rider's report. -/
theorem pressButton_writes (hs : s.faultsOk) (hroom : s.freeFaultSlot.isSome = true) (d : Dock) :
    (pressButton d s).faultsOk ∧ ∀ x k, k ≠ .riderReport → (pressButton d s).findFault x k = s.findFault x k := by
  cases h : (s.faultDock d).report with
  | none =>
    rw [pressButton_none h]
    exact ⟨hs, fun _ _ _ => rfl⟩
  | some y =>
    by_cases hb : (s.dock d).bike = some y.bike
    · rw [pressButton_same h hb]
      have hwrites := (riderReport_writes hs hroom y.bike y.card).1
      exact ⟨hwrites.ok, fun x k hk => hwrites.others x k fun he => hk he.2⟩
    · rw [pressButton_other h hb]
      exact ⟨hs, fun _ _ _ => rfl⟩

/-- Clearing a dock's report context keeps the property (R142). -/
def EndsReports (P : State → Prop) : Prop :=
  ∀ (d : Dock) (s : State), P s → P (s.setFaultDock d (fun f => { f with report := none }))

theorem reported_pressButton {P : State → Prop} (h : ReportClosed P) (hends : EndsReports P)
    (hroom : s.freeFaultSlot.isSome = true ∨ MasksButton P) (d : Dock) (hs : P s) : P (pressButton d s) := by
  cases hr : (s.faultDock d).report with
  | none => rw [pressButton_none hr]; exact hs
  | some y =>
    by_cases hb : (s.dock d).bike = some y.bike
    · rw [pressButton_same hr hb]
      exact reported_riderReport h _ _ hroom hs
    · rw [pressButton_other hr hb]
      exact hends d s hs

end

/-! ### A sensed set (R138, R143) -/

/-- The kinds that a sensed set judges, with their thresholds and indications: a failed tag read counts as TAGERR. -/
def sensedKinds (x : SensedSet) (failed : Bool) : List (FaultKind × Nat × Bool) :=
  [(.coilOpen, 4, x.coilOpen), (.coilShort, 4, x.coilShort), (.tagUnreadable, 4, x.tagErr || failed),
    (.buttonStuck, 8, x.button), (.forcedRemoval, 4, false)]

/-- A sensed set before its button is taken as a rider's report. -/
def State.sensed (d : Dock) (x : SensedSet) (s : State) : State :=
  (judgeAll d (sensedKinds x (s.faultDock d).tagFailed) s).setFaultDock d (fun f => { f with tagFailed := false })

theorem sensedSet_eq (d : Dock) (x : SensedSet) (s : State) :
    sensedSet d x s = if x.button then pressButton d (s.sensed d x) else s.sensed d x := by
  have hfailed : ((judgeKind d .coilShort 4 x.coilShort (judgeKind d .coilOpen 4 x.coilOpen s)).faultDock d).tagFailed =
      (s.faultDock d).tagFailed := by
    unfold State.faultDock
    rw [judgeKind_faultDocks, judgeKind_faultDocks]
  unfold State.sensed
  rw [← hfailed]
  rfl

theorem sensedKinds_judged {s : State} (hs : s.faultsOk) (hroom : s.faults.records.length ≤ 27) (d : Dock)
    (x : SensedSet) : KindsJudged d (sensedKinds x (s.faultDock d).tagFailed) s (s.sensed d x) := by
  have hlen : (sensedKinds x (s.faultDock d).tagFailed).length = 5 := rfl
  refine (judgeAll_writes d _ hs (by omega) ?_ fun p hp hpresent hforced => ?_).of_records rfl
  · exact (by decide : [FaultKind.coilOpen, .coilShort, .tagUnreadable, .buttonStuck, .forcedRemoval].Nodup)
  · simp only [sensedKinds, List.mem_cons, List.not_mem_nil, or_false] at hp
    rcases hp with rfl | rfl | rfl | rfl | rfl <;> simp at hforced hpresent

/-- With seven slots free a sensed set judges its kinds, and writes no other record of a dock. -/
theorem sensedSet_judged {s : State} (hs : s.faultsOk) (hroom : s.faults.records.length ≤ 26) (d : Dock)
    (x : SensedSet) : (sensedSet d x s).faultsOk ∧
    (∀ y k, k ≠ .riderReport → (sensedSet d x s).findFault y k = (s.sensed d x).findFault y k) ∧
    ∀ p ∈ sensedKinds x (s.faultDock d).tagFailed, JudgedAs d p.1 p.2.1 p.2.2 s (sensedSet d x s) := by
  obtain ⟨hok, hsize, hothers, hjudged⟩ := sensedKinds_judged hs (by omega) d x
  have hfree : (s.sensed d x).freeFaultSlot.isSome = true := freeFaultSlot_isSome (by
    simp only [sensedKinds, List.length_cons, List.length_nil] at hsize
    omega)
  rw [sensedSet_eq]
  split
  · obtain ⟨hok', hsame⟩ := pressButton_writes hok hfree d
    refine ⟨hok', hsame, fun p hp => (hjudged p hp).congr rfl rfl (hsame _ _ ?_)⟩
    simp only [sensedKinds, List.mem_cons, List.not_mem_nil, or_false] at hp
    rcases hp with rfl | rfl | rfl | rfl | rfl <;> simp
  · exact ⟨hok, fun _ _ _ => rfl, hjudged⟩

end Sys2Proof.Machine
end

section
/-! PROOFS. A survey's answer in its four steps: presence, tap, sensed set, lamp; what each step leaves, and the
reports of the answer's BUTTON (R28, R29, R31 to R33, R74, R75, R77, R79, R141, R143). -/

namespace Sys2Proof.Machine

open Sys2Proof

/-! ### The mask of a stuck button after a sensed set (R141) -/

theorem links_endsReports (l : Vector LinkRecord 31) : EndsReports (fun t => t.string.links = l) := fun _ _ h => h

/-- The mask after a sensed set follows the BUTTON_STUCK record that it judges. -/
theorem sensedSet_buttonMask {s : State} (hs : s.faultsOk) (hroom : s.faults.records.length ≤ 26) (d : Dock)
    (x : SensedSet) :
    let mask := ((sensedSet d x s).link (dockNode d)).buttonMask
    (s.findFault (.dock d) .buttonStuck = none → mask = (s.link (dockNode d)).buttonMask) ∧
    (∀ r, s.findFault (.dock d) .buttonStuck = some r →
      (r.judged 8 x.button = none → mask = false) ∧
      (∀ z, r.judged 8 x.button = some z →
        (r.state ≠ .active → z.state = .active → mask = true) ∧
        (r.state = .active ∨ z.state ≠ .active → mask = (s.link (dockNode d)).buttonMask))) := by
  let before : List (FaultKind × Nat × Bool) := [(.coilOpen, 4, x.coilOpen), (.coilShort, 4, x.coilShort),
    (.tagUnreadable, 4, x.tagErr || (s.faultDock d).tagFailed)]
  have hbefore : KindsJudged d before s (judgeAll d before s) := by
    refine judgeAll_writes d before hs (by simp only [before, List.length_cons, List.length_nil]; omega) ?_ ?_
    · exact (by decide : [FaultKind.coilOpen, .coilShort, .tagUnreadable].Nodup)
    · simp [before]
  have hlinks : (judgeAll d before s).string.links = s.string.links := judgeAll_links (by simp [before]) d s
  have hfind : (judgeAll d before s).findFault (.dock d) .buttonStuck = s.findFault (.dock d) .buttonStuck :=
    hbefore.others _ _ (by simp [before])
  have hfree : (s.sensed d x).freeFaultSlot.isSome = true := freeFaultSlot_isSome (by
    have hsize := (sensedKinds_judged hs (by omega) d x).size
    have hlen : (sensedKinds x (s.faultDock d).tagFailed).length = 5 := rfl
    omega)
  have hpress : (sensedSet d x s).string.links = (s.sensed d x).string.links := by
    rw [sensedSet_eq]
    split
    · exact reported_pressButton (links_reported _) (links_endsReports _) (.inl hfree) d rfl
    · rfl
  have hjudge : (s.sensed d x).string.links =
      (judgeKind d .buttonStuck 8 x.button (judgeAll d before s)).string.links :=
    judgeKind_links (k := .forcedRemoval) (by decide) d 4 false _
  have hmask := judgeKind_buttonMask d 8 x.button (judgeAll d before s)
  rw [hfind, link_of_links hlinks] at hmask
  rw [link_of_links (hpress.trans hjudge)]
  exact hmask

/-! ### Presence (R28, R29, R32) -/

/-- What finding a bicycle at a dock, or none, can do outside the call queue, the deferred list and the Fault Table. -/
structure StayClosed (d : Dock) (P : State → Prop) : Prop extends TripClosed P where
  setDock : ∀ (f : DockRecord → DockRecord) (s : State), P s → P (s.setDock d f)

theorem abandonRelease_eq (d : Dock) (x : ReleaseContext) (s : State) : abandonRelease d x s =
    (forcedRemoval d (giveBack d x (fun s => s.dropTrip x.bike) s)).setRelease d none := rfl

/-- The calls that undo a release (R77). -/
def undoCalls (d : Dock) (b : Bike) (s : State) : State :=
  placeDock d .unstamp [] (.hireUnit b) (placeDock d .relock [] (.hireUnit b) s)

theorem cancelRelease_eq (d : Dock) (x : ReleaseContext) (s : State) : cancelRelease d x s =
    ((showRefusal 3 d (setOccupancy d .occupied
      (giveBack d x (fun s => s.moveTrip x.bike (fun r => { r with state := .cancelling }))
        (undoCalls d x.bike s)))).setRelease d none).setCancel d (some
      { kind := x.kind, bike := x.bike, card := x.card, start := x.start, relockDone := false,
        unstampDone := false }) := rfl

section

variable {d : Dock} {P Q : State → Prop} (hP : StayClosed d P) (hQ : StayClosed d Q)

include hQ in
theorem arrival_kept (htag : ∀ s, P s → Q (queueTagread d s)) (hset : ∀ f s, P s → P (s.setDock d f)) {s : State}
    (hs : P s) : Q (arrival d s) := by
  have hread := managed_tellArrival hQ.toManifestClosed d _ (htag _ (hset
    (fun r => { r.forget with occupancy := .occupied }) s hs))
  unfold arrival
  dsimp only
  split
  · exact hQ.noteManifest _ hread
  · exact hread

include hP in
theorem foundEmpty_kept {s : State} (hs : P s) : P (foundEmpty d s) :=
  managed_tellOccupancy hP.toManifestClosed d _ (hP.setDock _ s hs)

include hP in
theorem setOccupancy_kept (o : Occupancy) {s : State} (hs : P s) : P (setOccupancy d o s) :=
  managed_tellOccupancy hP.toManifestClosed d _ (closed_selectLamp hP.toLampClosed d _ (hP.setDock _ s hs))

include hP in
theorem emptyDock_kept (hleave : ∀ s, P s → P (s.setDeferral d none)) {s : State} (hs : P s) : P (emptyDock d s) :=
  managed_tellOccupancy hP.toManifestClosed d _
    (closed_selectLamp hP.toLampClosed d _ (hleave _ (hP.setDock _ s hs)))

include hQ in
theorem cancelRelease_kept (hcalls : ∀ b s, P s → Q (undoCalls d b s)) (x : ReleaseContext) {s : State} (hs : P s) :
    Q (cancelRelease d x s) := by
  rw [cancelRelease_eq]
  refine hQ.setCancel _ _ _ (hQ.setRelease _ _ _ (closed_showRefusal hQ.toLampClosed _ _ _ (setOccupancy_kept hQ _ ?_)))
  exact tripped_giveBack hQ.toTripClosed (fun s hs => tripped_moveTrip hQ.toTripClosed _ _ s hs) _ _ _ (hcalls _ s hs)

include hP hQ in
theorem stillPresent_kept (hPQ : ∀ s, P s → Q s) (hcalls : ∀ b s, P s → Q (undoCalls d b s)) {s : State}
    (hs : P s) : Q (stillPresent d s) := by
  unfold stillPresent
  repeat' split
  · exact hPQ s hs
  · exact hPQ s hs
  · exact hPQ s hs
  · exact hPQ _ (hP.setRelease d _ s hs)
  · exact cancelRelease_kept hQ hcalls _ hs

include hP hQ in
theorem releaseDeparture_kept (hPQ : ∀ s, P s → Q s) (hforced : ∀ s, P s → Q (forcedRemoval d s)) {s : State}
    (hs : P s) : Q (releaseDeparture d s) := by
  unfold releaseDeparture
  repeat' split
  · exact hPQ s hs
  · rw [abandonRelease_eq]
    exact hQ.setRelease d none _ (hforced _ (tripped_giveBack hP.toTripClosed
      (fun s hs => hP.filterTrips _ s hs) _ _ s hs))
  all_goals exact hPQ _ (tripped_pullRelease hP.toTripClosed d _ s hs)

include hP in
theorem occupiedDeparture_kept (hPQ : ∀ s, P s → Q s) (hforced : ∀ s, P s → Q (forcedRemoval d s)) {s : State}
    (hs : P s) : Q (occupiedDeparture d s) := by
  have hcrew : ∀ b, Q (crewDeparture d b s) := fun b => by
    unfold crewDeparture
    split
    · exact hPQ _ (tripped_dropCancelOf hP.toTripClosed b _ (managed_crewReport hP.toManifestClosed _ _ _ _ _ s hs))
    · exact hforced _ (tripped_dropCancelOf hP.toTripClosed b s hs)
  unfold occupiedDeparture
  repeat' split
  · exact hforced s hs
  · exact hPQ _ (tripped_latePullTrip hP.toTripClosed _ s hs)
  · exact hcrew _
  · exact hcrew _

include hP hQ in
theorem departure_kept (hPQ : ∀ s, P s → Q s) (hforced : ∀ s, P s → Q (forcedRemoval d s))
    (hleave : ∀ s, Q s → Q (s.setDeferral d none)) {s : State} (hs : P s) : Q (departure d s) := by
  unfold departure
  refine emptyDock_kept hQ hleave ?_
  split
  · exact releaseDeparture_kept hP hQ hPQ hforced hs
  · exact occupiedDeparture_kept hP hPQ hforced hs

include hP hQ in
/-- What the presence step keeps, where its calls, a forced removal and the end of a deferred arrival lead from `P` to
`Q`: a departure takes place at a dock OCCUPIED or RELEASING, without BIKE. -/
theorem presence_kept {bike resync : Bool} {s : State} (hPQ : ∀ s, P s → Q s)
    (htag : ∀ s, P s → Q (queueTagread d s)) (hcalls : ∀ b s, P s → Q (undoCalls d b s))
    (hdeparts : bike = false → (s.dock d).occupancy = .occupied ∨ (s.dock d).occupancy = .releasing →
      (∀ s, P s → Q (forcedRemoval d s)) ∧ ∀ s, Q s → Q (s.setDeferral d none)) (hs : P s) :
    Q (presence d bike resync s) := by
  have harrives := arrival_kept hQ htag hP.setDock hs
  cases bike with
  | true =>
    cases hocc : (s.dock d).occupancy <;> simp only [presence, hocc]
    · exact harrives
    · exact harrives
    · repeat' split
      · exact harrives
      · exact htag s hs
      · exact hPQ s hs
    · exact stillPresent_kept hP hQ hPQ hcalls hs
  | false =>
    have hleft : (s.dock d).occupancy = .occupied ∨ (s.dock d).occupancy = .releasing → Q (departure d s) := fun h =>
      departure_kept hP hQ hPQ (hdeparts rfl h).1 (hdeparts rfl h).2 hs
    cases hocc : (s.dock d).occupancy <;> simp only [presence, hocc]
    · exact hPQ _ (foundEmpty_kept hP hs)
    · exact hPQ s hs
    · exact hleft (.inl hocc)
    · exact hleft (.inr hocc)

end

end Sys2Proof.Machine
end

section
/-! PROOFS. The dock records after a survey's answer (R28, R29, R32, R33, R77). -/

namespace Sys2Proof.Machine

open Sys2Proof

/-! ### The four steps of a survey's answer -/

/-- The presence step, with the condition kept and the resynchronization used up. -/
def State.received (d : Dock) (x : Byte) (mark : Bool) (s : State) : State :=
  let u := (presence d (hasBike x) (mark || (s.dock d).resyncDue) s).setDock d
    (fun r => { r with lastCondition := some x, resyncDue := false })
  if hasBike x then u else watchReport d none u

def State.tapped (d : Dock) (x : Byte) (s : State) : State :=
  if hasTap x then placeDock d .tapread [] .dockMonitor s else s

/-- The held BUTTON of a dock is used up. -/
def State.unpressed (d : Dock) (s : State) : State := s.setDock d (fun r => { r with heldButton := false })

/-- The state whose mask and held BUTTON make the sensed set. -/
def State.surveyed (d : Dock) (x : Byte) (mark : Bool) (s : State) : State := (s.received d x mark).tapped d x

theorem surveyAnswer_eq (d : Dock) (x : Byte) (mark : Bool) (s : State) : surveyAnswer d x mark s =
    selectLamp d (sensedSet d (sensedOf x ((s.surveyed d x mark).link (dockNode d)).mask
      ((s.surveyed d x mark).dock d).heldButton) ((s.surveyed d x mark).unpressed d)) := rfl

section

variable {d : Dock} {P Q : State → Prop} (hP : StayClosed d P) (hQ : StayClosed d Q)

include hP hQ in
theorem received_kept {x : Byte} {mark : Bool} {s : State} (hPQ : ∀ s, P s → Q s)
    (htag : ∀ s, P s → Q (queueTagread d s)) (hcalls : ∀ b s, P s → Q (undoCalls d b s))
    (hdeparts : hasBike x = false → (s.dock d).occupancy = .occupied ∨ (s.dock d).occupancy = .releasing →
      (∀ s, P s → Q (forcedRemoval d s)) ∧ ∀ s, Q s → Q (s.setDeferral d none)) (hs : P s) :
    Q (s.received d x mark) := by
  have hmet := hQ.setDock (fun r => { r with lastCondition := some x, resyncDue := false }) _
    (presence_kept hP hQ (resync := mark || (s.dock d).resyncDue) hPQ htag hcalls hdeparts hs)
  unfold State.received
  dsimp only
  split
  · exact hmet
  · exact tripped_watchReport hQ.toTripClosed d none _ hmet

/-- What keeps a property through a survey's answer up to its sensed set. -/
theorem surveyed_kept (hP : StayClosed d P) (hcalls : ∀ r s, P s → P (enqueue r s))
    (hforced : ∀ s, P s → P (forcedRemoval d s)) (hleave : ∀ s, P s → P (s.setDeferral d none)) (x : Byte)
    (mark : Bool) {s : State} (hs : P s) : P (s.surveyed d x mark) := by
  have hplace : ∀ v o s, P s → P (placeDock d v [] o s) := fun v o s hs => hP.takeNext _ (hcalls _ s hs)
  have hmet := received_kept hP hP (x := x) (mark := mark) (fun _ => id) (hplace _ _)
    (fun b s hs => hplace _ _ _ (hplace _ _ s hs)) (fun _ _ => ⟨hforced, hleave⟩) hs
  unfold State.surveyed State.tapped
  split
  · exact hplace _ _ _ hmet
  · exact hmet

end

/-! ### The records of other docks -/

theorem known_tripped (e : Dock) (r : DockRecord) : TripClosed (fun t => (t.dock e).known = r) where
  lampDock := (known_closed e r).lampDock
  show_ := (known_closed e r).show_
  takeNext := (known_closed e r).takeNext
  setManifest _ _ _ h := h
  noteManifest _ h := h
  noteFollowOn _ h := h
  filterHire _ _ h := h
  setCard _ _ _ h := h
  setTrip _ _ _ h := h
  filterTrips _ _ h := h
  noteTrips _ h := h
  setRelease _ _ _ h := h
  setCancel _ _ _ h := h

theorem known_stay {d e : Dock} (hne : e ≠ d) (r : DockRecord) : StayClosed d (fun t => (t.dock e).known = r) where
  toTripClosed := known_tripped e r
  setDock f s h := by rw [setDock_dock, if_neg (Ne.symm hne)]; exact h

/-- A survey's answer leaves what answers gave the other docks. -/
theorem surveyAnswer_other_known {d e : Dock} (hne : e ≠ d) (x : Byte) (mark : Bool) (s : State) :
    ((surveyAnswer d x mark s).dock e).known = (s.dock e).known := by
  have hcalm := known_closed e (s.dock e).known
  have hup := surveyed_kept (known_stay hne (s.dock e).known) hcalm.enqueue
    (fun s hs => closed_forcedRemoval hcalm d s hs) (fun _ hs => hs) x mark (s := s) rfl
  rw [surveyAnswer_eq]
  refine closed_selectLamp hcalm.toLampClosed d _ (closed_sensedSet hcalm d _ _ ?_)
  exact (known_stay hne (s.dock e).known).setDock _ _ hup

/-! ### The record of the dock -/

/-- The Hire Unit holds an overdue release at a dock (R74). -/
def State.overdueAt (s : State) (d : Dock) : Prop := ∃ y, s.release d = some y ∧ y.phase = .overdue

/-- The record of a dock where a new bicycle has been found (R28). -/
def DockRecord.fresh (r : DockRecord) : DockRecord := { r.forget with occupancy := .occupied }

/-- The record of a dock whose bicycle has gone (R29). -/
def DockRecord.left (r : DockRecord) : DockRecord := { r.forget with occupancy := .empty }

/-- The record after a survey's answer: the condition kept, the resynchronization and the held BUTTON used up. -/
def DockRecord.answered (x : Byte) (r : DockRecord) : DockRecord :=
  { r with lastCondition := some x, resyncDue := false, heldButton := false }

/-- A record is written, and what answers gave it changes with it. -/
theorem known_write {f : DockRecord → DockRecord} (hf : ∀ r, (f r).known = (f r.known).known) {a b : DockRecord}
    (h : a.known = b.known) : (f a).known = (f b).known := by
  rw [hf a, h, ← hf b]

section

variable {s : State} {d : Dock}

theorem setDock_own_known (f : DockRecord → DockRecord) (s : State) (d : Dock) :
    ((s.setDock d f).dock d).known = (f (s.dock d)).known := by
  rw [setDock_dock, if_pos rfl]

theorem setDock_known_write {f : DockRecord → DockRecord} (hf : ∀ r, (f r).known = (f r.known).known) {m : DockRecord}
    (h : (s.dock d).known = m.known) : ((s.setDock d f).dock d).known = (f m).known :=
  (setDock_own_known f s d).trans (known_write hf h)

theorem arrival_known (d : Dock) (s : State) : ((arrival d s).dock d).known = (s.dock d).fresh.known := by
  have hcalm := known_closed d (s.dock d).fresh.known
  have hread := closed_tellArrival hcalm d _ (closed_placeDock hcalm d .tagread [] .dockMonitor _
    (setDock_own_known (fun r => { r.forget with occupancy := .occupied }) s d))
  unfold arrival
  dsimp only
  split
  · exact hread
  · exact hread

theorem queueTagread_known (d : Dock) (s : State) : ((queueTagread d s).dock d).known = (s.dock d).known :=
  closed_placeDock (known_closed d _) d .tagread [] .dockMonitor s rfl

theorem foundEmpty_known (d : Dock) (s : State) :
    ((foundEmpty d s).dock d).known = ({ s.dock d with occupancy := .empty } : DockRecord).known :=
  closed_tellOccupancy (known_closed d _) d _ (setDock_own_known _ s d)

theorem departure_known (d : Dock) (s : State) : ((departure d s).dock d).known = (s.dock d).left.known := by
  have hgone : ((if (s.dock d).occupancy = .releasing then releaseDeparture d s
      else occupiedDeparture d s).dock d).known = (s.dock d).known := by
    split
    · exact closed_releaseDeparture (known_closed d _) d s rfl
    · exact closed_occupiedDeparture (known_closed d _) d s rfl
  unfold departure emptyDock
  refine closed_tellOccupancy (known_closed d _) d _ (closed_selectLamp (known_closed d _).toLampClosed d _ ?_)
  exact setDock_known_write (f := DockRecord.left) (fun _ => rfl) hgone

theorem setOccupancy_known (d : Dock) (o : Occupancy) (s : State) :
    ((setOccupancy d o s).dock d).known = ({ s.dock d with occupancy := o } : DockRecord).known :=
  closed_tellOccupancy (known_closed d _) d _
    (closed_selectLamp (known_closed d _).toLampClosed d _ (setDock_own_known _ s d))

theorem cancelRelease_known (d : Dock) (x : ReleaseContext) (s : State) :
    ((cancelRelease d x s).dock d).known = ({ s.dock d with occupancy := .occupied } : DockRecord).known := by
  have hframe : ∀ (t : State) y z, ((t.setRelease d y).setCancel d z).dock d = t.dock d := fun _ _ _ => rfl
  have hcalm := known_closed d (s.dock d).known
  have hcalls : ((undoCalls d x.bike s).dock d).known = (s.dock d).known :=
    closed_placeDock hcalm d _ _ _ _ (closed_placeDock hcalm d _ _ _ s rfl)
  have hgiven := tripped_giveBack (known_tripped d (s.dock d).known) (d := d) (x := x)
    (fun s hs => tripped_moveTrip (known_tripped d _) x.bike (fun r => { r with state := .cancelling }) s hs) _ hcalls
  have hoccupied := (setOccupancy_known d .occupied _).trans
    (known_write (f := fun r => { r with occupancy := .occupied }) (fun _ => rfl) hgiven)
  have hshown := closed_showRefusal (known_closed d _).toLampClosed 3 d _ hoccupied
  rw [cancelRelease_eq, hframe]
  exact hshown

theorem stillPresent_overdue_known (h : s.overdueAt d) :
    ((stillPresent d s).dock d).known = ({ s.dock d with occupancy := .occupied } : DockRecord).known := by
  obtain ⟨y, hy, hphase⟩ := h
  simp only [stillPresent, hy, hphase]
  exact cancelRelease_known d y s

theorem stillPresent_known (h : ¬s.overdueAt d) : ((stillPresent d s).dock d).known = (s.dock d).known := by
  unfold stillPresent
  repeat' split
  · rfl
  · rfl
  · rfl
  · rfl
  next y hy _ hphase => exact absurd ⟨y, hy, hphase⟩ h

/-- The presence step leaves the held BUTTON of the dock. -/
theorem presence_met (bike resync : Bool) (s : State) (d : Dock) :
    ∃ m : DockRecord, ((presence d bike resync s).dock d).known = m.known ∧ m.heldButton = (s.dock d).heldButton := by
  have harrives : ∃ m : DockRecord, ((arrival d s).dock d).known = m.known ∧ m.heldButton = (s.dock d).heldButton :=
    ⟨_, arrival_known d s, rfl⟩
  have hleaves : ∃ m : DockRecord, ((departure d s).dock d).known = m.known ∧ m.heldButton = (s.dock d).heldButton :=
    ⟨_, departure_known d s, rfl⟩
  cases bike <;> cases hocc : (s.dock d).occupancy <;> simp only [presence, hocc]
  · exact ⟨_, foundEmpty_known d s, rfl⟩
  · exact ⟨_, rfl, rfl⟩
  · exact hleaves
  · exact hleaves
  · exact harrives
  · exact harrives
  · repeat' split
    · exact harrives
    · exact ⟨_, queueTagread_known d s, rfl⟩
    · exact ⟨_, rfl, rfl⟩
  · by_cases h : s.overdueAt d
    · exact ⟨_, stillPresent_overdue_known h, rfl⟩
    · exact ⟨_, stillPresent_known h, rfl⟩

/-- The record up to the sensed set, from what the presence step made of it. -/
theorem surveyed_known {x : Byte} {mark : Bool} {m : DockRecord}
    (h : ((presence d (hasBike x) (mark || (s.dock d).resyncDue) s).dock d).known = m.known) :
    ((s.surveyed d x mark).dock d).known =
      ({ m with lastCondition := some x, resyncDue := false } : DockRecord).known := by
  have hcalm := known_closed d ({ m with lastCondition := some x, resyncDue := false } : DockRecord).known
  have hwritten := setDock_known_write (f := fun r => { r with lastCondition := some x, resyncDue := false })
    (fun _ => rfl) h
  have hreceived : ((s.received d x mark).dock d).known =
      ({ m with lastCondition := some x, resyncDue := false } : DockRecord).known := by
    unfold State.received
    dsimp only
    split
    · exact hwritten
    · exact closed_watchReport hcalm d none _ hwritten
  unfold State.surveyed State.tapped
  split
  · exact closed_placeDock hcalm d _ _ _ _ hreceived
  · exact hreceived

theorem heldButton_of_known {a b : DockRecord} (h : a.known = b.known) : a.heldButton = b.heldButton :=
  (congrArg DockRecord.heldButton h : a.known.heldButton = b.known.heldButton)

theorem surveyed_heldButton (x : Byte) (mark : Bool) (s : State) (d : Dock) :
    ((s.surveyed d x mark).dock d).heldButton = (s.dock d).heldButton := by
  obtain ⟨m, hm, hheld⟩ := presence_met (hasBike x) (mark || (s.dock d).resyncDue) s d
  exact (heldButton_of_known (surveyed_known hm)).trans hheld

theorem surveyAnswer_known {x : Byte} {mark : Bool} {m : DockRecord}
    (h : ((presence d (hasBike x) (mark || (s.dock d).resyncDue) s).dock d).known = m.known) :
    ((surveyAnswer d x mark s).dock d).known = (m.answered x).known := by
  have hcalm := known_closed d (m.answered x).known
  rw [surveyAnswer_eq]
  refine closed_selectLamp hcalm.toLampClosed d _ (closed_sensedSet hcalm d _ _ ?_)
  exact setDock_known_write (f := fun r => { r with heldButton := false }) (fun _ => rfl) (surveyed_known h)

end

end Sys2Proof.Machine
end

section
/-! PROOFS. The fault table after a survey's answer: the sensed kinds, a forced removal, a rider's report, and the mask
of a stuck button (R138, R139, R141, R143). -/

namespace Sys2Proof.Machine

open Sys2Proof

/-! ### Up to the sensed set the table changes in a forced removal alone -/

section

variable {d : Dock} {P : State → Prop}

/-- A property of the fault table and the link records stays while presence is taken in. -/
theorem stay_of_tables (h : ∀ s t : State, P s → t.faults = s.faults → t.string.links = s.string.links → P t) :
    StayClosed d P where
  lampDock _ _ _ _ hs := h _ _ hs rfl rfl
  show_ _ _ s hs := h _ _ hs (enqueue_faults s _) (enqueue_links _ s)
  takeNext s hs := h _ _ hs (takeNext_faults s) (takeNext_links s)
  setManifest _ _ _ hs := h _ _ hs rfl rfl
  noteManifest _ hs := h _ _ hs rfl rfl
  noteFollowOn _ hs := h _ _ hs rfl rfl
  filterHire _ _ hs := h _ _ hs rfl rfl
  setCard _ _ _ hs := h _ _ hs rfl rfl
  setTrip _ _ _ hs := h _ _ hs rfl rfl
  filterTrips _ _ hs := h _ _ hs rfl rfl
  noteTrips _ hs := h _ _ hs rfl rfl
  setRelease _ _ _ hs := h _ _ hs rfl rfl
  setCancel _ _ _ hs := h _ _ hs rfl rfl
  setDock _ _ hs := h _ _ hs rfl rfl

theorem stay_of_closed (h : Closed P) : StayClosed d P where
  toLampClosed := h.toLampClosed
  setManifest f s _ hs := h.setManifest f s hs
  noteManifest := h.noteManifest
  noteFollowOn := h.noteFollowOn
  filterHire := h.filterHire
  setCard := h.setCard
  setTrip := h.setTrip
  filterTrips := h.filterTrips
  noteTrips := h.noteTrips
  setRelease := h.setRelease
  setCancel := h.setCancel
  setDock := h.setDock d

/-- From the presence step to the sensed set. -/
theorem surveyed_of_presence (hP : StayClosed d P) (htap : ∀ s, P s → P (placeDock d .tapread [] .dockMonitor s))
    {x : Byte} {mark : Bool} {s : State} (hs : P (presence d (hasBike x) (mark || (s.dock d).resyncDue) s)) :
    P (s.surveyed d x mark) := by
  have hmet := hP.setDock (fun r => { r with lastCondition := some x, resyncDue := false }) _ hs
  have hreceived : P (s.received d x mark) := by
    unfold State.received
    dsimp only
    split
    · exact hmet
    · exact tripped_watchReport hP.toTripClosed d none _ hmet
  unfold State.surveyed State.tapped
  split
  · exact htap _ hreceived
  · exact hreceived

end

theorem faultDock_of_faults {s t : State} (h : t.faults = s.faults) (d : Dock) : t.faultDock d = s.faultDock d := by
  unfold State.faultDock
  rw [h]

theorem setFaultDock_findFault (d : Dock) (f : FaultDock → FaultDock) (x : Subject) (k : FaultKind) (s : State) :
    (s.setFaultDock d f).findFault x k = s.findFault x k := rfl

theorem placeDock_faults (d : Dock) (v : Verb) (l : List Byte) (o : Originator) (s : State) :
    (placeDock d v l o s).faults = s.faults := by
  rw [placeDock, place, takeNext_faults, enqueue_faults]

theorem placeDock_links (d : Dock) (v : Verb) (l : List Byte) (o : Originator) (s : State) :
    (placeDock d v l o s).string.links = s.string.links := by
  rw [placeDock, place, takeNext_links, enqueue_links]

theorem forcedRemoval_faultDocks (d : Dock) (s : State) : (forcedRemoval d s).faults.docks = s.faults.docks :=
  faulted_forcedRemoval (faultDocks_faulted (· = s.faults.docks)) d (.inr (faultDocks_masks (· = s.faults.docks))) rfl

theorem forcedRemoval_links {s : State} (hroom : s.freeFaultSlot.isSome = true) (d : Dock) :
    (forcedRemoval d s).string.links = s.string.links :=
  faulted_forcedRemoval (links_reported _).toFaultClosed d (.inl hroom) rfl

/-- A dock's answer has been taken in up to its sensed set: of the fault table a forced removal may have been
written. -/
structure AnswerTaken (d : Dock) (s u : State) : Prop where
  faults : FaultWrites (.dock d) .forcedRemoval s u
  links : u.string.links = s.string.links
  faultDocks : u.faults.docks = s.faults.docks

/-- Fault table and link records are as they were. -/
def State.sameTables (s t : State) : Prop := t.faults = s.faults ∧ t.string.links = s.string.links

theorem sameTables_stay (d : Dock) (s : State) : StayClosed d s.sameTables :=
  stay_of_tables fun _ _ h hf hl => ⟨hf.trans h.1, hl.trans h.2⟩

theorem sameTables_placeDock (e : Dock) (v : Verb) (l : List Byte) (o : Originator) {s t : State}
    (h : s.sameTables t) : s.sameTables (placeDock e v l o t) :=
  ⟨(placeDock_faults e v l o t).trans h.1, (placeDock_links e v l o t).trans h.2⟩

theorem answerTaken_of_sameTables {d : Dock} {s t u : State} (h : AnswerTaken d s t) (hu : t.sameTables u) :
    AnswerTaken d s u where
  faults := h.faults.of_records (congrArg FaultTable.records hu.1)
  links := hu.2.trans h.links
  faultDocks := (congrArg FaultTable.docks hu.1).trans h.faultDocks

theorem answerTaken_refl {s : State} (hs : s.faultsOk) (d : Dock) : AnswerTaken d s s :=
  ⟨faultWrites_refl hs, rfl, rfl⟩

theorem forcedRemoval_taken {d : Dock} {s t : State} (hs : s.faultsOk) (hroom : s.faults.records.length < 32)
    (h : s.sameTables t) : AnswerTaken d s (forcedRemoval d t) := by
  obtain ⟨hfaults, hlinks⟩ := h
  have hrecords : t.faults.records = s.faults.records := congrArg FaultTable.records hfaults
  have hok : t.faultsOk := by unfold State.faultsOk; rw [hrecords]; exact hs
  have hfree : t.freeFaultSlot.isSome = true := freeFaultSlot_isSome (by rw [hrecords]; exact hroom)
  exact ⟨(forcedRemoval_writes hok hfree).1.from_records hrecords, (forcedRemoval_links hfree d).trans hlinks,
    (forcedRemoval_faultDocks d t).trans (congrArg FaultTable.docks hfaults)⟩

theorem surveyed_taken {d : Dock} {s : State} (hs : s.faultsOk) (hroom : s.faults.records.length < 32) (x : Byte)
    (mark : Bool) : AnswerTaken d s (s.surveyed d x mark) := by
  have hstay : StayClosed d (AnswerTaken d s) :=
    stay_of_tables fun _ _ h hf hl => answerTaken_of_sameTables h ⟨hf, hl⟩
  refine surveyed_of_presence hstay (fun t h => answerTaken_of_sameTables h (sameTables_placeDock _ _ _ _ ⟨rfl, rfl⟩))
    (presence_kept (sameTables_stay d s) hstay (fun t h => answerTaken_of_sameTables (answerTaken_refl hs d) h)
      (fun t h => ?_) (fun b t h => ?_) (fun _ _ => ⟨fun t h => forcedRemoval_taken hs hroom h, fun t h =>
        answerTaken_of_sameTables h ⟨rfl, rfl⟩⟩) ⟨rfl, rfl⟩)
  · exact answerTaken_of_sameTables (answerTaken_refl hs d) (sameTables_placeDock _ _ _ _ h)
  · exact answerTaken_of_sameTables (answerTaken_refl hs d)
      (sameTables_placeDock _ _ _ _ (sameTables_placeDock _ _ _ _ h))

/-- With BIKE, or at a dock neither OCCUPIED nor RELEASING, the table stays up to the sensed set. -/
theorem surveyed_sameTables {d : Dock} {s : State} {x : Byte} (hstays : hasBike x = true ∨
    ((s.dock d).occupancy ≠ .occupied ∧ (s.dock d).occupancy ≠ .releasing)) (mark : Bool) :
    s.sameTables (s.surveyed d x mark) := by
  have hplace : ∀ v o t, s.sameTables t → s.sameTables (placeDock d v [] o t) := fun v o t h =>
    sameTables_placeDock _ _ _ _ h
  refine surveyed_of_presence (sameTables_stay d s) (hplace _ _)
    (presence_kept (sameTables_stay d s) (sameTables_stay d s) (fun _ => id) (hplace _ _)
      (fun b t h => hplace _ _ _ (hplace _ _ t h)) (fun hbike hocc => ?_) ⟨rfl, rfl⟩)
  rcases hstays with h | ⟨h, h'⟩
  · rw [hbike] at h; cases h
  · exact absurd hocc (not_or.2 ⟨h, h'⟩)

theorem surveyed_settings (d : Dock) (x : Byte) (mark : Bool) (s : State) :
    (s.surveyed d x mark).settings = s.settings ∧ (s.surveyed d x mark).clock = s.clock := by
  have hclosed := (outside_closed s).toClosed
  obtain ⟨hsettings, hclock, -⟩ := surveyed_kept (stay_of_closed (d := d) hclosed) hclosed.enqueue
    (closed_forcedRemoval hclosed.toCalmClosed d) (hclosed.setDeferral d none) x mark (s := s)
    ⟨rfl, rfl, rfl, rfl, rfl, rfl, rfl⟩
  exact ⟨hsettings, hclock⟩

/-! ### The sensed set of a survey's answer -/

/-- The sensed set of an answer, by the mask and the held BUTTON with which it came in (R33). -/
def State.sensedBy (s : State) (d : Dock) (x : Byte) : SensedSet :=
  sensedOf x (s.link (dockNode d)).mask (s.dock d).heldButton

/-- The state in which a survey's sensed set is judged. -/
def State.judging (d : Dock) (x : Byte) (mark : Bool) (s : State) : State := (s.surveyed d x mark).unpressed d

theorem surveyAnswer_senses {d : Dock} {x : Byte} {mark : Bool} {s : State}
    (h : (s.surveyed d x mark).string.links = s.string.links) :
    surveyAnswer d x mark s = selectLamp d (sensedSet d (s.sensedBy d x) (s.judging d x mark)) := by
  rw [surveyAnswer_eq, surveyed_heldButton, link_of_links h]
  rfl

theorem selectLamp_faults (d : Dock) (s : State) : (selectLamp d s).faults = s.faults := by
  rw [(selectLamp_relights d s).frame]

theorem selectLamp_links (d : Dock) (s : State) : (selectLamp d s).string.links = s.string.links :=
  closed_selectLamp (links_reported _).toLampClosed d s rfl

theorem surveyAnswer_sensed {d : Dock} {s : State} (hs : s.faultsOk) (hroom : s.faults.records.length ≤ 24)
    (x : Byte) (mark : Bool) :
    AnswerTaken d s (s.judging d x mark) ∧ (s.judging d x mark).faults.records.length ≤ 25 ∧
    (surveyAnswer d x mark s).faults = (sensedSet d (s.sensedBy d x) (s.judging d x mark)).faults ∧
    (surveyAnswer d x mark s).string.links = (sensedSet d (s.sensedBy d x) (s.judging d x mark)).string.links := by
  have htaken := surveyed_taken hs (by omega) (d := d) x mark
  have hjudging := answerTaken_of_sameTables htaken (u := s.judging d x mark) ⟨rfl, rfl⟩
  have hsize := hjudging.faults.size
  rw [surveyAnswer_senses htaken.links]
  exact ⟨hjudging, by omega, selectLamp_faults _ _, selectLamp_links _ _⟩

/-- The mask of a stuck button after a survey's answer follows the record that it judges (R141). -/
theorem surveyAnswer_buttonMask {d : Dock} {s : State} (hs : s.faultsOk) (hroom : s.faults.records.length ≤ 24)
    (x : Byte) (mark : Bool) :
    let present := (s.sensedBy d x).button
    let mask := ((surveyAnswer d x mark s).link (dockNode d)).buttonMask
    (s.findFault (.dock d) .buttonStuck = none → mask = (s.link (dockNode d)).buttonMask) ∧
    (∀ r, s.findFault (.dock d) .buttonStuck = some r →
      (r.judged 8 present = none → mask = false) ∧
      (∀ z, r.judged 8 present = some z →
        (r.state ≠ .active → z.state = .active → mask = true) ∧
        (r.state = .active ∨ z.state ≠ .active → mask = (s.link (dockNode d)).buttonMask))) := by
  obtain ⟨⟨hwrites, hlinks, -⟩, hsize, -, hanswer⟩ := surveyAnswer_sensed hs hroom x mark (d := d)
  have hmask := sensedSet_buttonMask hwrites.ok (by omega) d (s.sensedBy d x)
  rw [hwrites.others _ _ (by simp), link_of_links hlinks] at hmask
  rw [link_of_links hanswer]
  exact hmask

/-! ### The kinds of the answer (R138) -/

/-- Each kind of the answer is judged by what was known of it before; FORCED_REMOVAL is told apart. -/
theorem surveyAnswer_judges {d : Dock} {s : State} (hs : s.faultsOk) (hroom : s.faults.records.length ≤ 24)
    (x : Byte) (mark : Bool) {p : FaultKind × Nat × Bool}
    (hp : p ∈ sensedKinds (s.sensedBy d x) (s.faultDock d).tagFailed) :
    JudgedAs d p.1 p.2.1 p.2.2 (s.judging d x mark) (surveyAnswer d x mark s) := by
  obtain ⟨⟨hwrites, -, hdocks⟩, hsize, hanswer, -⟩ := surveyAnswer_sensed hs hroom x mark (d := d)
  have hfailed : ((s.judging d x mark).faultDock d).tagFailed = (s.faultDock d).tagFailed := by
    unfold State.faultDock
    rw [hdocks]
  rw [← hfailed] at hp
  exact ((sensedSet_judged hwrites.ok (by omega) d (s.sensedBy d x)).2.2 p hp).congr rfl rfl
    (findFault_of_faults hanswer _ _)

theorem surveyAnswer_judges_kind {d : Dock} {s : State} (hs : s.faultsOk) (hroom : s.faults.records.length ≤ 24)
    (x : Byte) (mark : Bool) {p : FaultKind × Nat × Bool}
    (hp : p ∈ sensedKinds (s.sensedBy d x) (s.faultDock d).tagFailed) (hk : p.1 ≠ .forcedRemoval) :
    JudgedAs d p.1 p.2.1 p.2.2 s (surveyAnswer d x mark s) := by
  obtain ⟨⟨hwrites, -, -⟩, -⟩ := surveyAnswer_sensed hs hroom x mark (d := d)
  exact (surveyAnswer_judges hs hroom x mark hp).congr (hwrites.others _ _ fun he => hk he.2).symm
    (surveyed_settings d x mark s).2.symm rfl

theorem forcedRemoval_sensed (x : SensedSet) (failed : Bool) :
    ((.forcedRemoval, 4, false) : FaultKind × Nat × Bool) ∈ sensedKinds x failed := by
  simp [sensedKinds]

/-- Where no bicycle left, a FORCED_REMOVAL is judged as absent. -/
theorem surveyAnswer_no_departure {d : Dock} {s : State} (hs : s.faultsOk) (hroom : s.faults.records.length ≤ 24)
    {x : Byte} (hstays : hasBike x = true ∨
      ((s.dock d).occupancy ≠ .occupied ∧ (s.dock d).occupancy ≠ .releasing)) (mark : Bool) {r : FaultRecord}
    (hr : s.findFault (.dock d) .forcedRemoval = some r) :
    (surveyAnswer d x mark s).findFault (.dock d) .forcedRemoval = r.judged 4 false := by
  refine (surveyAnswer_judges hs hroom x mark (forcedRemoval_sensed _ _)).held r ?_
  rw [← hr]
  exact findFault_of_faults (surveyed_sameTables hstays mark).1 _ _

/-- A bicycle that leaves an OCCUPIED dock without a cancelled release of it is a forced removal (R79). -/
theorem occupiedDeparture_forced {d : Dock} {s : State} (h : ∀ b, (s.dock d).bike = some b →
    (∀ r, s.findTrip b = some r → r.state ≠ .cancelling) ∧ s.crewCancel d b = none) :
    ∃ u, s.sameTables u ∧ occupiedDeparture d s = forcedRemoval d u := by
  cases hb : (s.dock d).bike with
  | none => exact ⟨s, ⟨rfl, rfl⟩, by simp only [occupiedDeparture, hb]⟩
  | some b =>
    obtain ⟨htrip, hcrew⟩ := h b hb
    refine ⟨dropCancelOf b s, tripped_dropCancelOf (sameTables_stay d s).toTripClosed b s ⟨rfl, rfl⟩, ?_⟩
    have hgone : crewDeparture d b s = forcedRemoval d (dropCancelOf b s) := by simp only [crewDeparture, hcrew]
    cases hr : s.findTrip b with
    | none => simp only [occupiedDeparture, hb, hr, hgone]
    | some r => simp only [occupiedDeparture, hb, hr, if_neg (htrip r hr), hgone]

theorem crewCancel_eq_none {s : State} {b : Bike}
    (h : ∀ e y, s.cancel e = some y → y.bike = b → y.kind = .member) (d : Dock) : s.crewCancel d b = none := by
  refine List.findSome?_eq_none_iff.2 fun e _ => ?_
  unfold State.crewCancelAt
  split
  next y hy =>
    split
    next m n hkind => exact if_neg fun hb => by rw [h e y hy hb] at hkind; cases hkind
    next => rfl
  next => rfl

theorem surveyAnswer_forced {d : Dock} {s : State} (hs : s.faultsOk) (hroom : s.faults.records.length ≤ 24)
    {x : Byte} (hbike : hasBike x = false) (hocc : (s.dock d).occupancy = .occupied)
    (h : ∀ b, (s.dock d).bike = some b → (∀ r, s.findTrip b = some r → r.state ≠ .cancelling) ∧
      ∀ e y, s.cancel e = some y → y.bike = b → y.kind = .member)
    (hsuspect : ∀ r, s.findFault (.dock d) .forcedRemoval = some r → r.state ≠ .suspect) (mark : Bool) :
    ∃ r, (surveyAnswer d x mark s).findFault (.dock d) .forcedRemoval = some r ∧ r.state = .active := by
  obtain ⟨v, ⟨hfaults, -⟩, hleft⟩ := occupiedDeparture_forced (d := d) (s := s) fun b hb =>
    ⟨(h b hb).1, crewCancel_eq_none (h b hb).2 d⟩
  have hok : v.faultsOk := by unfold State.faultsOk; rw [hfaults]; exact hs
  have hfind := findFault_of_faults hfaults (.dock d) .forcedRemoval
  obtain ⟨r, hr, hactive⟩ := (forcedRemoval_writes hok (freeFaultSlot_isSome (by rw [hfaults]; omega)) (d := d)).2
    (by rw [hfind]; exact hsuspect)
  have hstay : StayClosed d (fun t => t.findFault (.dock d) .forcedRemoval = some r) :=
    stay_of_tables fun _ _ ht hf _ => (findFault_of_faults hf _ _).trans ht
  have hjudging : (s.judging d x mark).findFault (.dock d) .forcedRemoval = some r := by
    refine surveyed_of_presence hstay (fun t ht => (findFault_of_faults (placeDock_faults _ _ _ _ t) _ _).trans ht) ?_
    rw [hbike]
    simp only [presence, hocc, departure, reduceCtorEq, if_false, hleft]
    exact emptyDock_kept hstay (fun _ ht => ht) hr
  refine ⟨r, ((surveyAnswer_judges hs hroom x mark (forcedRemoval_sensed _ _)).held r hjudging).trans ?_, hactive⟩
  simp only [FaultRecord.judged, hactive]

/-! ### A failed tag read is used up (R138) -/

/-- Of a dock's fault record, telling a rider's report and marking a bicycle leave the report context and the failed
read. -/
theorem marks_reported (d : Dock) (F : Option ReportContext → Bool → Prop) :
    ReportClosed (fun t => F (t.faultDock d).report (t.faultDock d).tagFailed) where
  toFaultClosed := faultDocks_faulted (fun v => F (v.get d).report (v.get d).tagFailed)
  enqueue r s h := by unfold State.faultDock; rw [enqueue_faults]; exact h
  setMark e f s hf h := by
    rw [setFaultDock_faultDock]
    split
    · subst_vars
      rw [(hf _).1, (hf _).2]
      exact h
    · exact h
  mapMarks f s hf h := by
    have hdock : (s.mapFaultDocks f).faultDock d = f (s.faultDock d) := mapTable_get _ _ _
    rw [hdock, (hf _).1, (hf _).2]
    exact h

theorem marks_masks (d : Dock) (F : Option ReportContext → Bool → Prop) :
    MasksButton (fun t => F (t.faultDock d).report (t.faultDock d).tagFailed) := fun _ _ _ h => h

/-- A failed tag read is used up (R138). -/
theorem sensedSet_tagFailed (d : Dock) (x : SensedSet) (s : State) :
    ((sensedSet d x s).faultDock d).tagFailed = false := by
  have hsensed : ((s.sensed d x).faultDock d).tagFailed = false := by
    unfold State.sensed
    rw [setFaultDock_faultDock, if_pos rfl]
  rw [sensedSet_eq]
  split
  · refine reported_pressButton (marks_reported d (fun _ b => b = false)) (fun e t h => ?_)
      (.inr (marks_masks d (fun _ b => b = false))) d hsensed
    dsimp only at h ⊢
    rw [setFaultDock_faultDock]
    split
    · subst_vars; exact h
    · exact h
  · exact hsensed

theorem surveyAnswer_tagFailed (d : Dock) (x : Byte) (mark : Bool) (s : State) :
    ((surveyAnswer d x mark s).faultDock d).tagFailed = false := by
  rw [surveyAnswer_eq]
  unfold State.faultDock
  rw [selectLamp_faults]
  exact sensedSet_tagFailed d _ _

/-! ### The BUTTON of the answer as a rider's report (R143) -/

/-- What judging its kinds leaves of the state in which a sensed set's BUTTON is taken. -/
theorem sensed_leaves (d : Dock) (x : SensedSet) (s : State) :
    (s.sensed d x).settings = s.settings ∧ (s.sensed d x).clock = s.clock ∧
    ((s.sensed d x).dock d).known = (s.dock d).known ∧
    ((s.sensed d x).faultDock d).report = (s.faultDock d).report := by
  have hjudged : ∀ {P : State → Prop}, CalmClosed P → P s → P (s.sensed d x) := fun {P} h hs =>
    h.setFaultDock _ _ _ (closed_foldl (P := P) (fun s p hs => closed_judgeKind h d p.1 p.2.1 p.2.2 s hs) _ s hs)
  obtain ⟨hsettings, hclock, -⟩ := hjudged (outside_closed s).toCalmClosed ⟨rfl, rfl, rfl, rfl, rfl, rfl, rfl⟩
  refine ⟨hsettings, hclock, hjudged (known_closed d (s.dock d).known) rfl, ?_⟩
  unfold State.sensed
  rw [setFaultDock_faultDock, if_pos rfl]
  unfold State.faultDock
  rw [judgeAll_faultDocks]

theorem bike_of_known {a b : DockRecord} (h : a.known = b.known) : a.bike = b.bike :=
  (congrArg DockRecord.bike h : a.known.bike = b.known.bike)

/-- At an OCCUPIED dock that is not resynchronized, BIKE leaves the record. -/
theorem presence_stays_known {s : State} {d : Dock} (hocc : (s.dock d).occupancy = .occupied) :
    ((presence d true false s).dock d).known = (s.dock d).known := by
  simp only [presence, hocc, Bool.false_eq_true, if_false]
  split
  · exact queueTagread_known d s
  · rfl

theorem surveyAnswer_presses {d : Dock} {s : State} {x : Byte} (hbike : hasBike x = true) :
    (surveyAnswer d x false s).faults =
      (if (s.sensedBy d x).button then pressButton d ((s.judging d x false).sensed d (s.sensedBy d x))
        else (s.judging d x false).sensed d (s.sensedBy d x)).faults := by
  rw [surveyAnswer_senses (surveyed_sameTables (.inl hbike) false).2, selectLamp_faults, sensedSet_eq]

section

variable {d : Dock} {s : State} {x : Byte} {y : ReportContext}
  (hocc : (s.dock d).occupancy = .occupied) (hdue : (s.dock d).resyncDue = false) (hbike : hasBike x = true)
  (hreport : (s.faultDock d).report = some y) (hs : s.faultsOk) (hroom : s.faults.records.length ≤ 24)

include hocc hdue hbike hreport hs hroom

/-- The state in which the BUTTON of an answer with BIKE is taken: the rider's context and records, the dock's bicycle,
the time and the settings are those before the answer. -/
theorem sensed_pressing :
    let v := (s.judging d x false).sensed d (s.sensedBy d x)
    v.faultsOk ∧ v.freeFaultSlot.isSome = true ∧ (v.faultDock d).report = some y ∧
    (v.dock d).bike = (s.dock d).bike ∧ v.settings = s.settings ∧ v.clock = s.clock ∧
    ∀ b, v.findFault (.bike b) .riderReport = s.findFault (.bike b) .riderReport := by
  obtain ⟨hfaults, -⟩ := surveyed_sameTables (d := d) (s := s) (.inl hbike) false
  have hfaults : (s.judging d x false).faults = s.faults := hfaults
  have hok : (s.judging d x false).faultsOk := by unfold State.faultsOk; rw [hfaults]; exact hs
  obtain ⟨hsettings, hclock⟩ := surveyed_settings d x false s
  obtain ⟨hsettings', hclock', hknown, hmark⟩ := sensed_leaves d (s.sensedBy d x) (s.judging d x false)
  have hlen : (s.judging d x false).faults.records.length ≤ 24 := by rw [hfaults]; exact hroom
  have hjudged := sensedKinds_judged hok (by omega) d (s.sensedBy d x)
  have hsize := hjudged.size
  have hfive : (sensedKinds (s.sensedBy d x) ((s.judging d x false).faultDock d).tagFailed).length = 5 := rfl
  refine ⟨hjudged.ok, freeFaultSlot_isSome (by omega), ?_, ?_, hsettings'.trans hsettings, hclock'.trans hclock,
    fun b => (hjudged.others _ _ fun p _ he => by cases he.1).trans (findFault_of_faults hfaults _ _)⟩
  · rw [hmark, ← hreport]
    unfold State.faultDock
    rw [hfaults]
  · have hpresence : ((presence d (hasBike x) (false || (s.dock d).resyncDue) s).dock d).known = (s.dock d).known := by
      rw [hbike, hdue]
      exact presence_stays_known hocc
    have hmet := bike_of_known (surveyed_known hpresence)
    have hunpressed : ((s.judging d x false).dock d).bike = ((s.surveyed d x false).dock d).bike := by
      unfold State.judging State.unpressed
      rw [setDock_dock, if_pos rfl]
    exact (bike_of_known hknown).trans (hunpressed.trans hmet)

/-- Without BUTTON the report context and every rider's record stay. -/
theorem surveyAnswer_unpressed (hpressed : (s.sensedBy d x).button = false) :
    ((surveyAnswer d x false s).faultDock d).report = some y ∧
    ∀ b, (surveyAnswer d x false s).findFault (.bike b) .riderReport = s.findFault (.bike b) .riderReport := by
  obtain ⟨-, -, hmark, -, -, -, hfind⟩ := sensed_pressing hocc hdue hbike hreport hs hroom
  have hfaults := surveyAnswer_presses hbike (d := d) (s := s)
  rw [hpressed, if_neg Bool.false_ne_true] at hfaults
  exact ⟨(congrArg FaultDock.report (faultDock_of_faults hfaults d)).trans hmark,
    fun b => (findFault_of_faults hfaults _ _).trans (hfind b)⟩

/-- A BUTTON with another bicycle at the dock ends the report context. -/
theorem surveyAnswer_pressed_other (hpressed : (s.sensedBy d x).button = true)
    (hb : (s.dock d).bike ≠ some y.bike) :
    ((surveyAnswer d x false s).faultDock d).report = none ∧
    ∀ b, (surveyAnswer d x false s).findFault (.bike b) .riderReport = s.findFault (.bike b) .riderReport := by
  obtain ⟨-, -, hmark, hbikes, -, -, hfind⟩ := sensed_pressing hocc hdue hbike hreport hs hroom
  have hfaults := surveyAnswer_presses hbike (d := d) (s := s)
  rw [hpressed, if_pos rfl, pressButton_other hmark (by rw [hbikes]; exact hb)] at hfaults
  refine ⟨?_, fun b => ?_⟩
  · rw [faultDock_of_faults hfaults, setFaultDock_faultDock, if_pos rfl]
  · rw [findFault_of_faults hfaults, setFaultDock_findFault]
    exact hfind b

/-- A BUTTON with the reported bicycle at the dock is a report of it by the context's card. -/
theorem surveyAnswer_pressed (hpressed : (s.sensedBy d x).button = true)
    (hb : (s.dock d).bike = some y.bike) :
    ((surveyAnswer d x false s).faultDock d).report = some y ∧
    ReportedAs y.bike y.card s (surveyAnswer d x false s) := by
  obtain ⟨hok, hfree, hmark, hbikes, hsettings, hclock, hfind⟩ := sensed_pressing hocc hdue hbike hreport hs hroom
  have hfaults := surveyAnswer_presses hbike (d := d) (s := s)
  rw [hpressed, if_pos rfl, pressButton_same hmark (by rw [hbikes]; exact hb)] at hfaults
  refine ⟨?_, ((riderReport_writes hok hfree y.bike y.card).2).congr (hfind _).symm hsettings.symm hclock.symm
    (findFault_of_faults hfaults _ _)⟩
  rw [faultDock_of_faults hfaults]
  exact reported_riderReport (marks_reported d (fun a _ => a = some y)) y.bike y.card (.inl hfree) hmark

end

end Sys2Proof.Machine
end

section
/-! PROOFS. The statement on refusals shown, report windows, service marks and riders' reports (R40, R141 to R145). -/

namespace Sys2Proof.Machine

open Sys2Proof

/-- Settles O51: a selection at the dock's own record, `markEnd_writes`, the cases of the mark wanted, and the rider's
report and button mask after a survey's answer. -/
theorem flashAndReportEnd : Obligations.FlashAndReportEnd := by
  unfold Obligations.FlashAndReportEnd
  refine ⟨⟨fun s d => ⟨fun h => ?_, refusalFlash_idle, reportWindow_ends s d, fun h => ?_⟩, ?_,
    fun s d b value good => markEnd_writes d b value good s,
    fun s d => ⟨fun h => ?_, fun v b h => evalMark_stays (markWanted_iff.2 h),
      fun v b h hv hp hflight hroom hnew => evalMark_joins (markWanted_iff.2 h) hv hp hflight hroom hnew, ?_⟩⟩,
    ?_, fun s d x mark hs hroom => surveyAnswer_buttonMask hs hroom x mark⟩
  · obtain ⟨hframe, hother, hown⟩ := selectLamp_relights d (s.setDock d (fun r => { r with flash := none }))
    rw [setDock_dock, if_pos rfl] at hown
    refine ⟨_, refusalFlash_ends h, by rw [hown], selectLamp_selected d _, hown, fun e he => ?_, hframe⟩
    rw [hother e he, setDock_dock, if_neg (Ne.symm he)]
  · rw [reportWindow_ends, setFaultDock_of_eq (by rw [← h])]
  · intro s c d b hflight hcross hd ht ho hv ended
    have hverb : c.entry.verb ≠ .survey := by rw [hv]; decide
    refine ⟨fun got data hphase hlen hsum => ?_, fun hlast => ?_, ?_⟩
    · obtain ⟨v, x, a, hexec, hover⟩ :=
        exec_good_call hflight hcross hd ho hverb (by rw [hv]; rfl) hphase hlen hsum
      obtain ⟨hframe, hfree, htold, -⟩ := handsOver_noteButton hover d x
      rw [dockOutcome_mark hv] at hexec
      exact ⟨noteButton d x v, hexec, frame_of_tells hframe, hfree, htold⟩
    · obtain ⟨v, hexec, hover⟩ := exec_failed_call hflight hcross hd ho hverb hlast
      rw [dockOutcome_mark hv] at hexec
      exact ⟨v, hexec, frame_of_tells hover.frame, hover.flight, fun e => told_of_unresynced (hover.unresynced e)⟩
    · simp only [deliverFailure, ht]
      rw [handOutcome_failed ho, dockOutcome_mark hv]
      rfl
  · exact evalMark_idle (Option.eq_none_iff_forall_ne_some.2 fun ⟨v, b⟩ hvb => h v b (markWanted_iff.1 hvb))
  · cases h : (s.faultDock d).unmark with
    | none =>
      rw [dropStaleUnmark_none h]
      exact (setFaultDock_of_eq (s := s) (d := d) (f := fun f => { f with unmark := none }) (by rw [← h])).symm
    | some b => exact dropStaleUnmark_some h
  · intro s d x y hocc hdue hbike hreport hs hroom pressed t new
    refine ⟨fun hpressed => ?_, fun hpressed => surveyAnswer_pressed_other hocc hdue hbike hreport hs hroom hpressed,
      fun hpressed hb => ?_⟩
    · obtain ⟨hcontext, hfind⟩ := surveyAnswer_unpressed hocc hdue hbike hreport hs hroom hpressed
      exact ⟨hcontext, hfind _⟩
    · obtain ⟨hcontext, hactive, hsuspect, hconfirmed, hjoined⟩ :=
        surveyAnswer_pressed hocc hdue hbike hreport hs hroom hpressed hb
      exact ⟨hcontext, fun hnone => ⟨hactive hnone, hsuspect hnone⟩, fun r hr => ⟨hconfirmed r hr, hjoined r hr⟩⟩

end Sys2Proof.Machine
end

section
/-! PROOFS. A tag read at a dock: what the arrival that it hands over leaves of the dock's record and of the faults, and
the fields that it gives (R30, R86 to R92, R101, R138, R144, R166, R198). -/

namespace Sys2Proof.Machine

open Sys2Proof

variable {P : State → Prop} {d : Dock}

/-! ### An arrival that is handed over (R86 to R92) -/

/-- What the arrival of a bicycle at `d` can do: trips, cards and contexts change, arrivals are deferred or priced, and
other docks may become EMPTY. -/
structure ArrivalClosed (d : Dock) (P : State → Prop) : Prop extends TripClosed P where
  enqueue : ∀ (r : QueueEntry) (s : State), P s → P (enqueue r s)
  addTrip : ∀ (r : TripRecord) (s : State), P s → P (s.addTrip r)
  setDeferral : ∀ (e : Dock) (x : Option Deferral) (s : State), P s → P (s.setDeferral e x)
  unpriced : ∀ (e : Dock) (b : Bool) (s : State), P s → P (s.setDock e (fun r => { r with unpriced := b }))
  emptied : ∀ (e : Dock) (s : State), e ≠ d → P s →
    P (s.setDock e (fun r => { r.forget with occupancy := .empty }))

/-- No release of a bicycle that its record still awaits is at this dock. -/
def State.notReleasedAt (s : State) (b : Bike) (d : Dock) : Prop :=
  ∀ y, s.findTrip b = some y → y.state = .releasing → y.releaseDock ≠ some d

section

variable (h : ArrivalClosed d P)
include h

theorem arrived_placeDock (e : Dock) (v : Verb) (l : List Byte) (o : Originator) (s : State) (hs : P s) :
    P (placeDock e v l o s) :=
  h.takeNext _ (h.enqueue _ s hs)

theorem arrived_reportUnpriced (e : Dock) (b : Bike) (v : Bool) (s : State) (hs : P s) :
    P (reportUnpriced e b v s) := by
  unfold reportUnpriced reportDock
  split
  · exact closed_selectLamp h.toLampClosed e _ (h.unpriced e v s hs)
  · exact hs

theorem arrived_queueUnstamp (e : Dock) (b : Bike) (s : State) (hs : P s) : P (queueUnstamp e b s) :=
  arrived_placeDock h _ _ _ _ _ (h.setTrip _ _ s hs)

theorem arrived_deferArrival (e : Dock) (b : Bike) (st : StampFields) (s : State) (hs : P s) :
    P (deferArrival e b st s) :=
  arrived_reportUnpriced h _ _ _ _ (h.setDeferral _ _ s hs)

theorem arrived_finishPricing (e : Dock) (b : Bike) (s : State) (hs : P s) : P (finishPricing e b s) :=
  arrived_queueUnstamp h _ _ _ (arrived_reportUnpriced h _ _ _ _ (h.setDeferral _ _ s hs))

theorem arrived_priceInPlace (e : Dock) (b : Bike) (st : StampFields) (s : State) (hs : P s) :
    P (priceInPlace e b st s) := by
  unfold priceInPlace
  split
  next x r _ _ =>
    have hpriced := tripped_moveTrip h.toTripClosed b
      (fun r => { r with state := .priced (pricingOf e s.clock.time x) }) s hs
    dsimp only
    split
    · exact arrived_finishPricing h _ _ _ (tripped_cardFree h.toTripClosed _ _ _ _ _ hpriced)
    · exact arrived_finishPricing h _ _ _ hpriced
  next => exact arrived_deferArrival h _ _ _ s hs

theorem arrived_priceForeign (e : Dock) (b : Bike) (st : StampFields) (s : State) (hs : P s) :
    P (priceForeign e b st s) := by
  unfold priceForeign
  repeat' split
  · exact arrived_finishPricing h _ _ _ (h.addTrip _ s hs)
  · exact arrived_deferArrival h _ _ _ s hs
  · exact arrived_deferArrival h _ _ _ s hs

theorem arrived_clearDeferred (b : Bike) (s : State) (hs : P s) : P (clearDeferred d b s) := by
  unfold clearDeferred
  refine h.setDeferral _ _ _ (closed_foldl (fun s x hs => ?_) _ s hs)
  repeat' split
  · exact arrived_reportUnpriced h _ _ _ _ (h.setDeferral _ _ s hs)
  · exact hs
  · exact hs

theorem arrived_emptyReleaseDock {rd : Option Dock} (hrd : rd ≠ some d) (b : Bike) (s : State) (hs : P s) :
    P (emptyReleaseDock rd b s) := by
  unfold emptyReleaseDock
  split
  next x =>
    have hx : x ≠ d := fun he => hrd (congrArg some he)
    dsimp only
    split
    · exact managed_tellOccupancy h.toManifestClosed _ _ (closed_selectLamp h.toLampClosed _ _
        (h.setDeferral _ _ _ (h.emptied x s hx hs)))
    · exact hs
  next => exact hs

theorem arrived_endByArrival {r : TripRecord} (hr : r.releaseDock ≠ some d) (s : State) (hs : P s) :
    P (endByArrival r s) := by
  have hout : P (tripOut r.bike false s) := tripped_moveTrip h.toTripClosed _ _ s hs
  unfold endByArrival
  refine arrived_emptyReleaseDock h hr _ _ ?_
  repeat' split
  · exact tripped_latePullTrip h.toTripClosed _ s hs
  · exact tripped_pullRelease h.toTripClosed _ _ s hs
  · exact hout
  · exact hout

theorem arrived_supersede (r : TripRecord) (s : State) (hs : P s) : P (supersede r s) := by
  unfold supersede
  refine h.filterTrips _ _ ?_
  split
  · exact hs
  · exact tripped_cardFree h.toTripClosed _ _ _ _ s hs

theorem arrived_arrivalCases {b : Bike} (st : StampFields) {s : State} (hrelease : s.notReleasedAt b d) (hs : P s) :
    P (arrivalCases d b st s) := by
  unfold arrivalCases
  split
  · exact arrived_priceForeign h _ _ _ s hs
  next r hr =>
    have hended : r.releaseDock ≠ some d → P (priceInPlace d b st (endByArrival r s)) := fun hne =>
      arrived_priceInPlace h _ _ _ _ (arrived_endByArrival h hne s hs)
    split
    · split
      · split
        · exact arrived_queueUnstamp h _ _ s hs
        · exact hs
      · split
        · split
          · exact arrived_queueUnstamp h _ _ s hs
          · exact hs
        · exact hended ‹_›
      · exact hended (hrelease r hr ‹_›)
      · exact arrived_priceInPlace h _ _ _ s hs
    · split
      · exact arrived_priceForeign h _ _ _ _ (arrived_supersede h r s hs)
      all_goals exact arrived_deferArrival h _ _ _ s hs

end

theorem reportUnpriced_trips (e : Dock) (b : Bike) (v : Bool) (s : State) :
    (reportUnpriced e b v s).trips = s.trips := by
  unfold reportUnpriced reportDock
  split
  · rw [(selectLamp_relights e _).frame]
    rfl
  · rfl

theorem clearDeferred_trips (d : Dock) (b : Bike) (s : State) : (clearDeferred d b s).trips = s.trips := by
  have hset : ∀ (t : State) x e, (t.setDeferral x e).trips = t.trips := fun _ _ _ => rfl
  unfold clearDeferred
  dsimp only
  rw [hset]
  refine closed_foldl (P := fun t => t.trips = s.trips) (fun t x ht => ?_) _ s (Eq.refl s.trips)
  repeat' split
  · exact (reportUnpriced_trips _ _ _ _).trans ((hset _ _ _).trans ht)
  · exact ht
  · exact ht

theorem notReleasedAt_of_trips {s t : State} {b : Bike} (h : t.trips = s.trips) (hs : s.notReleasedAt b d) :
    t.notReleasedAt b d := by
  unfold State.notReleasedAt State.findTrip
  rw [h]
  exact hs

theorem arrived_tripArrival (h : ArrivalClosed d P) {b : Bike} (st : StampFields) {s : State}
    (hrelease : s.notReleasedAt b d) (hs : P (openReport d b st.card s)) : P (tripArrival d b st s) := by
  have htrips : (openReport d b st.card s).trips = s.trips := rfl
  unfold tripArrival handleArrival
  refine arrived_arrivalCases h st (notReleasedAt_of_trips ?_ hrelease) (arrived_clearDeferred h b _ hs)
  rw [clearDeferred_trips, htrips]

/-- An arrival changes no record of the Fault Table and no fault fields of a dock. -/
theorem faults_arrival (d : Dock) (v : FaultTable) : ArrivalClosed d (fun t => t.faults = v) where
  lampDock _ _ _ _ h := h
  show_ _ _ s h := (enqueue_faults s _).trans h
  takeNext s h := (takeNext_faults s).trans h
  setManifest _ _ _ h := h
  noteManifest _ h := h
  noteFollowOn _ h := h
  filterHire _ _ h := h
  setCard _ _ _ h := h
  setTrip _ _ _ h := h
  filterTrips _ _ h := h
  noteTrips _ h := h
  setRelease _ _ _ h := h
  setCancel _ _ _ h := h
  enqueue _ s h := (enqueue_faults s _).trans h
  addTrip r s h := by rw [addTrip_faults]; exact h
  setDeferral _ _ _ h := h
  unpriced _ _ _ h := h
  emptied _ _ _ h := h

/-- A dock record but for its unpriced flag, of what answers gave it. -/
def DockRecord.unpricedOff (r : DockRecord) : DockRecord := ({ r with unpriced := false } : DockRecord).known

theorem unpricedOff_of_known {a b : DockRecord} (h : a.known = b.known) : a.unpricedOff = b.unpricedOff :=
  (congrArg (fun r : DockRecord => { r with unpriced := false }) h :)

/-- An arrival at a dock changes its unpriced flag and its lamp alone. -/
theorem record_arrival (d : Dock) (r : DockRecord) : ArrivalClosed d (fun t => (t.dock d).unpricedOff = r) where
  lampDock e f s hf h := (unpricedOff_of_known (setDock_known hf e d s)).trans h
  show_ _ _ s h := (unpricedOff_of_known (enqueue_known _ d s)).trans h
  takeNext s h := (unpricedOff_of_known (congrArg DockRecord.known (dock_of_docks (takeNext_docks s) d))).trans h
  setManifest _ _ _ h := h
  noteManifest _ h := h
  noteFollowOn _ h := h
  filterHire _ _ h := h
  setCard _ _ _ h := h
  setTrip _ _ _ h := h
  filterTrips _ _ h := h
  noteTrips _ h := h
  setRelease _ _ _ h := h
  setCancel _ _ _ h := h
  enqueue _ s h := (unpricedOff_of_known (enqueue_known _ d s)).trans h
  addTrip r s h := by rw [dock_of_docks (addTrip_docks s _)]; exact h
  setDeferral _ _ _ h := h
  unpriced e b s h := by
    rw [setDock_dock]
    split
    next he => subst he; exact h
    next => exact h
  emptied e s he h := by rw [setDock_dock, if_neg he]; exact h

/-! ### The watch after REINIT (R101) -/

theorem findTrip_setTrip (b c : Bike) (f : TripRecord → TripRecord) (s : State) : (s.setTrip c f).findTrip b =
    (s.findTrip b).map (fun r => if r.bike = c then { f r with bike := r.bike } else r) := by
  unfold State.findTrip State.setTrip
  rw [List.find?_map]
  congr 1
  refine List.find?_congr fun r _ => ?_
  simp only [Function.comp_apply]
  split <;> rfl

/-- The watch makes records OUT: it leaves no record RELEASING that was not. -/
theorem watchReport_notReleasedAt {b : Bike} (found : Option Bike) {s : State} (h : s.notReleasedAt b d) :
    (watchReport d found s).notReleasedAt b d := by
  unfold watchReport
  split
  · refine closed_foldl (P := fun t => t.notReleasedAt b d) (fun t r ht y hy hstate => ?_) _ s h
    have hmoved : (t.findTrip b).map _ = some y := (findTrip_setTrip b r.bike _ t).symm.trans hy
    obtain ⟨z, hz, rfl⟩ := Option.map_eq_some_iff.1 hmoved
    split at hstate
    · cases hstate
    · rw [if_neg ‹_›]
      exact ht z hz hstate
  · exact h

/-! ### The tag that was read (R30) -/

/-- The fields that a tag gives the dock, after which the watch has ended. -/
def State.tagged (d : Dock) (t : TagImage) (s : State) : State :=
  (watchReport d (some t.bike) (s.setDock d (fun r =>
    { r with bike := some t.bike, stampSeen := t.stamp.kind, serviceMark := t.serviceMark }))).setDock d
    (fun r => { r with watch := false })

def State.imported (d : Dock) (t : TagImage) (s : State) : State := if t.serviceMark then importMark d t.bike s else s

/-- The arrival is handed over by its stamp. -/
def State.handedTag (d : Dock) (t : TagImage) (s : State) : State :=
  match t.stamp with
  | .none => s
  | .trip f => tripArrival d t.bike f s
  | .van n => vanDrop d t.bike n s

theorem takeTag_eq (d : Dock) (t : TagImage) (s : State) :
    takeTag d t s = selectLamp d (tellBikeNumber d (((s.tagged d t).imported d t).handedTag d t)) := rfl

theorem trips_reported (l : List TripRecord) : ReportClosed (fun t => t.trips = l) where
  lampDock _ _ _ _ h := h
  show_ _ _ s h := (enqueue_trips s _).trans h
  takeNext s h := (takeNext_trips s).trans h
  setManifest _ _ _ h := h
  noteManifest _ h := h
  noteFollowOn _ h := h
  filterHire _ _ h := h
  addFault r s h := (addFault_trips s r).trans h
  setFault _ _ _ h := h
  filterFaults _ _ h := h
  setFaultFull _ _ h := h
  enqueue _ s h := (enqueue_trips s _).trans h
  setMark _ _ _ _ h := h
  mapMarks _ _ _ h := h

theorem trips_masks (l : List TripRecord) : MasksButton (fun t => t.trips = l) := fun _ _ _ h => h

/-- The record that a tag gives a dock. -/
def DockRecord.withTag (t : TagImage) (r : DockRecord) : DockRecord :=
  { r with bike := some t.bike, stampSeen := t.stamp.kind, serviceMark := t.serviceMark, watch := false }

section

variable (d : Dock) (t : TagImage) (s : State)

theorem tagged_known : ((s.tagged d t).dock d).known = ((s.dock d).withTag t).known := by
  have hwatched := closed_watchReport (known_closed d _) d (some t.bike) _ (setDock_own_known (fun r =>
    { r with bike := some t.bike, stampSeen := t.stamp.kind, serviceMark := t.serviceMark }) s d)
  exact setDock_known_write (f := fun r => { r with watch := false }) (fun _ => rfl) hwatched

theorem tagged_faults : (s.tagged d t).faults = s.faults :=
  tripped_watchReport (faults_arrival d s.faults).toTripClosed d (some t.bike)
    (s.setDock d (fun r =>
      { r with bike := some t.bike, stampSeen := t.stamp.kind, serviceMark := t.serviceMark })) rfl

theorem tagged_settings : (s.tagged d t).settings = s.settings := by
  have hclosed := (outside_closed s).toClosed
  refine (hclosed.setDock d (fun r => { r with watch := false }) _
    (closed_watchReport hclosed.toCalmClosed d (some t.bike) _ (hclosed.setDock d _ s ?_))).1
  exact ⟨rfl, rfl, rfl, rfl, rfl, rfl, rfl⟩

variable {s} in
theorem tagged_notReleasedAt (h : s.notReleasedAt t.bike d) : (s.tagged d t).notReleasedAt t.bike d := by
  have hwritten : (s.setDock d (fun r =>
      { r with bike := some t.bike, stampSeen := t.stamp.kind, serviceMark := t.serviceMark })).notReleasedAt
        t.bike d :=
    notReleasedAt_of_trips (setDock_trips s d _) h
  exact notReleasedAt_of_trips (setDock_trips _ d _) (watchReport_notReleasedAt (some t.bike) hwritten)

theorem imported_known : ((s.imported d t).dock d).known = (s.dock d).known := by
  unfold State.imported
  split
  · exact closed_importMark (known_closed d _) d t.bike s rfl
  · rfl

theorem imported_settings : (s.imported d t).settings = s.settings := by
  unfold State.imported
  split
  · exact (closed_importMark (outside_closed s).toCalmClosed d t.bike s ⟨rfl, rfl, rfl, rfl, rfl, rfl, rfl⟩).1
  · rfl

theorem imported_trips : (s.imported d t).trips = s.trips := by
  unfold State.imported
  split
  · exact reported_importMark (trips_reported s.trips) d t.bike (.inr (trips_masks s.trips)) rfl
  · rfl

/-- A mark that is read makes SERVICE_MARK ACTIVE, unless it is being cleared (R144). -/
theorem imported_active {d : Dock} {t : TagImage} {s : State} (ht : t.serviceMark = true)
    (hunmark : (s.faultDock d).unmark ≠ some t.bike) (hnone : s.findFault (.bike t.bike) .serviceMark = none)
    (hroom : s.freeFaultSlot.isSome = true) :
    ∃ y, (s.imported d t).findFault (.bike t.bike) .serviceMark = some y ∧ y.state = .active := by
  obtain ⟨i, o, hnew⟩ := findFault_added hnone hroom .active 0 []
  have himport : s.imported d t = createActive (.bike t.bike) .serviceMark [] s := by
    simp only [State.imported, ht, importMark, hunmark, hnone, if_true, if_false, Option.isSome_none,
      Bool.false_eq_true]
  rw [himport, findFault_of_records (createActive_records (.bike t.bike) .serviceMark [] hroom)]
  exact ⟨_, hnew, rfl⟩

theorem vanDrop_faults (b : Bike) (n : Nat) : (vanDrop d b n s).faults = s.faults := by
  have hplaced : (placeDock d .unstamp [] (.manifestUnit b) (s.setVanUnstamp d (some b))).faults = s.faults :=
    placeDock_faults _ _ _ _ _
  unfold vanDrop
  dsimp only
  split
  · exact managed_matchDrop (faults_arrival d s.faults).toManifestClosed d b _ hplaced
  · exact hplaced

/-- The van's UNSTAMP stays with the dock. -/
theorem vanUnstamp_managed (b : Option Bike) : ManifestClosed (fun t => t.manifest.vanUnstamp.get d = b) where
  lampDock _ _ _ _ h := h
  show_ _ _ s h := by rw [enqueue_manifest]; exact h
  takeNext s h := by rw [takeNext_manifest]; exact h
  setManifest f s hf h := by rw [setManifest_manifest, hf]; exact h
  noteManifest _ h := h
  noteFollowOn _ h := h
  filterHire _ _ h := h

theorem vanDrop_vanUnstamp (b : Bike) (n : Nat) : (vanDrop d b n s).manifest.vanUnstamp.get d = some b := by
  have hplaced : (placeDock d .unstamp [] (.manifestUnit b) (s.setVanUnstamp d (some b))).manifest.vanUnstamp.get d =
      some b := by
    rw [placeDock, place, takeNext_manifest, enqueue_manifest]
    exact (get_set _ d d _).trans (if_pos rfl)
  unfold vanDrop
  dsimp only
  split
  · exact managed_matchDrop (vanUnstamp_managed d (some b)) d b _ hplaced
  · exact hplaced

end

/-- What an arrival by its stamp leaves of the dock's record. -/
theorem handedTag_record {d : Dock} {t : TagImage} {s : State} (hrelease : s.notReleasedAt t.bike d) :
    ((s.handedTag d t).dock d).unpricedOff = (s.dock d).unpricedOff := by
  unfold State.handedTag
  split
  · rfl
  next f _ => exact arrived_tripArrival (record_arrival d _) f hrelease rfl
  next n _ => exact unpricedOff_of_known (closed_vanDrop (known_closed d _) d t.bike n s rfl)

/-- Of the faults an arrival by its stamp writes a report context alone. -/
theorem handedTag_faults {d : Dock} {t : TagImage} {s : State} (hrelease : s.notReleasedAt t.bike d) :
    (s.handedTag d t).faults.records = s.faults.records := by
  unfold State.handedTag
  split
  · rfl
  next f _ =>
    have hopened : (openReport d t.bike f.card s).faults.records = s.faults.records := rfl
    rw [arrived_tripArrival (faults_arrival d (openReport d t.bike f.card s).faults) f hrelease rfl, hopened]
  next n _ => rw [vanDrop_faults]

theorem handedTag_trip {d : Dock} {t : TagImage} {s : State} {f : StampFields} (ht : t.stamp = .trip f)
    (hrelease : s.notReleasedAt t.bike d) : ((s.handedTag d t).faultDock d).report =
      some { bike := t.bike, card := f.card, remaining := s.settings.reportWindow * 1000 } := by
  have hhanded : s.handedTag d t = tripArrival d t.bike f s := by simp only [State.handedTag, ht]
  have hfaults := arrived_tripArrival (faults_arrival d (openReport d t.bike f.card s).faults) f hrelease rfl
  rw [hhanded, faultDock_of_faults hfaults, openReport, setFaultDock_faultDock, if_pos rfl]

theorem handedTag_van {d : Dock} {t : TagImage} {s : State} {n : Nat} (ht : t.stamp = .van n) :
    (s.handedTag d t).manifest.vanUnstamp.get d = some t.bike := by
  have hhanded : s.handedTag d t = vanDrop d t.bike n s := by simp only [State.handedTag, ht]
  rw [hhanded]
  exact vanDrop_vanUnstamp d s t.bike n

/-! ### The end of a tag read -/

/-- Telling the bicycle's number and selecting the lamp keep what the Manifest Unit's work keeps. -/
theorem told_tag (h : ManifestClosed P) {s : State} (hs : P s) : P (selectLamp d (tellBikeNumber d s)) :=
  closed_selectLamp h.toLampClosed d _ (managed_tellBikeNumber h d s hs)

section

variable {t : TagImage} {s : State}

theorem takeTag_record (hrelease : s.notReleasedAt t.bike d) :
    ((takeTag d t s).dock d).unpricedOff = ((s.dock d).withTag t).unpricedOff := by
  have hawaits := notReleasedAt_of_trips (imported_trips d t (s.tagged d t)) (tagged_notReleasedAt d t hrelease)
  rw [takeTag_eq]
  refine told_tag (record_arrival d _).toManifestClosed ?_
  rw [handedTag_record hawaits, unpricedOff_of_known (imported_known d t _), unpricedOff_of_known (tagged_known d t s)]

theorem takeTag_faults : (takeTag d t s).faults = (((s.tagged d t).imported d t).handedTag d t).faults :=
  told_tag (faults_arrival d _).toManifestClosed rfl

theorem takeTag_trip {f : StampFields} (ht : t.stamp = .trip f) (hrelease : s.notReleasedAt t.bike d) :
    ((takeTag d t s).faultDock d).report =
      some { bike := t.bike, card := f.card, remaining := s.settings.reportWindow * 1000 } := by
  have hawaits := notReleasedAt_of_trips (imported_trips d t (s.tagged d t)) (tagged_notReleasedAt d t hrelease)
  rw [faultDock_of_faults takeTag_faults, handedTag_trip ht hawaits, imported_settings, tagged_settings]

theorem takeTag_van {n : Nat} (ht : t.stamp = .van n) :
    (takeTag d t s).manifest.vanUnstamp.get d = some t.bike :=
  told_tag (vanUnstamp_managed d (some t.bike)) (handedTag_van ht)

theorem takeTag_marked (ht : t.serviceMark = true) (hrelease : s.notReleasedAt t.bike d)
    (hunmark : (s.faultDock d).unmark ≠ some t.bike) (hnone : s.findFault (.bike t.bike) .serviceMark = none)
    (hroom : s.freeFaultSlot.isSome = true) :
    ∃ y, (takeTag d t s).findFault (.bike t.bike) .serviceMark = some y ∧ y.state = .active := by
  have hawaits := notReleasedAt_of_trips (imported_trips d t (s.tagged d t)) (tagged_notReleasedAt d t hrelease)
  have hfaults := tagged_faults d t s
  rw [findFault_of_faults takeTag_faults, findFault_of_records (handedTag_faults hawaits)]
  refine imported_active ht ?_ ((findFault_of_faults hfaults _ _).trans hnone) ?_
  · rw [faultDock_of_faults hfaults]
    exact hunmark
  · rw [freeFaultSlot_of_records (congrArg FaultTable.records hfaults)]
    exact hroom

end

/-! ### A TAGREAD's answer (R30, R138, R198) -/

section

variable {s : State} {bs : List Byte}

theorem tagAnswer_discards (h : ¬((s.dock d).occupancy = .occupied ∧ (s.dock d).bike = none)) :
    tagAnswer d bs s = s := if_neg h

theorem tagAnswer_unread (hocc : (s.dock d).occupancy = .occupied) (hb : (s.dock d).bike = none)
    (ht : readTag bs = none) : tagAnswer d bs s = tagFailed d s := by
  simp only [tagAnswer, hocc, hb, ht, and_self, if_true]

theorem tagAnswer_read {t : TagImage} (hocc : (s.dock d).occupancy = .occupied) (hb : (s.dock d).bike = none)
    (ht : readTag bs = some t) : tagAnswer d bs s = takeTag d t s := by
  simp only [tagAnswer, hocc, hb, ht, and_self, if_true]

end

end Sys2Proof.Machine
end

section
/-! PROOFS. What a survey's answer places in the call queue, and what it leaves of deferred arrivals and of the contexts
of releases (R20, R28, R29, R31, R74, R77). -/

namespace Sys2Proof.Machine

open Sys2Proof

/-! ### Calls that wait in the queue (R18, R20) -/

/-- A queued call that a full queue does not give up. -/
def isCall (q : QueueEntry) : Bool := decide (q.verb ≠ .survey ∧ q.verb ≠ .lampShow)

theorem isCall_eq_not_yields (q : QueueEntry) : isCall q = !yields q := by
  unfold isCall yields
  by_cases h : q.verb = .survey <;> by_cases h' : q.verb = .lampShow <;> simp [h, h']

/-- The calls queued that a full queue does not give up. -/
def State.calls (s : State) : Nat := s.string.queue.countP isCall

theorem isCall_mergeEntry (e r : QueueEntry) : isCall (mergeEntry e r) = isCall e := rfl

theorem countP_merge (r : QueueEntry) (q : List QueueEntry) :
    (q.map (fun e => if sameKey e r then mergeEntry e r else e)).countP isCall = q.countP isCall := by
  rw [List.countP_map]
  refine List.countP_congr fun e _ => ?_
  simp only [Function.comp_apply]
  split
  · rw [isCall_mergeEntry]
  · rfl

/-- Placing a request adds one call at most, and a SURVEY or SHOW none. -/
theorem enqueue_calls (r : QueueEntry) (s : State) :
    (enqueue r s).calls ≤ s.calls + if isCall r then 1 else 0 := by
  by_cases hkey : ∃ e ∈ s.string.queue, sameKey e r = true
  · rw [enqueue_merge hkey]
    exact (countP_merge r _).le.trans (Nat.le_add_right _ _)
  have hnew : ∀ e ∈ s.string.queue, sameKey e r = false := by simpa using hkey
  have hjoin : ∀ q : List QueueEntry, q.countP isCall ≤ s.calls →
      (q ++ [r]).countP isCall ≤ s.calls + if isCall r then 1 else 0 := fun q hq => by
    rw [List.countP_append, List.countP_singleton]
    exact Nat.add_le_add_right hq _
  rcases Nat.lt_or_ge s.string.queue.length 40 with hroom | hfull
  · rw [enqueue_append hnew hroom]
    exact hjoin _ (Nat.le_refl _)
  by_cases hs : r.verb = .survey
  · rw [enqueue_full_survey hnew hfull hs]
    exact Nat.le_add_right _ _
  by_cases hl : r.verb = .lampShow
  · rw [enqueue_full_show hnew hfull hl, State.calls, notShown_string]
    exact Nat.le_add_right _ _
  cases hy : youngestYielding s.string.queue with
  | none =>
    rw [enqueue_full_refuse hnew hfull hs hl hy]
    exact Nat.le_add_right _ _
  | some v =>
    rw [enqueue_full_evict hnew hfull hs hl hy]
    exact hjoin _ (List.Sublist.countP_le List.filter_sublist)

/-- A call of this verb waits in the queue for a dock, the string being in use. -/
def State.waits (s : State) (d : Dock) (v : Verb) : Prop :=
  s.string.flight.isSome = true ∧ ∃ q ∈ s.string.queue, q.target = .node (dockNode d) ∧ q.verb = v

section

variable {s : State} {d : Dock} {v : Verb}

theorem yields_of_youngest {q : List QueueEntry} {e : QueueEntry} (h : youngestYielding q = some e) :
    yields e = true := (List.mem_filter.1 (List.mem_of_getLast? h)).2

/-- A call that waits still waits after a request is placed. -/
theorem enqueue_waits (hv : v ≠ .survey ∧ v ≠ .lampShow) (r : QueueEntry) (h : s.waits d v) :
    (enqueue r s).waits d v := by
  obtain ⟨hflight, q, hq, htarget, hverb⟩ := h
  refine ⟨by rw [enqueue_flight]; exact hflight, ?_⟩
  by_cases hkey : ∃ e ∈ s.string.queue, sameKey e r = true
  · rw [enqueue_merge hkey]
    refine ⟨_, List.mem_map_of_mem hq, ?_⟩
    split <;> exact ⟨htarget, hverb⟩
  have hnew : ∀ e ∈ s.string.queue, sameKey e r = false := by simpa using hkey
  rcases Nat.lt_or_ge s.string.queue.length 40 with hroom | hfull
  · rw [enqueue_append hnew hroom]
    exact ⟨q, List.mem_append_left _ hq, htarget, hverb⟩
  by_cases hs : r.verb = .survey
  · rw [enqueue_full_survey hnew hfull hs]
    exact ⟨q, hq, htarget, hverb⟩
  by_cases hl : r.verb = .lampShow
  · rw [enqueue_full_show hnew hfull hl, notShown_string]
    exact ⟨q, hq, htarget, hverb⟩
  cases hy : youngestYielding s.string.queue with
  | none =>
    rw [enqueue_full_refuse hnew hfull hs hl hy]
    exact ⟨q, hq, htarget, hverb⟩
  | some e =>
    rw [enqueue_full_evict hnew hfull hs hl hy]
    refine ⟨q, List.mem_append_left _ (List.mem_filter.2 ⟨hq, ?_⟩), htarget, hverb⟩
    have hother : sameKey q e = false := by
      by_contra hsame
      have hyields := yields_of_youngest hy
      have hverbs : q.verb = e.verb := ((sameKey_iff q e).1 (by simpa using hsame)).2
      have hcall : isCall e = true := by
        unfold isCall
        rw [← hverbs, hverb]
        exact decide_eq_true hv
      rw [isCall_eq_not_yields, hyields] at hcall
      cases hcall
    simp [hother]

/-- A call placed for a dock waits, where the queue has room or a SURVEY or SHOW to give up. -/
theorem placeDock_waits (hv : v ≠ .survey ∧ v ≠ .lampShow) (hflight : s.string.flight.isSome = true)
    (hroom : s.calls < 40) (l : List Byte) (o : Originator) : (placeDock d v l o s).waits d v := by
  rw [placeDock, place, takeNext_in_use (by rw [enqueue_flight]; exact hflight)]
  refine ⟨by rw [enqueue_flight]; exact hflight, ?_⟩
  by_cases hkey : ∃ e ∈ s.string.queue, sameKey e (request (dockNode d) v l o) = true
  · rw [enqueue_merge hkey]
    obtain ⟨e, he, hsame⟩ := hkey
    obtain ⟨htarget, hverb⟩ := (sameKey_iff _ _).1 hsame
    exact ⟨_, List.mem_map_of_mem he, by rw [if_pos hsame]; exact ⟨htarget, hverb⟩⟩
  have hnew : ∀ e ∈ s.string.queue, sameKey e (request (dockNode d) v l o) = false := by simpa using hkey
  rcases Nat.lt_or_ge s.string.queue.length 40 with hshort | hfull
  · rw [enqueue_append hnew hshort]
    exact ⟨_, List.mem_append_right _ (List.mem_singleton_self _), rfl, rfl⟩
  cases hy : youngestYielding s.string.queue with
  | none =>
    have hall : ∀ e ∈ s.string.queue, isCall e = true := fun e he => by
      have hnone := List.filter_eq_nil_iff.1 (List.getLast?_eq_none_iff.1 hy) e he
      rw [isCall_eq_not_yields]
      simpa using hnone
    have hcount : s.calls = s.string.queue.length := List.countP_eq_length.2 hall
    omega
  | some e =>
    rw [enqueue_full_evict hnew hfull hv.1 hv.2 hy]
    exact ⟨_, List.mem_append_right _ (List.mem_singleton_self _), rfl, rfl⟩

end

/-- A call that waits still waits after the other blocks' work. -/
theorem waits_closed {v : Verb} (hv : v ≠ .survey ∧ v ≠ .lampShow) (d : Dock) : Closed (fun t => t.waits d v) := by
  constructor
  · constructor
    · constructor
      · exact fun _ _ _ _ h => h
      · exact fun _ _ s h => enqueue_waits hv _ h
      · exact fun s h => by rw [takeNext_in_use h.1]; exact h
    · exact fun r s h => enqueue_waits hv r h
    all_goals (intros; simpa [State.waits, State.filterTrips] using ‹_›)
  all_goals (intros; simpa [State.waits] using ‹_›)

/-- With the string in use, at most so many calls wait that a full queue does not give up. -/
def State.callsAtMost (n : Nat) (s : State) : Prop := s.string.flight.isSome = true ∧ s.calls ≤ n

theorem callsAtMost_mono {n m : Nat} (h : n ≤ m) {s : State} (hs : s.callsAtMost n) : s.callsAtMost m :=
  ⟨hs.1, hs.2.trans h⟩

theorem callsAtMost_placeDock {n : Nat} {s : State} (h : s.callsAtMost n) (d : Dock) (v : Verb) (l : List Byte)
    (o : Originator) : (placeDock d v l o s).callsAtMost (n + 1) := by
  obtain ⟨hflight, hcalls⟩ := h
  have hadd := enqueue_calls (request (dockNode d) v l o) s
  have hone : (if isCall (request (dockNode d) v l o) then 1 else 0) ≤ 1 := by split <;> omega
  rw [placeDock, place, takeNext_in_use (by rw [enqueue_flight]; exact hflight)]
  exact ⟨by rw [enqueue_flight]; exact hflight, by omega⟩

/-- Work that places SHOW requests alone adds no call. -/
theorem callsAtMost_faulted (n : Nat) : FaultClosed (State.callsAtMost n) where
  lampDock _ _ _ _ h := h
  show_ d args s h := ⟨by rw [enqueue_flight]; exact h.1, (enqueue_calls _ s).trans h.2⟩
  takeNext s h := by rw [takeNext_in_use h.1]; exact h
  setManifest _ _ _ h := h
  noteManifest _ h := h
  noteFollowOn _ h := h
  filterHire _ _ h := h
  addFault r s h := by
    unfold State.callsAtMost State.calls at h ⊢
    rw [addFault_string]
    exact h
  setFault _ _ _ h := h
  filterFaults _ _ h := h
  setFaultFull _ _ h := h

theorem callsAtMost_masks (n : Nat) : MasksButton (State.callsAtMost n) := fun _ _ _ h => h

theorem callsAtMost_stay (d : Dock) (n : Nat) : StayClosed d (State.callsAtMost n) where
  toManifestClosed := (callsAtMost_faulted n).toManifestClosed
  setCard _ _ _ h := h
  setTrip _ _ _ h := h
  filterTrips _ _ h := h
  noteTrips _ h := h
  setRelease _ _ _ h := h
  setCancel _ _ _ h := h
  setDock _ _ h := h

/-! ### From the sensed set on -/

/-- What a sensed set and the lamp after it can do. -/
structure SensedClosed (d : Dock) (P : State → Prop) : Prop extends ReportClosed P where
  masks : MasksButton P
  setFaultDock : ∀ (e : Dock) (f : FaultDock → FaultDock) (s : State), P s → P (s.setFaultDock e f)
  setDock : ∀ (f : DockRecord → DockRecord) (s : State), P s → P (s.setDock d f)

section

variable {P : State → Prop} {d : Dock}

theorem sensed_of_closed (h : Closed P) : SensedClosed d P where
  toLampClosed := h.toLampClosed
  setManifest f s _ hs := h.setManifest f s hs
  noteManifest := h.noteManifest
  noteFollowOn := h.noteFollowOn
  filterHire := h.filterHire
  addFault := h.addFault
  setFault := h.setFault
  filterFaults := h.filterFaults
  setFaultFull := h.setFaultFull
  enqueue := h.enqueue
  setMark e f s _ hs := h.setFaultDock e f s hs
  mapMarks f s _ hs := h.mapFaultDocks f s hs
  masks := h.buttonMask
  setFaultDock := h.setFaultDock
  setDock := h.setDock d

variable (h : SensedClosed d P)
include h

theorem sensed_placeDock (e : Dock) (v : Verb) (l : List Byte) (o : Originator) (s : State) (hs : P s) :
    P (placeDock e v l o s) :=
  h.takeNext _ (h.enqueue _ s hs)

theorem sensed_sensedSet (x : SensedSet) {s : State} (hs : P s) : P (sensedSet d x s) := by
  have hsensed : P (s.sensed d x) := h.setFaultDock _ _ _ (closed_foldl (P := P)
    (fun s p hs => faulted_judgeKind h.toFaultClosed (.inr h.masks) d p.2.1 p.2.2 s hs) _ s hs)
  rw [sensedSet_eq]
  split
  · exact reported_pressButton h.toReportClosed (fun e s hs => h.setFaultDock e _ s hs) (.inr h.masks) d hsensed
  · exact hsensed

/-- What holds when the sensed set is judged holds after a survey's answer. -/
theorem answered_of_surveyed {x : Byte} {mark : Bool} {s : State} (hs : P (s.surveyed d x mark)) :
    P (surveyAnswer d x mark s) := by
  rw [surveyAnswer_eq]
  exact closed_selectLamp h.toLampClosed d _ (sensed_sensedSet h _ (h.setDock _ _ hs))

/-- With BIKE, what the presence step leaves lasts to the end of the answer. -/
theorem answered_of_presence {x : Byte} {mark : Bool} {s : State} (hbike : hasBike x = true)
    (hs : P (presence d true (mark || (s.dock d).resyncDue) s)) : P (surveyAnswer d x mark s) := by
  have hreceived : P (s.received d x mark) := by
    unfold State.received
    rw [hbike, if_pos rfl]
    exact h.setDock _ _ hs
  refine answered_of_surveyed h ?_
  unfold State.surveyed State.tapped
  split
  · exact sensed_placeDock h _ _ _ _ _ hreceived
  · exact hreceived

end

/-! ### Deferred arrivals, and the contexts of releases and cancels -/

theorem deferred_sensed (d : Dock) (F : Vector (Option Deferral) 30 → Prop) :
    SensedClosed d (fun t => F t.deferred) where
  lampDock _ _ _ _ h := h
  show_ _ _ s h := by rw [enqueue_deferred]; exact h
  takeNext s h := by rw [takeNext_deferred]; exact h
  setManifest _ _ _ h := h
  noteManifest _ h := h
  noteFollowOn _ h := h
  filterHire _ _ h := h
  addFault r s h := by rw [addFault_deferred]; exact h
  setFault _ _ _ h := h
  filterFaults _ _ h := h
  setFaultFull _ _ h := h
  enqueue _ s h := by rw [enqueue_deferred]; exact h
  setMark _ _ _ _ h := h
  mapMarks _ _ _ h := h
  masks _ _ _ h := h
  setFaultDock _ _ _ h := h
  setDock _ _ h := h

theorem deferred_stay (d : Dock) (F : Vector (Option Deferral) 30 → Prop) : StayClosed d (fun t => F t.deferred) where
  toManifestClosed := (deferred_sensed d F).toManifestClosed
  setCard _ _ _ h := h
  setTrip _ _ _ h := h
  filterTrips _ _ h := h
  noteTrips _ h := h
  setRelease _ _ _ h := h
  setCancel _ _ _ h := h
  setDock _ _ h := h

theorem contexts_sensed (d : Dock) (F : Option ReleaseContext → Option CancelContext → Prop) :
    SensedClosed d (fun t => F (t.release d) (t.cancel d)) where
  lampDock _ _ _ _ h := h
  show_ _ _ s h := by unfold State.release State.cancel; rw [enqueue_hire]; exact h
  takeNext s h := by unfold State.release State.cancel; rw [takeNext_hire]; exact h
  setManifest _ _ _ h := h
  noteManifest _ h := h
  noteFollowOn _ h := h
  filterHire _ _ h := h
  addFault r s h := by unfold State.release State.cancel; rw [addFault_hire]; exact h
  setFault _ _ _ h := h
  filterFaults _ _ h := h
  setFaultFull _ _ h := h
  enqueue _ s h := by unfold State.release State.cancel; rw [enqueue_hire]; exact h
  setMark _ _ _ _ h := h
  mapMarks _ _ _ h := h
  masks _ _ _ h := h
  setFaultDock _ _ _ h := h
  setDock _ _ h := h

/-! ### Deferred arrivals after a survey's answer (R29, R94) -/

section

variable {d : Dock} {x : Byte} {mark : Bool} {s : State}

theorem forcedRemoval_deferred (F : Vector (Option Deferral) 30 → Prop) {t : State} (h : F t.deferred) :
    F (forcedRemoval d t).deferred :=
  faulted_forcedRemoval (deferred_sensed d F).toFaultClosed d (.inr (deferred_sensed d F).masks) h

/-- The deferred arrivals of other docks stay. -/
theorem surveyAnswer_deferred_other {e : Dock} (hne : e ≠ d) :
    (surveyAnswer d x mark s).deferred.get e = s.deferred.get e := by
  have hsensed := deferred_sensed d (fun v => v.get e = s.deferred.get e)
  refine answered_of_surveyed hsensed ?_
  refine surveyed_kept (deferred_stay d (fun v => v.get e = s.deferred.get e)) hsensed.enqueue
    (fun t ht => forcedRemoval_deferred (fun v => v.get e = s.deferred.get e) ht) (fun t ht => ?_) x mark rfl
  exact (get_set _ d e _).trans ((if_neg (Ne.symm hne)).trans ht)

/-- Where no bicycle leaves, the deferred list stays. -/
theorem surveyAnswer_deferred_stays (hstays : hasBike x = true ∨
    ((s.dock d).occupancy ≠ .occupied ∧ (s.dock d).occupancy ≠ .releasing)) :
    (surveyAnswer d x mark s).deferred = s.deferred := by
  have hsensed := deferred_sensed d (· = s.deferred)
  have hplace := sensed_placeDock hsensed d
  refine answered_of_surveyed hsensed (surveyed_of_presence (deferred_stay d (· = s.deferred)) (hplace _ _ _)
    (presence_kept (deferred_stay d (· = s.deferred)) (deferred_stay d (· = s.deferred)) (fun _ => id) (hplace _ _ _)
      (fun b t h => hplace _ _ _ _ (hplace _ _ _ t h)) (fun hbike hocc => ?_) rfl))
  rcases hstays with h | ⟨h, h'⟩
  · rw [hbike] at h; cases h
  · exact absurd hocc (not_or.2 ⟨h, h'⟩)

theorem presence_departs (hocc : (s.dock d).occupancy = .occupied ∨ (s.dock d).occupancy = .releasing)
    (resync : Bool) : presence d false resync s = departure d s := by
  rcases hocc with hocc | hocc <;> simp only [presence, hocc]

/-- The deferred arrival of the dock that a bicycle leaves is gone. -/
theorem surveyAnswer_deferred_left (hbike : hasBike x = false)
    (hocc : (s.dock d).occupancy = .occupied ∨ (s.dock d).occupancy = .releasing) :
    (surveyAnswer d x mark s).deferred.get d = none := by
  have hsensed := deferred_sensed d (fun v => v.get d = none)
  refine answered_of_surveyed hsensed (surveyed_of_presence (deferred_stay d (fun v => v.get d = none))
    (sensed_placeDock hsensed d _ _ _) ?_)
  rw [hbike, presence_departs hocc]
  unfold departure emptyDock
  refine managed_tellOccupancy hsensed.toManifestClosed d _ (closed_selectLamp hsensed.toLampClosed d _ ?_)
  exact (get_set _ d d _).trans (if_pos rfl)

/-! ### The contexts of the dock after BIKE at a RELEASING dock (R74, R77) -/

theorem presence_releasing (hocc : (s.dock d).occupancy = .releasing) (resync : Bool) :
    presence d true resync s = stillPresent d s := by
  simp only [presence, hocc]

theorem stillPresent_waiting {y : ReleaseContext} {ms : Nat} (hy : s.release d = some y)
    (hphase : y.phase = .waiting ms) : stillPresent d s = s.setRelease d (some { y with seenPresent := true }) := by
  simp only [stillPresent, hy, hphase]

theorem stillPresent_overdue {y : ReleaseContext} (hy : s.release d = some y) (hphase : y.phase = .overdue) :
    stillPresent d s = cancelRelease d y s := by
  simp only [stillPresent, hy, hphase]

theorem cancelRelease_contexts (d : Dock) (y : ReleaseContext) (s : State) :
    (cancelRelease d y s).release d = none ∧ ((cancelRelease d y s).cancel d).isSome = true := by
  have hcontexts : ∀ (t : State) c, ((t.setRelease d none).setCancel d (some c)).release d = none ∧
      (((t.setRelease d none).setCancel d (some c)).cancel d).isSome = true := fun t c => by
    rw [setCancel_cancel, if_pos rfl]
    exact ⟨(setRelease_release t d d none).trans (if_pos rfl), rfl⟩
  rw [cancelRelease_eq]
  exact hcontexts _ _

theorem surveyAnswer_seen {y : ReleaseContext} {ms : Nat} (hbike : hasBike x = true)
    (hocc : (s.dock d).occupancy = .releasing) (hy : s.release d = some y) (hphase : y.phase = .waiting ms) :
    (surveyAnswer d x mark s).release d = some { y with seenPresent := true } := by
  refine answered_of_presence (contexts_sensed d (fun r _ => r = some { y with seenPresent := true })) hbike ?_
  rw [presence_releasing hocc, stillPresent_waiting hy hphase, setRelease_release, if_pos rfl]

theorem surveyAnswer_cancelled {y : ReleaseContext} (hbike : hasBike x = true)
    (hocc : (s.dock d).occupancy = .releasing) (hy : s.release d = some y) (hphase : y.phase = .overdue) :
    (surveyAnswer d x mark s).release d = none ∧ ((surveyAnswer d x mark s).cancel d).isSome = true := by
  refine answered_of_presence (contexts_sensed d (fun r c => r = none ∧ c.isSome = true)) hbike ?_
  rw [presence_releasing hocc, stillPresent_overdue hy hphase]
  exact cancelRelease_contexts d y s

/-! ### The calls of a survey's answer (R28, R31) -/

theorem read_not_yielding : (Verb.tagread ≠ .survey ∧ Verb.tagread ≠ .lampShow) ∧
    (Verb.tapread ≠ .survey ∧ Verb.tapread ≠ .lampShow) := by decide

/-- TAP places a TAPREAD, with room left by the presence step. -/
theorem surveyAnswer_taps_after (htap : hasTap x = true)
    (hroom : (presence d (hasBike x) (mark || (s.dock d).resyncDue) s).callsAtMost 39) :
    (surveyAnswer d x mark s).waits d .tapread := by
  have hmet := (callsAtMost_stay d 39).setDock (fun r => { r with lastCondition := some x, resyncDue := false }) _ hroom
  have hreceived : (s.received d x mark).callsAtMost 39 := by
    unfold State.received
    dsimp only
    split
    · exact hmet
    · exact tripped_watchReport (callsAtMost_stay d 39).toTripClosed d none _ hmet
  refine answered_of_surveyed (sensed_of_closed (waits_closed read_not_yielding.2 d)) ?_
  unfold State.surveyed State.tapped
  rw [if_pos htap]
  exact placeDock_waits read_not_yielding.2 hreceived.1 (Nat.lt_succ_of_le hreceived.2) _ _

/-- TAP places a TAPREAD whatever the presence step does, which itself places two calls at most. -/
theorem surveyAnswer_taps (htap : hasTap x = true) (hroom : s.callsAtMost 37) :
    (surveyAnswer d x mark s).waits d .tapread := by
  refine surveyAnswer_taps_after htap (presence_kept (callsAtMost_stay d 37) (callsAtMost_stay d 39)
    (fun _ => callsAtMost_mono (by omega))
    (fun _ h => callsAtMost_mono (by omega) (callsAtMost_placeDock h d _ _ _))
    (fun _ _ h => callsAtMost_placeDock (callsAtMost_placeDock h d _ _ _) d _ _ _)
    (fun _ _ => ⟨fun _ h => callsAtMost_mono (n := 37) (by omega) ?_, fun _ h => h⟩) hroom)
  exact faulted_forcedRemoval (callsAtMost_faulted 37) d (.inr (callsAtMost_masks 37)) h

/-- A TAGREAD that the presence step places still waits after the answer. -/
theorem surveyAnswer_reads (h : (presence d (hasBike x) (mark || (s.dock d).resyncDue) s).waits d .tagread) :
    (surveyAnswer d x mark s).waits d .tagread := by
  have hclosed := waits_closed read_not_yielding.1 d
  exact answered_of_surveyed (sensed_of_closed hclosed) (surveyed_of_presence (stay_of_closed hclosed)
    (closed_placeDock hclosed.toCalmClosed d _ _ _) h)

theorem queueTagread_waits (hflight : s.string.flight.isSome = true) (hroom : s.calls < 40) :
    (queueTagread d s).waits d .tagread :=
  placeDock_waits read_not_yielding.1 hflight hroom _ _

theorem arrival_waits (hflight : s.string.flight.isSome = true) (hroom : s.calls < 40) :
    (arrival d s).waits d .tagread :=
  arrival_kept (P := fun t => t.string.flight.isSome = true ∧ t.calls < 40)
    (stay_of_closed (waits_closed read_not_yielding.1 d)) (fun _ h => queueTagread_waits h.1 h.2) (fun _ _ h => h)
    ⟨hflight, hroom⟩

end

end Sys2Proof.Machine
end

section
/-! PROOFS. The statement on the answers of docks (R14, R28 to R33, R138, R139, R198). -/

namespace Sys2Proof.Machine

open Sys2Proof

/-! ### How an answer's last character hands it to the Dock Monitor (R14, R15) -/

theorem answer_condition (c : Call) {got : List Byte} (hlen : 2 ≤ got.length) (data : Byte) :
    (c.answer got data).condition = got.getD 1 0 := by
  match got, hlen with
  | a :: b :: l, _ => simp [Call.answer]

theorem dockOutcome_tapread {e : QueueEntry} (h : e.verb = .tapread) (d : Dock) (a : Answer) (mark : Bool)
    (o : Originator) (s : State) : dockOutcome d e (some a) mark o s = tapAnswer d a.data s := by
  simp only [dockOutcome, h]

theorem dockOutcome_tagread {e : QueueEntry} (h : e.verb = .tagread) (d : Dock) (a : Answer) (mark : Bool)
    (o : Originator) (s : State) : dockOutcome d e (some a) mark o s = tagAnswer d a.data s := by
  simp only [dockOutcome, h]

/-- What the Dock Monitor does with an answer to a call that it asked for itself. -/
theorem handOutcome_answered {d : Dock} {e : QueueEntry} (h : e.originators = [.dockMonitor])
    (hverb : e.verb = .survey ∨ e.verb = .tapread ∨ e.verb = .tagread) (a : Answer) (mark : Bool) (s : State) :
    handOutcome (dockNode d) e (some a) mark s =
      if e.verb = .survey then surveyAnswer d a.condition mark s
      else if e.verb = .tapread then tapAnswer d a.data (noteButton d a.condition s)
      else tagAnswer d a.data (noteButton d a.condition s) := by
  rcases hverb with hv | hv | hv
  · rw [handOutcome_survey h hv, if_pos hv]
  · rw [handOutcome_good h (by rw [hv]; decide), dockOutcome_tapread hv, if_neg (by rw [hv]; decide), if_pos hv]
  · rw [handOutcome_good h (by rw [hv]; decide), dockOutcome_tagread hv, if_neg (by rw [hv]; decide),
      if_neg (by rw [hv]; decide)]

theorem calls_eq (s : State) : s.calls =
    (s.string.queue.filter (fun q => decide (q.verb ≠ .survey ∧ q.verb ≠ .lampShow))).length :=
  List.countP_eq_length_filter

/-! ### The presence step and the record after the answer -/

section

variable {s : State} {d : Dock} {x : Byte} {mark : Bool}

theorem presence_arrives {resync : Bool} (h : (s.dock d).occupancy = .unknown ∨ (s.dock d).occupancy = .empty ∨
    ((s.dock d).occupancy = .occupied ∧ resync = true)) : presence d true resync s = arrival d s := by
  rcases h with h | h | ⟨h, hresync⟩
  · simp only [presence, h]
  · simp only [presence, h]
  · simp only [presence, h, hresync, if_true]

theorem presence_unread (hocc : (s.dock d).occupancy = .occupied) (hb : (s.dock d).bike = none) :
    presence d true false s = queueTagread d s := by
  simp only [presence, hocc, hb, Option.isNone_none, Bool.false_eq_true, if_true, if_false]

theorem presence_read (hocc : (s.dock d).occupancy = .occupied) (hb : (s.dock d).bike ≠ none) :
    presence d true false s = s := by
  have hsome : (s.dock d).bike.isNone = false := Option.isNone_eq_false_iff.2 (Option.isSome_iff_ne_none.2 hb)
  simp only [presence, hocc, hsome, Bool.false_eq_true, if_false]

theorem presence_still_empty (hocc : (s.dock d).occupancy = .empty) (resync : Bool) :
    presence d false resync s = s := by
  simp only [presence, hocc]

theorem presence_found_empty (hocc : (s.dock d).occupancy = .unknown) (resync : Bool) :
    presence d false resync s = foundEmpty d s := by
  simp only [presence, hocc]

theorem callsAtMost_of_length (hflight : s.string.flight.isSome = true) (hroom : s.string.queue.length < 40) :
    s.callsAtMost 39 :=
  ⟨hflight, Nat.le_of_lt_succ (Nat.lt_of_le_of_lt List.countP_le_length hroom)⟩

variable (hflight : s.string.flight.isSome = true) (hroom : s.string.queue.length < 40)
include hflight hroom

/-- With room in the queue an arrival's TAGREAD waits. -/
theorem surveyAnswer_arrival_reads (hbike : hasBike x = true) (h : (s.dock d).occupancy = .unknown ∨
    (s.dock d).occupancy = .empty ∨ ((s.dock d).occupancy = .occupied ∧ (mark || (s.dock d).resyncDue) = true)) :
    (surveyAnswer d x mark s).waits d .tagread := by
  refine surveyAnswer_reads ?_
  rw [hbike, presence_arrives h]
  exact arrival_waits hflight (Nat.lt_succ_of_le (callsAtMost_of_length hflight hroom).2)

/-- With room in the queue the TAGREAD of a bicycle without a number waits. -/
theorem surveyAnswer_unread_reads (hbike : hasBike x = true) (hocc : (s.dock d).occupancy = .occupied)
    (hresync : (mark || (s.dock d).resyncDue) = false) (hb : (s.dock d).bike = none) :
    (surveyAnswer d x mark s).waits d .tagread := by
  refine surveyAnswer_reads ?_
  rw [hbike, hresync, presence_unread hocc hb]
  exact queueTagread_waits hflight (Nat.lt_succ_of_le (callsAtMost_of_length hflight hroom).2)

/-- With room in the queue, where the presence step changes nothing, TAP places a TAPREAD. -/
theorem surveyAnswer_idle_taps (htap : hasTap x = true)
    (hidle : presence d (hasBike x) (mark || (s.dock d).resyncDue) s = s) :
    (surveyAnswer d x mark s).waits d .tapread := by
  refine surveyAnswer_taps_after htap ?_
  rw [hidle]
  exact callsAtMost_of_length hflight hroom

theorem surveyAnswer_read_taps (htap : hasTap x = true) (hbike : hasBike x = true)
    (hocc : (s.dock d).occupancy = .occupied) (hresync : (mark || (s.dock d).resyncDue) = false)
    (hb : (s.dock d).bike ≠ none) : (surveyAnswer d x mark s).waits d .tapread :=
  surveyAnswer_idle_taps hflight hroom htap (by rw [hbike, hresync]; exact presence_read hocc hb)

theorem surveyAnswer_empty_taps (htap : hasTap x = true) (hbike : hasBike x = false)
    (hocc : (s.dock d).occupancy = .empty) : (surveyAnswer d x mark s).waits d .tapread :=
  surveyAnswer_idle_taps hflight hroom htap (by rw [hbike]; exact presence_still_empty hocc _)

end

/-! ### A survey's answer by the occupancy that it finds (R28, R29, R32, R74, R77) -/

section

variable {s : State} {d : Dock} {x : Byte} {mark : Bool}

/-- What the presence step makes of the record is kept. -/
theorem kept_of_presence {bike : Bool} {m : DockRecord} (hbike : hasBike x = bike)
    (h : ((presence d bike (mark || (s.dock d).resyncDue) s).dock d).known = m.known) :
    ((surveyAnswer d x mark s).dock d).known = (m.answered x).known :=
  surveyAnswer_known (hbike ▸ h)

section

variable (hbike : hasBike x = true)
include hbike

theorem surveyAnswer_arrives (h : (s.dock d).occupancy = .unknown ∨ (s.dock d).occupancy = .empty ∨
    ((s.dock d).occupancy = .occupied ∧ (mark || (s.dock d).resyncDue) = true)) :
    ((surveyAnswer d x mark s).dock d).known = ((s.dock d).fresh.answered x).known :=
  kept_of_presence hbike (by rw [presence_arrives h]; exact arrival_known d s)

theorem surveyAnswer_stays (hocc : (s.dock d).occupancy = .occupied)
    (hresync : (mark || (s.dock d).resyncDue) = false) :
    ((surveyAnswer d x mark s).dock d).known = ((s.dock d).answered x).known :=
  kept_of_presence hbike (by rw [hresync]; exact presence_stays_known hocc)

theorem surveyAnswer_awaits (hocc : (s.dock d).occupancy = .releasing)
    (hphase : ∀ y, s.release d = some y → y.phase ≠ .overdue) :
    ((surveyAnswer d x mark s).dock d).known = ((s.dock d).answered x).known :=
  kept_of_presence hbike (by
    rw [presence_releasing hocc]
    exact stillPresent_known fun ⟨y, hy, hover⟩ => hphase y hy hover)

theorem surveyAnswer_undoes {y : ReleaseContext} (hocc : (s.dock d).occupancy = .releasing)
    (hy : s.release d = some y) (hphase : y.phase = .overdue) : ((surveyAnswer d x mark s).dock d).known =
      (({ s.dock d with occupancy := .occupied } : DockRecord).answered x).known :=
  kept_of_presence hbike (by
    rw [presence_releasing hocc]
    exact stillPresent_overdue_known ⟨y, hy, hphase⟩)

end

section

variable (hbike : hasBike x = false)
include hbike

theorem surveyAnswer_found_empty (hocc : (s.dock d).occupancy = .unknown) : ((surveyAnswer d x mark s).dock d).known =
    (({ s.dock d with occupancy := .empty } : DockRecord).answered x).known :=
  kept_of_presence hbike (by rw [presence_found_empty hocc]; exact foundEmpty_known d s)

theorem surveyAnswer_still_empty (hocc : (s.dock d).occupancy = .empty) :
    ((surveyAnswer d x mark s).dock d).known = ((s.dock d).answered x).known :=
  kept_of_presence hbike (by rw [presence_still_empty hocc])

theorem surveyAnswer_departs (hocc : (s.dock d).occupancy = .occupied ∨ (s.dock d).occupancy = .releasing) :
    ((surveyAnswer d x mark s).dock d).known = ((s.dock d).left.answered x).known :=
  kept_of_presence hbike (by rw [presence_departs hocc]; exact departure_known d s)

end

end

/-! ### The statement, part by part -/

/-- The last character of a GOOD answer without a cross attempt hands it to the Dock Monitor. -/
theorem good_answer_taken {s : State} {c : Call} {d : Dock} {got : List Byte} {data : Byte}
    (hflight : s.string.flight = some (.call c)) (hcross : c.crossOf = none) (hd : c.node = dockNode d)
    (ho : c.entry.originators = [.dockMonitor]) (hphase : c.phase = .answering got)
    (haddress : got ≠ [] ∨ data = c.entry.target.address)
    (hlen : got.length + 1 = c.entry.verb.answerData + 3) (hsum : sum8 (got ++ [data]) = 0)
    (hverb : (c.entry.verb = .survey ∧ c.entry.cross = false) ∨ c.entry.verb = .tapread ∨ c.entry.verb = .tagread) :
    ∃ v, exec (.stringCharacterReceived c.on data false) s = .next (finishEvent (freeString
        (let a := v.handedAnswer (dockNode d) (s.link (dockNode d)).heldButton (c.answer got data)
         if c.entry.verb = .survey then surveyAnswer d a.condition c.marked v
         else if c.entry.verb = .tapread then tapAnswer d a.data (noteButton d a.condition v)
         else tagAnswer d a.data (noteButton d a.condition v)))) ∧
      HandsOver s c .reachable v := by
  have hmark : c.entry.verb ≠ .survey ∨ c.entry.cross = false := by
    rcases hverb with ⟨-, h⟩ | h | h
    · exact .inr h
    · exact .inl (by rw [h]; decide)
    · exact .inl (by rw [h]; decide)
  obtain ⟨v, hend, hover⟩ := good_call_hands_over hflight hcross hmark hd (c.answer got data)
  rw [handOutcome_answered ho (hverb.imp_left And.left)] at hend
  exact ⟨v, hend ▸ exec_good_answer hflight hphase haddress hlen hsum, hover⟩

/-- The end of a cross attempt hands on the answer of the ordinary call (R13, R14). -/
theorem cross_answer_taken {s : State} {c : Call} {d : Dock} {a : Answer} (hflight : s.string.flight = some (.call c))
    (hcross : c.crossOf = some (some a)) (hd : c.node = dockNode d) (ho : c.entry.originators = [.dockMonitor])
    (hverb : c.entry.verb = .survey) (o : AttemptOutcome) :
    ∃ v, attemptEnd o c s = freeString (surveyAnswer d
        (v.handedAnswer (dockNode d) (c.linkAfterCross o (s.link (dockNode d))).heldButton a).condition c.marked v) ∧
      HandsOver s c (s.link (dockNode d)).contact v := by
  obtain ⟨v, hend, hover⟩ := cross_hands_over hflight hcross hd o
  exact ⟨v, handOutcome_survey ho hverb _ _ v ▸ hend, hover⟩

/-- A full table takes no SUSPECT record (R136). -/
theorem judgeKind_full {s : State} {d : Dock} {k : FaultKind} (hnone : s.findFault (.dock d) k = none)
    (hfull : s.freeFaultSlot = none) (n : Nat) : judgeKind d k n true s = s := by
  rw [judgeKind_none hnone]
  split
  · simp only [createSuspect, hfull, Option.isSome_none, Bool.false_eq_true, if_false]
  · rfl

/-- Settles O23: `good_answer_taken` and `cross_answer_taken` for the hand-over, the survey's answer by the occupancy
that it finds, the kinds that it judges, and `takeTag_record` with the reports of a tag. -/
theorem dockAnswersTaken : Obligations.DockAnswersTaken := by
  unfold Obligations.DockAnswersTaken
  refine ⟨?_, ?_, fun s d x => ⟨?_, fun e he => noteButton_other he x s, ?_⟩, ?_, ?_, fun s d => ⟨fun k n hnone hfull =>
    judgeKind_full hnone hfull n, fun hnone hroom => ?_, fun r hr => ⟨fun hactive => ?_, fun hs hclearing => ?_⟩⟩, ?_⟩
  · intro s c d got data hflight hcross hd ho hphase haddress hlen hsum hverb
    obtain ⟨v, hexec, hover⟩ := good_answer_taken hflight hcross hd ho hphase haddress hlen hsum hverb
    refine ⟨v, ?_, frame_of_tells hover.frame, hover.flight, hover.known (by decide)⟩
    rw [hexec, ← answer_condition c (by omega) data]
    rfl
  · intro s c d a hflight hcross hd ho hverb
    refine ⟨?_, fun got data hphase hlen hsum => ?_⟩
    · obtain ⟨v, hend, hover⟩ := cross_answer_taken hflight hcross hd ho hverb c.phase.expired
      rw [linkAfterCross_failed c (expired_failed _)] at hend
      exact ⟨v, hend ▸ exec_window_call hflight, frame_of_tells hover.frame, hover.flight, hover.known⟩
    · obtain ⟨v, hend, hover⟩ := cross_answer_taken hflight hcross hd ho hverb
        (.good { condition := got.getD 1 0, data := [] })
      refine ⟨v, ?_, frame_of_tells hover.frame, hover.flight, hover.known⟩
      rw [exec_good_survey hflight hverb hphase hlen hsum, hend]
      simp only [State.handedAnswer, Call.linkAfterCross, hd, nodeDock_dockNode, Option.isSome_some, Bool.true_and]
      rfl
  · rw [noteButton_dock, if_pos rfl]
  · rw [noteButton_eq]
    rfl
  · intro s d x mark r t here resync kept fresh queued
    refine ⟨fun e he => ⟨surveyAnswer_other_known he x mark s, surveyAnswer_deferred_other he⟩,
      selectLamp_selected d _,
      fun htap hflight hroom => (surveyAnswer_taps htap ⟨hflight, by rw [calls_eq]; exact hroom⟩).2,
      fun hbike => ⟨fun hnew => ⟨surveyAnswer_arrives hbike hnew, surveyAnswer_deferred_stays (.inl hbike),
          fun hflight hroom => (surveyAnswer_arrival_reads hflight hroom hbike hnew).2⟩,
        fun hocc hresync => ⟨surveyAnswer_stays hbike hocc hresync, surveyAnswer_deferred_stays (.inl hbike),
          fun hb hflight hroom => (surveyAnswer_unread_reads hflight hroom hbike hocc hresync hb).2,
          fun hb htap hflight hroom => (surveyAnswer_read_taps hflight hroom htap hbike hocc hresync hb).2⟩,
        fun hocc => ⟨surveyAnswer_deferred_stays (.inl hbike), surveyAnswer_awaits hbike hocc,
          fun y ms => surveyAnswer_seen hbike hocc, fun y hy hphase => ⟨surveyAnswer_undoes hbike hocc hy hphase,
            surveyAnswer_cancelled hbike hocc hy hphase⟩⟩⟩,
      fun hbike => ⟨fun hocc => ⟨surveyAnswer_found_empty hbike hocc, surveyAnswer_deferred_stays (.inr ?_)⟩,
        fun hocc => ⟨surveyAnswer_still_empty hbike hocc, surveyAnswer_deferred_stays (.inr ?_),
          fun htap hflight hroom => (surveyAnswer_empty_taps hflight hroom htap hbike hocc).2⟩,
        fun hocc => ⟨surveyAnswer_departs hbike hocc, surveyAnswer_deferred_left hbike hocc⟩⟩⟩
    · rw [hocc]
      decide
    · rw [hocc]
      decide
  · intro s d x mark t
    refine ⟨surveyAnswer_tagFailed d x mark s, fun hs hroom => ⟨fun p hp => ?_,
      fun hbike hocc h hsuspect => surveyAnswer_forced hs hroom hbike hocc h hsuspect mark,
      fun r hr hstays => surveyAnswer_no_departure hs hroom hstays mark hr⟩⟩
    have hkind : p.1 ≠ .forcedRemoval := by
      simp only [List.mem_cons, List.not_mem_nil, or_false] at hp
      rcases hp with rfl | rfl | rfl | rfl <;> simp
    obtain ⟨hheld, habsent, hsuspect⟩ :=
      surveyAnswer_judges_kind hs hroom x mark (List.mem_append_left [(.forcedRemoval, 4, false)] hp) hkind
    exact ⟨hheld, fun hnone => ⟨habsent hnone, hsuspect hnone⟩⟩
  · rw [forcedRemoval_none hnone, findFault_of_records (createActive_records _ _ _ hroom)]
    exact findFault_added hnone hroom _ _ _
  · exact forcedRemoval_stays hr (by rw [hactive]; decide)
  · rw [forcedRemoval_clearing hr hclearing]
    exact (confirmFault_writes hs hr).2
  · intro s d bs r u
    refine ⟨tagAnswer_discards, fun hocc hb => ⟨tagAnswer_unread hocc hb, fun t ht hrelease => ?_⟩⟩
    have hu : u = takeTag d t s := tagAnswer_read hocc hb ht
    have hrecord : (u.dock d).unpricedOff = (r.withTag t).unpricedOff := hu ▸ takeTag_record hrelease
    have hlastTap := congrArg DockRecord.lastTap hrecord
    have hlastCondition := congrArg DockRecord.lastCondition hrecord
    refine ⟨(congrArg DockRecord.occupancy hrecord).trans hocc, congrArg DockRecord.bike hrecord,
      congrArg DockRecord.stampSeen hrecord, congrArg DockRecord.serviceMark hrecord,
      congrArg DockRecord.watch hrecord, hlastTap, hlastCondition, ?_⟩
    rw [hu]
    exact ⟨selectLamp_selected d _, fun f hf => takeTag_trip hf hrelease, fun n => takeTag_van,
      fun hmark => takeTag_marked hmark hrelease⟩

end Sys2Proof.Machine
end

section
/-! PROOFS. The card table: reading an entry by its card, and the lowest free slot (R45). -/

namespace Sys2Proof.Machine

open Sys2Proof

section

variable {s : State} {c : CardNo} {e : CardEntry}

/-! ### Entries by their card (R45) -/

theorem card_eq_of_card (h : s.cardsOk) {a b : CardEntry} (ha : a ∈ s.cards) (hb : b ∈ s.cards)
    (hcard : a.card = b.card) : a = b := by
  by_contra hne
  have hdiff : s.cards.Pairwise (fun a b => a.card ≠ b.card) := h.1.imp fun hab => hab.2
  have : Std.Symm (fun a b : CardEntry => a.card ≠ b.card) := ⟨fun _ _ => Ne.symm⟩
  exact hdiff.forall ha hb hne hcard

theorem mem_of_findCard (h : s.findCard c = some e) : e ∈ s.cards ∧ e.card = c :=
  ⟨List.mem_of_find?_eq_some h, by simpa using List.find?_some h⟩

theorem findCard_eq_none_iff : s.findCard c = none ↔ ∀ x ∈ s.cards, x.card ≠ c := by
  simp [State.findCard]

/-- The entry of a card is the one that carries it. -/
theorem findCard_eq_some_iff (h : s.cardsOk) : s.findCard c = some e ↔ e ∈ s.cards ∧ e.card = c := by
  refine ⟨mem_of_findCard, ?_⟩
  rintro ⟨he, rfl⟩
  cases hfind : s.findCard e.card with
  | none => exact absurd rfl (findCard_eq_none_iff.1 hfind e he)
  | some a =>
    obtain ⟨ha, hcard⟩ := mem_of_findCard hfind
    rw [card_eq_of_card h ha he hcard]

/-! ### The lowest free slot (R45) -/

theorem freeCardSlot_eq_none_iff : s.freeCardSlot = none ↔ ∀ j, ∃ x ∈ s.cards, x.slot = j := by
  simp [State.freeCardSlot]

/-- The slot that is taken is free, and every lower one is held. -/
theorem freeCardSlot_lowest {i : Fin 256} (h : s.freeCardSlot = some i) :
    (∀ x ∈ s.cards, x.slot ≠ i) ∧ ∀ j, j < i → ∃ x ∈ s.cards, x.slot = j := by
  obtain ⟨hfree, n, hn, hi, hheld⟩ := List.find?_eq_some_iff_getElem.1 h
  rw [List.getElem_finRange] at hi
  subst hi
  refine ⟨by simpa using hfree, fun j hj => ?_⟩
  simpa using hheld j.val hj

/-- A new entry takes the lowest free slot. -/
theorem addCard_eq {i : Fin 256} (hi : s.freeCardSlot = some i) (hnew : s.findCard e.card = none) :
    s.addCard e = { s with cards := insertCard { e with slot := i } s.cards } := by
  simp only [State.addCard, hi, hnew, Option.isSome_none, Bool.false_eq_true, if_false]

theorem addCard_cases (e : CardEntry) (s : State) : s.addCard e = s ∨
    ∃ i, s.freeCardSlot = some i ∧ s.findCard e.card = none ∧
      s.addCard e = { s with cards := insertCard { e with slot := i } s.cards } := by
  cases hi : s.freeCardSlot with
  | none => exact .inl (by simp only [State.addCard, hi])
  | some i =>
    cases hc : s.findCard e.card with
    | none => exact .inr ⟨i, rfl, rfl, addCard_eq hi hc⟩
    | some x => exact .inl (by simp only [State.addCard, hi, hc, Option.isSome_some, if_true])

end

end Sys2Proof.Machine
end

section
/-! PROOFS. The invariant of the tables: what every update of a table, every command and a period of the reference
clock keep (R45, R55, R66, R83, R134). -/

namespace Sys2Proof.Machine

open Sys2Proof

/-! ### Updates that add nothing to a table -/

/-- Tables that hold a part of what they held, in its order, keep their sizes and keys. -/
theorem tablesOk_of_sublists {s t : State} (hs : s.tablesOk) (hcards : t.cards.Sublist s.cards)
    (hrefers : t.refers.Sublist s.refers) (hqueue : t.hire.queue.Sublist s.hire.queue)
    (htrips : t.trips.Sublist s.trips) (hrecords : t.faults.records.Sublist s.faults.records) : t.tablesOk := by
  obtain ⟨⟨hcardsOk, hrefersLen, hrefersOk⟩, ⟨hqueueLen, hqueueOk⟩, ⟨htripsLen, htripsOk⟩, hrecordsOk⟩ := hs
  exact ⟨⟨hcardsOk.sublist hcards, hrefers.length_le.trans hrefersLen, hrefersOk.sublist hrefers⟩,
    ⟨hqueue.length_le.trans hqueueLen, hqueueOk.sublist hqueue⟩,
    ⟨htrips.length_le.trans htripsLen, htripsOk.sublist htrips⟩, hrecordsOk.sublist hrecords⟩

/-- The tables of R45, R55, R66, R83 and R134. -/
def State.tables (s : State) :
    List CardEntry × List ReferSlot × List HireRequest × List TripRecord × List FaultRecord :=
  (s.cards, s.refers, s.hire.queue, s.trips, s.faults.records)

theorem tablesOk_of_tables {s t : State} (h : t.tables = s.tables) (hs : s.tablesOk) : t.tablesOk := by
  simp only [State.tables, Prod.mk.injEq] at h
  obtain ⟨hcards, hrefers, hqueue, htrips, hrecords⟩ := h
  exact tablesOk_of_sublists hs (hcards ▸ List.Sublist.refl _) (hrefers ▸ List.Sublist.refl _)
    (hqueue ▸ List.Sublist.refl _) (htrips ▸ List.Sublist.refl _) (hrecords ▸ List.Sublist.refl _)

section

variable {s : State} (hs : s.tablesOk)
include hs

/-! ### Entries that change and keep their keys -/

theorem tablesOk_mapCards {g : CardEntry → CardEntry} (hg : ∀ x, (g x).slot = x.slot ∧ (g x).card = x.card) :
    ({ s with cards := s.cards.map g } : State).tablesOk := by
  obtain ⟨⟨hcards, hrefers⟩, hrest⟩ := hs
  refine ⟨⟨hcards.map g fun a b hab => ?_, hrefers⟩, hrest⟩
  rwa [(hg a).1, (hg b).1, (hg a).2, (hg b).2]

theorem tablesOk_mapRefers {g : ReferSlot → ReferSlot} (hg : ∀ x, (g x).card = x.card) :
    ({ s with refers := s.refers.map g } : State).tablesOk := by
  obtain ⟨⟨hcards, hlen, hrefers⟩, hrest⟩ := hs
  refine ⟨⟨hcards, by rwa [List.length_map], hrefers.map g fun a b hab => ?_⟩, hrest⟩
  rwa [hg, hg]

theorem tablesOk_mapTrips {g : TripRecord → TripRecord} (hg : ∀ x, (g x).bike = x.bike) :
    ({ s with trips := s.trips.map g } : State).tablesOk := by
  obtain ⟨hcards, hhire, ⟨hlen, htrips⟩, hfaults⟩ := hs
  refine ⟨hcards, hhire, ⟨by rwa [List.length_map], htrips.map g fun a b hab => ?_⟩, hfaults⟩
  rwa [hg, hg]

theorem tablesOk_mapRecords {g : FaultRecord → FaultRecord}
    (hg : ∀ x, (g x).slot = x.slot ∧ (g x).subject = x.subject ∧ (g x).kind = x.kind) :
    ({ s with faults := { s.faults with records := s.faults.records.map g } } : State).tablesOk := by
  obtain ⟨hcards, hhire, htrips, hfaults⟩ := hs
  refine ⟨hcards, hhire, htrips, hfaults.map g fun a b hab => ?_⟩
  obtain ⟨ha, hb⟩ := And.intro (hg a) (hg b)
  rwa [ha.1, ha.2.1, ha.2.2, hb.1, hb.2.1, hb.2.2]

/-! ### New entries -/

theorem addCard_tablesOk (e : CardEntry) : (s.addCard e).tablesOk := by
  rcases addCard_cases e s with h | ⟨i, hi, hnew, h⟩ <;> rw [h]
  · exact hs
  · obtain ⟨⟨hcards, hrefers⟩, hrest⟩ := hs
    exact ⟨⟨insertCard_ok _ _ hcards (freeCardSlot_lowest hi).1 (findCard_eq_none_iff.1 hnew), hrefers⟩, hrest⟩

theorem addRefer_tablesOk (r : ReferSlot) : (s.addRefer r).tablesOk := by
  unfold State.addRefer
  split
  next h =>
    obtain ⟨⟨hcards, -, hrefers⟩, hrest⟩ := hs
    have hnew : ∀ x ∈ s.refers, x.card ≠ r.card := by simpa [State.findRefer] using h.2
    refine ⟨⟨hcards, by simpa using h.1, ?_⟩, hrest⟩
    exact List.pairwise_append.2 ⟨hrefers, List.pairwise_singleton _ _, by simpa using hnew⟩
  next => exact hs

theorem joinHire_tablesOk (r : HireRequest) : (s.joinHire r).tablesOk := by
  unfold State.joinHire
  split
  next h =>
    obtain ⟨hcards, ⟨-, hqueue⟩, hrest⟩ := hs
    have hnew : ∀ x ∈ s.hire.queue, x.dock ≠ r.dock := by simpa using h.2
    refine ⟨hcards, ⟨by simpa using h.1, ?_⟩, hrest⟩
    exact List.pairwise_append.2 ⟨hqueue, List.pairwise_singleton _ _, by simpa using hnew⟩
  next => exact hs

theorem addTrip_tablesOk (r : TripRecord) : (s.addTrip r).tablesOk := by
  unfold State.addTrip
  split
  next h =>
    obtain ⟨hcards, hhire, ⟨-, htrips⟩, hfaults⟩ := hs
    have hnew : ∀ x ∈ s.trips, x.bike ≠ r.bike := by simpa [State.findTrip] using h.2
    refine ⟨hcards, hhire, ⟨?_, insertTrip_ok r _ htrips hnew⟩, hfaults⟩
    have hlen : (insertTrip r s.trips).length ≤ 64 := by rw [length_insertTrip]; omega
    exact hlen
  next => exact hs

theorem addFault_tablesOk (r : FaultRecord) : (s.addFault r).tablesOk := by
  cases hi : s.freeFaultSlot with
  | none => simpa only [State.addFault, hi] using hs
  | some i =>
    cases hkey : s.findFault r.subject r.kind with
    | some x => simpa only [State.addFault, hi, hkey, Option.isSome_some, if_true] using hs
    | none =>
      rw [addFault_eq hi hkey]
      obtain ⟨hcards, hhire, htrips, hfaults⟩ := hs
      exact ⟨hcards, hhire, htrips,
        insertFault_ok _ _ hfaults (freeFaultSlot_free hi) (findFault_eq_none_iff.1 hkey)⟩

end

/-! ### Every step -/

theorem tablesOk_reset : State.reset.tablesOk :=
  ⟨⟨.nil, by decide, .nil⟩, ⟨by decide, .nil⟩, ⟨by decide, .nil⟩, .nil⟩

/-- The updates of the five tables keep the invariant: new entries are let in only with a new key and with room,
changed ones keep their keys, and the rest leaves the tables alone or takes entries out. -/
theorem tablesOk_closed : StepClosed State.tablesOk where
  lampDock _ _ _ _ := tablesOk_of_tables rfl
  show_ _ _ _ := tablesOk_of_tables (by simp [State.tables])
  takeNext _ := tablesOk_of_tables (by simp [State.tables])
  enqueue _ _ := tablesOk_of_tables (by simp [State.tables])
  buttonMask _ _ _ := tablesOk_of_tables rfl
  setCard _ _ _ hs := tablesOk_mapCards hs fun _ => by split <;> exact ⟨rfl, rfl⟩
  mapCards _ _ hs := tablesOk_mapCards hs fun _ => ⟨rfl, rfl⟩
  addCard e _ hs := addCard_tablesOk hs e
  dropCard _ _ hs := tablesOk_of_sublists hs List.filter_sublist (.refl _) (.refl _) (.refl _) (.refl _)
  addRefer r _ hs := addRefer_tablesOk hs r
  setRefer _ _ _ hs := tablesOk_mapRefers hs fun _ => by split <;> rfl
  dropRefer _ _ hs := tablesOk_of_sublists hs (.refl _) List.filter_sublist (.refl _) (.refl _) (.refl _)
  setTerminal _ _ := tablesOk_of_tables rfl
  joinHire r _ hs := joinHire_tablesOk hs r
  filterHire _ _ hs := tablesOk_of_sublists hs (.refl _) (.refl _) List.filter_sublist (.refl _) (.refl _)
  popHire _ hs := tablesOk_of_sublists hs (.refl _) (.refl _) (List.drop_sublist 1 _) (.refl _) (.refl _)
  setToken _ _ _ := tablesOk_of_tables rfl
  setRelease _ _ _ := tablesOk_of_tables rfl
  setCancel _ _ _ := tablesOk_of_tables rfl
  noteTrips _ := tablesOk_of_tables rfl
  noteManifest _ := tablesOk_of_tables rfl
  noteFollowOn _ := tablesOk_of_tables rfl
  popFailure _ := tablesOk_of_tables rfl
  clearTrips _ := tablesOk_of_tables rfl
  clearManifest _ := tablesOk_of_tables rfl
  clearFollowOn _ := tablesOk_of_tables rfl
  clearAgenda _ := tablesOk_of_tables rfl
  addTrip r _ hs := addTrip_tablesOk hs r
  setTrip _ _ _ hs := tablesOk_mapTrips hs fun _ => by split <;> rfl
  filterTrips _ _ hs := tablesOk_of_sublists hs (.refl _) (.refl _) (.refl _) List.filter_sublist (.refl _)
  setDeferral _ _ _ := tablesOk_of_tables rfl
  addFault r _ hs := addFault_tablesOk hs r
  setFault _ _ _ hs := tablesOk_mapRecords hs fun _ => by split <;> exact ⟨rfl, rfl, rfl⟩
  filterFaults _ _ hs := tablesOk_of_sublists hs (.refl _) (.refl _) (.refl _) (.refl _) List.filter_sublist
  setFaultFull _ _ := tablesOk_of_tables rfl
  setFaultDock _ _ _ := tablesOk_of_tables rfl
  mapFaultDocks _ _ := tablesOk_of_tables rfl
  setManifest _ _ := tablesOk_of_tables rfl
  setDock _ _ _ := tablesOk_of_tables rfl
  mapDocks _ _ := tablesOk_of_tables rfl
  setLink _ _ _ := tablesOk_of_tables rfl
  setCall _ _ := tablesOk_of_tables rfl
  setSent _ _ := tablesOk_of_tables rfl
  setSplit _ _ _ := tablesOk_of_tables rfl
  setRound _ _ _ := tablesOk_of_tables rfl
  freeString _ := tablesOk_of_tables (by simp [State.tables])
  testActivation _ := tablesOk_of_tables (by simp [State.tables])
  setStaged _ _ _ := tablesOk_of_tables rfl
  setActivation _ _ := tablesOk_of_tables rfl
  setItem _ _ _ _ _ := tablesOk_of_tables rfl
  setClock _ _ := tablesOk_of_tables rfl
  endInstant _ hs := tablesOk_mapRefers hs fun _ => rfl
  setSupply _ _ := tablesOk_of_tables rfl
  setHold _ _ := tablesOk_of_tables rfl
  reinitString _ := tablesOk_of_tables rfl
  mapTrips _ _ hs := tablesOk_mapTrips hs fun _ => rfl
  clearHire _ hs := tablesOk_of_sublists hs (.refl _) (.refl _) (List.nil_sublist _) (.refl _) (.refl _)
  clearRefers _ hs := tablesOk_of_sublists hs (.refl _) (List.nil_sublist _) (.refl _) (.refl _) (.refl _)
  clearDeferrals _ := tablesOk_of_tables rfl
  setPort _ _ := tablesOk_of_tables rfl
  reset _ := tablesOk_of_tables (s := State.reset) rfl tablesOk_reset

/-- A millisecond leaves the refer slots their cards (R55). -/
theorem countDown_tablesOk (s : State) (hs : s.tablesOk) : (countDown s).tablesOk :=
  tablesOk_of_tables (s := { s with refers := s.refers.map ReferSlot.countDown }) rfl
    (tablesOk_mapRefers hs fun _ => rfl)

theorem countPeriod_tables (s : State) : (countPeriod s).tables = s.tables := by
  unfold countPeriod
  split <;> rfl

/-- Settles O56: the invariant is kept by every update of a table (`tablesOk_closed`), so by every command, and by
a period of the reference clock, which changes of the tables only the countdowns of the refer slots. -/
theorem stepKeepsTables : Obligations.StepKeepsTables := by
  unfold Obligations.StepKeepsTables
  exact closed_step tablesOk_closed (fun _ _ => tablesOk_of_tables rfl)
    (fun _ hs => tablesOk_mapRefers hs fun _ => rfl) countDown_tablesOk
    (fun s => tablesOk_of_tables (countPeriod_tables s))

end Sys2Proof.Machine
end

section
/-! PROOFS. Commands on the card table: their arguments, FIND_CARD and SCAN_CARDS with the card entry image, LOAD_CARD
and RETIRE_CARD (R50 to R53, sections 12.4 and 12.5). -/

namespace Sys2Proof.Machine

open Sys2Proof

/-! ### Card numbers as arguments (R196, section 12.4) -/

theorem beNat_lt (l : List Byte) : beNat l < 256 ^ l.length := by
  induction l with
  | nil => simp [beNat]
  | cons b l ih =>
    rw [beNat_cons, List.length_cons, pow_succ]
    have hb : b.toNat ≤ 255 := by have := b.isLt; omega
    nlinarith

theorem field_lt (l : List Byte) (i n : Nat) : field l i n < 256 ^ n :=
  (beNat_lt _).trans_le (Nat.pow_le_pow_right (by decide) (List.length_take_le n _))

theorem cardArg_toNat (a : List Byte) : (cardArg a).toNat = field a 0 5 := by
  rw [cardArg, BitVec.toNat_ofNat, Nat.mod_eq_of_lt (show field a 0 5 < 2 ^ 40 from field_lt a 0 5)]

theorem cardArg_append (c : CardNo) (l : List Byte) : cardArg (beBytes 5 c.toNat ++ l) = c :=
  BitVec.eq_of_toNat_eq (by rw [cardArg_toNat, field_first 5 _ _ c.isLt])

theorem cardArg_beBytes (c : CardNo) : cardArg (beBytes 5 c.toNat) = c := by
  simpa using cardArg_append c []

/-! ### FIND_CARD and SCAN_CARDS (R52, R53) -/

section

variable {s : State} {e : CardEntry}

theorem exec_findCard_found {args : List Byte} (hlen : args.length = 5) (h : s.findCard (cardArg args) = some e) :
    exec (.findCard args) s = .next (s.readAnswered 5 { code := .ok, data := cardImage e s }) :=
  (exec_findCard args s).trans
    (pureRead_taken 5 args _ s _ hlen (by rw [show (s.asking 5).findCard _ = _ from h]; rfl))

theorem exec_findCard_missing {args : List Byte} (hlen : args.length = 5) (h : s.findCard (cardArg args) = none) :
    exec (.findCard args) s = .next (s.readAnswered 5 { code := .notFound, data := [] }) :=
  (exec_findCard args s).trans
    (pureRead_taken 5 args _ s _ hlen (by rw [show (s.asking 5).findCard _ = _ from h]; rfl))

theorem exec_scanCards_found {i : Byte} (h : s.scanFrom i.toNat = some e) :
    exec (.scanCards [i]) s = .next (s.readAnswered 1 { code := .ok, data := cardImage e s }) :=
  (exec_scanCards [i] s).trans
    (pureRead_taken 1 [i] _ s _ rfl (by rw [field_zero, show (s.asking 1).scanFrom _ = _ from h]; rfl))

theorem exec_scanCards_missing {i : Byte} (h : s.scanFrom i.toNat = none) :
    exec (.scanCards [i]) s = .next (s.readAnswered 1 { code := .notFound, data := [] }) :=
  (exec_scanCards [i] s).trans
    (pureRead_taken 1 [i] _ s _ rfl (by rw [field_zero, show (s.asking 1).scanFrom _ = _ from h]; rfl))

/-- In a table ordered by slot the first entry at or above an index is the one of the lowest slot (R53). -/
theorem scanFrom_lowest (hs : s.cardsOk) {i : Nat} (he : e ∈ s.cards) (hi : i ≤ e.slot.val)
    (hlow : ∀ x ∈ s.cards, i ≤ x.slot.val → e.slot.val ≤ x.slot.val) : s.scanFrom i = some e := by
  cases hfind : s.scanFrom i with
  | none => exact absurd hi (by simpa using List.find?_eq_none.1 hfind e he)
  | some x =>
    obtain ⟨hx, pre, post, hl, hpre⟩ := List.find?_eq_some_iff_append.1 hfind
    have horder : (pre ++ x :: post).Pairwise (fun a b => a.slot.val < b.slot.val) := hl ▸ hs.1.imp fun h => h.1
    have hle : e.slot.val ≤ x.slot.val := hlow x (hl ▸ List.mem_append_right _ List.mem_cons_self) (by simpa using hx)
    rw [hl, List.mem_append, List.mem_cons] at he
    rcases he with he | rfl | he
    · exact absurd hi (by simpa using hpre e he)
    · rfl
    · have hlt := (List.pairwise_cons.1 (List.pairwise_append.1 horder).2.1).1 e he
      omega

theorem scanFrom_none {i : Nat} (h : ∀ x ∈ s.cards, x.slot.val < i) : s.scanFrom i = none := by
  simpa [State.scanFrom] using h

end

/-! ### The card entry image (section 12.5) -/

/-- The image in its parts: the fields that every entry has, then the four that can be absent. -/
theorem cardImage_parts (e : CardEntry) (s : State) : cardImage e s =
    ([byte e.slot.val] ++ beBytes 5 e.card.toNat ++
      [byte e.cls.code, byte e.plan.val, bits [e.blocked], byte e.activity.code,
        bits [e.validUntil.isSome, e.link.isSome, e.queuedDock.isSome, e.guest.isSome,
          (s.findRefer e.card).isSome]]) ++
    optTime e.validUntil ++ (optBike (e.link.map Prod.fst) ++ optTime (e.link.map Prod.snd)) ++
    [optDock e.queuedDock] ++
    (beBytes 2 (guestHold e) ++ beBytes 2 (guestCaptured e) ++ beBytes 2 (guestSale e)) := by
  simp only [cardImage, List.append_assoc]

/-- A byte of five flags, the first of weight 1. -/
theorem bits_five (a b c d e : Bool) : bits [a, b, c, d, e] =
    byte ((if a then 1 else 0) + (if b then 2 else 0) + (if c then 4 else 0) + (if d then 8 else 0) +
      (if e then 16 else 0)) := by
  simp only [bits, bitsValue, Nat.mul_add, mul_ite, Nat.mul_zero, Nat.add_assoc, Nat.add_zero, Nat.reduceMul]

theorem findRefer_isSome_iff (s : State) (c : CardNo) :
    (s.findRefer c).isSome = true ↔ ∃ r ∈ s.refers, r.card = c := by
  simp [State.findRefer]

/-- Settles O11: FIND_CARD and SCAN_CARDS are reads that answer from the table (`scanFrom_lowest`), and the image is
that of section 12.5, part by part. -/
theorem cardsFoundAndScanned : Obligations.CardsFoundAndScanned := by
  unfold Obligations.CardsFoundAndScanned
  refine ⟨⟨fun s e hs he => ?_, fun s args hlen hnone => ?_, fun s e i hs he hi hlow => ?_, fun s i hnone => ?_,
    fun s e => rfl⟩, fun s e => ?_⟩
  · exact exec_findCard_found (beBytes_length 5 _)
      ((findCard_eq_some_iff hs).2 ⟨he, (cardArg_beBytes e.card).symm⟩)
  · exact exec_findCard_missing hlen
      (findCard_eq_none_iff.2 fun x hx hcard => hnone x hx (by rw [hcard, cardArg_toNat]))
  · exact exec_scanCards_found (scanFrom_lowest hs he hi hlow)
  · exact exec_scanCards_missing (scanFrom_none hnone)
  · rw [cardImage_parts]
    refine congrArg₂ _ (congrArg₂ _ (congrArg₂ _ (congrArg₂ _ (congrArg _ ?fixed) ?valid) ?link) ?dock) ?guest
    case fixed =>
      simp only [List.cons.injEq, and_true, true_and]
      refine ⟨by cases e.cls <;> rfl, by cases e.blocked <;> rfl, by cases e.activity <;> rfl, ?_⟩
      simp only [bits_five, findRefer_isSome_iff]
    case valid => cases e.validUntil <;> rfl
    case link => cases e.link <;> rfl
    case dock => cases e.queuedDock <;> rfl
    case guest =>
      unfold guestHold guestCaptured guestSale
      cases e.guest <;> rfl

/-! ### The checks of a card record (R50, section 12.4) -/

/-- The fields of the 13 argument bytes. -/
theorem cardRecord_fields (card : CardNo) (cls plan standing flag : Byte) (v : Time) :
    let bs := beBytes 5 card.toNat ++ [cls, plan, standing, flag] ++ beBytes 4 v.toNat
    field bs 0 5 = card.toNat ∧ field bs 5 1 = cls.toNat ∧ field bs 6 1 = plan.toNat ∧
    field bs 7 1 = standing.toNat ∧ field bs 8 1 = flag.toNat ∧ field bs 9 4 = v.toNat := by
  intro bs
  have hbs : bs = beBytes 5 card.toNat ++ (cls :: plan :: standing :: flag :: beBytes 4 v.toNat) :=
    List.append_assoc _ _ _
  have hrest : ∀ i n, field bs (5 + i) n =
      field (cls :: plan :: standing :: flag :: beBytes 4 v.toNat) i n := fun i n => by
    rw [hbs, field_beyond _ _ _ _ _ (by omega), Nat.add_sub_cancel_left]
  refine ⟨by rw [hbs, field_first 5 _ _ card.isLt], ?_, ?_, ?_, ?_, ?_⟩
  · simpa using hrest 0 1
  · simpa using hrest 1 1
  · simpa using hrest 2 1
  · simpa using hrest 3 1
  · simpa [field_beBytes 4 _ v.isLt] using hrest 4 4

theorem readCardRecord_bytes (card : CardNo) (cls plan standing flag : Byte) (v : Time) :
    readCardRecord (beBytes 5 card.toNat ++ [cls, plan, standing, flag] ++ beBytes 4 v.toNat) =
      if card = 0 ∨ (cls ≠ 0 ∧ cls ≠ 2) ∨ 7 < plan.toNat ∨ 1 < standing.toNat ∨ 1 < flag.toNat then none
      else some
        { card := card, cls := if cls = 0 then .member else .crew, plan := Fin.ofNat 8 plan.toNat,
          blocked := decide (standing = 1), validUntil := if flag = 1 then some v else none } := by
  obtain ⟨hcard, hcls, hplan, hstanding, hflag, hv⟩ := cardRecord_fields card cls plan standing flag v
  simp only [readCardRecord, hcard, hcls, hplan, hstanding, hflag, hv, BitVec.toNat_eq, BitVec.ofNat_toNat,
    BitVec.setWidth_eq, ne_eq]
  rfl

/-- A record that passed the checks is a MEMBER's or a CREW's. -/
theorem readCardRecord_cls {bs : List Byte} {r : CardRecord} (h : readCardRecord bs = some r) :
    r.cls = .member ∨ r.cls = .crew := by
  simp only [readCardRecord] at h
  split at h
  · cases h
  · cases h
    dsimp only
    split
    · exact .inl rfl
    · exact .inr rfl

/-! ### Loading a record (R50) -/

/-- A held entry that takes a record's class, plan, standing and valid_until. -/
def CardRecord.load (r : CardRecord) (e : CardEntry) : CardEntry :=
  { e with cls := r.cls, plan := r.plan, blocked := r.blocked, validUntil := r.validUntil }

/-- The new entry of a record, IDLE. -/
def CardRecord.entry (r : CardRecord) (i : Fin 256) : CardEntry :=
  { slot := i, card := r.card, cls := r.cls, plan := r.plan, blocked := r.blocked, activity := .idle,
    validUntil := r.validUntil, link := none, queuedDock := none, guest := none }

theorem find_insertCard {p : CardEntry → Bool} {e : CardEntry} (he : p e = true) {l : List CardEntry}
    (hl : ∀ x ∈ l, p x = false) : (insertCard e l).find? p = some e := by
  induction l with
  | nil => simp [insertCard, he]
  | cons x l ih =>
    unfold insertCard
    split
    · simp [he]
    · rw [List.find?_cons_of_neg (by simp [hl x List.mem_cons_self])]
      exact ih fun y hy => hl y (List.mem_cons_of_mem _ hy)

section

variable {s : State} {r : CardRecord} {e : CardEntry} {c : CardNo}

theorem findCard_setCard (c : CardNo) (f : CardEntry → CardEntry) (s : State) : (s.setCard c f).findCard c =
    (s.findCard c).map (fun e => { f e with slot := e.slot, card := e.card }) := by
  unfold State.findCard State.setCard
  induction s.cards with
  | nil => rfl
  | cons x l ih => by_cases h : x.card = c <;> simp_all

/-- With no card held twice only the entry found changes. -/
theorem setCard_found (hs : s.cardsOk) (he : s.findCard c = some e) (f : CardEntry → CardEntry) : s.setCard c f =
    { s with cards := s.cards.map (fun x => if x = e then { f e with slot := e.slot, card := e.card } else x) } := by
  obtain ⟨hmem, rfl⟩ := mem_of_findCard he
  unfold State.setCard
  rw [List.map_congr_left fun x hx => ?_]
  by_cases hcard : x.card = e.card
  · rw [card_eq_of_card hs hx hmem hcard, if_pos rfl, if_pos rfl]
  · rw [if_neg hcard, if_neg fun h => hcard (congrArg CardEntry.card h)]

theorem loadRecord_guest (he : s.findCard r.card = some e) (hcls : e.cls = .guest) :
    loadRecord r s = (.state, s) := by
  simp only [loadRecord, he, hcls, if_true]

theorem loadRecord_held (he : s.findCard r.card = some e) (hcls : e.cls ≠ .guest) :
    loadRecord r s = (.ok, s.setCard r.card r.load) := by
  simp only [loadRecord, he, hcls, if_false]
  rfl

theorem loadRecord_full (hnew : s.findCard r.card = none) (hfull : s.freeCardSlot = none) :
    loadRecord r s = (.full, s) := by
  simp only [loadRecord, hnew, hfull, Option.isSome_none, Bool.false_eq_true, if_false]

theorem loadRecord_new {i : Fin 256} (hnew : s.findCard r.card = none) (hi : s.freeCardSlot = some i) :
    loadRecord r s = (.ok, { s with cards := insertCard (r.entry i) s.cards }) := by
  simp only [loadRecord, hnew, hi, Option.isSome_some, if_true]
  rw [addCard_eq hi hnew]
  rfl

/-- The entry of a card that was held and is no GUEST, after the load. -/
theorem loaded_held (he : s.findCard r.card = some e) (hcls : e.cls ≠ .guest) :
    (loadRecord r s).2.findCard r.card = some (r.load e) := by
  rw [loadRecord_held he hcls, findCard_setCard, he]
  rfl

/-- The entry of a new card, after the load. -/
theorem loaded_new {i : Fin 256} (hnew : s.findCard r.card = none) (hi : s.freeCardSlot = some i) :
    (loadRecord r s).2.findCard r.card = some (r.entry i) := by
  rw [loadRecord_new hnew hi]
  exact find_insertCard (by simp [CardRecord.entry]) fun x hx => by simpa using findCard_eq_none_iff.1 hnew x hx

theorem slotOf_found (he : s.findCard c = some e) : s.slotOf c = e.slot.val := by
  simp only [State.slotOf, he]

/-! ### LOAD_CARD (R50) -/

section

variable {a : List Byte}

/-- LOAD_CARD as a change command of 13 argument bytes. -/
theorem changes_loadCard {x : Result} {u : State} (hlen : a.length = 13) (hb : s.busy = false)
    (h : loadCard a (s.taking 13) = (x, { u with port := (s.taking 13).port })) :
    changes (.loadCard a) 13 x u s :=
  changes_of _ 13 a loadCard s u x (exec_loadCard a s) hb hlen h

theorem loadCard_refused (h : readCardRecord a = none) (s : State) : loadCard a s = (.plain .badArg, s) := by
  simp only [loadCard, h, refuse]

theorem loadCard_stops (h : readCardRecord a = some r) {x : ResultCode} (hx : x ≠ .ok)
    (hload : loadRecord r s = (x, s)) : loadCard a s = (.plain x, s) := by
  simp only [loadCard, h, hload, hx, if_false]

theorem loadCard_loads (h : readCardRecord a = some r) {t : State} (hload : loadRecord r s = (.ok, t))
    (he : t.findCard r.card = some e) : loadCard a s = (.ok [byte e.slot.val], t) := by
  simp only [loadCard, h, hload, slotOf_found he, if_true]

end

/-! ### RETIRE_CARD (R51) -/

theorem retireCard_missing (h : s.findCard c = none) : retireCard c s = (.plain .notFound, s) := by
  simp only [retireCard, h, refuse]

theorem retireCard_held (he : s.findCard c = some e)
    (h : e.activity = .pending ∨ e.activity = .riding ∨ e.queuedDock.isSome = true) :
    retireCard c s = (.plain .state, s) := by
  have hkeep : ¬((e.activity = .idle ∨ e.activity = .settling) ∧ e.queuedDock = none) := by
    rintro ⟨hidle | hidle, hdock⟩ <;> simp [hidle, hdock] at h
  simp only [retireCard, he, if_neg hkeep, refuse]

theorem retireCard_removes (he : s.findCard c = some e) (hactivity : e.activity = .idle ∨ e.activity = .settling)
    (hdock : e.queuedDock = none) : retireCard c s = (.ok [], s.dropCard c) := by
  simp only [retireCard, he, if_pos (And.intro hactivity hdock)]

/-- RETIRE_CARD as a change command of 5 argument bytes. -/
theorem changes_retireCard {u : State} {x : Result} (hb : s.busy = false)
    (h : retireCard c (s.taking 5) = (x, { u with port := (s.taking 5).port })) :
    changes (.retireCard (beBytes 5 c.toNat)) 5 x u s :=
  changes_of _ 5 _ _ s u x (exec_retireCard _ s) hb (beBytes_length 5 _) (by rw [cardArg_beBytes]; exact h)

end

/-- Settles O21: the cases of a load (`loadRecord_guest` to `loadRecord_new`) and of a removal, the checks on the 13
argument bytes, and the lowest free slot. -/
theorem cardsLoadedAndRetired : Obligations.CardsLoadedAndRetired := by
  unfold Obligations.CardsLoadedAndRetired
  refine ⟨⟨fun s args hlen hb => ?_, readCardRecord_bytes, fun s c hb => ⟨fun hnone => ?_, fun e he hheld => ?_,
    fun e he hactivity hdock => ?_⟩⟩, fun s => ⟨fun i => freeCardSlot_lowest, fun h => freeCardSlot_eq_none_iff.1 h⟩⟩
  · have hchanges {x : Result} {u : State} := changes_loadCard (x := x) (u := u) hlen hb
    refine ⟨fun hread => hchanges (loadCard_refused hread _), fun r hr => ⟨fun e he hcls => ?_,
      fun e hs he hcls => ?_, fun hnew hfull => ?_, fun i hnew hi => ?_⟩⟩
    · exact hchanges (loadCard_stops hr (by decide) (loadRecord_guest (s := s.taking 13) he hcls))
    · have hload := loadRecord_held (s := s.taking 13) he hcls
      have hfound := loaded_held (s := s.taking 13) he hcls
      rw [hload] at hfound
      refine hchanges ((loadCard_loads hr hload hfound).trans ?_)
      rw [setCard_found (s := s.taking 13) hs he]
      rfl
    · exact hchanges (loadCard_stops hr (by decide) (loadRecord_full (s := s.taking 13) hnew hfull))
    · have hload := loadRecord_new (s := s.taking 13) hnew hi
      have hfound := loaded_new (s := s.taking 13) hnew hi
      rw [hload] at hfound
      exact hchanges (loadCard_loads hr hload hfound)
  · exact changes_retireCard hb (retireCard_missing (s := s.taking 5) hnone)
  · exact changes_retireCard hb (retireCard_held (s := s.taking 5) he hheld)
  · exact changes_retireCard hb (retireCard_removes (s := s.taking 5) he hactivity hdock)

end Sys2Proof.Machine
end

section
/-! PROOFS. What a tap that hits can do: the work of a grant pass and of a crew's clearing, the refusals that it shows,
and the refer slots that it leaves (R54, R64, R66, R67, R70, R146, R163). -/

namespace Sys2Proof.Machine

open Sys2Proof

variable {P : State → Prop}

/-! ### The work of a hit, said once (R64 to R70, R146, R163) -/

/-- What a hit can do besides the Fault Table's and the Manifest Unit's work: a dock becomes RELEASING, a request joins
or leaves the release queue, and a grant writes tokens, contexts, the entry and the trip record. -/
structure HitClosed (P : State → Prop) : Prop extends ReportClosed P where
  masks : MasksButton P
  occupancy : ∀ (d : Dock) (o : Occupancy) (s : State), P s → P (s.setDock d (fun r => { r with occupancy := o }))
  setCard : ∀ (c : CardNo) (f : CardEntry → CardEntry) (s : State), P s → P (s.setCard c f)
  joinHire : ∀ (r : HireRequest) (s : State), P s → P (s.joinHire r)
  popHire : ∀ s : State, P s → P s.popHire
  setToken : ∀ (i : Fin 3) (x : Token) (s : State), P s → P (s.setToken i x)
  setRelease : ∀ (d : Dock) (x : Option ReleaseContext) (s : State), P s → P (s.setRelease d x)
  setCancel : ∀ (d : Dock) (x : Option CancelContext) (s : State), P s → P (s.setCancel d x)
  addTrip : ∀ (r : TripRecord) (s : State), P s → P (s.addTrip r)

section

variable (h : HitClosed P)
include h

theorem hit_startRelease {g : State → State} (hg : ∀ s, P s → P (g s)) (d : Dock) (x : ReleaseContext) (l : List Byte)
    (s : State) (hs : P s) : P (startRelease d x l g s) := by
  have hreleasing : ∀ s, P s → P (setOccupancy d .releasing (g s)) := fun s hs =>
    managed_tellOccupancy h.toManifestClosed d _ (closed_selectLamp h.toLampClosed d _ (h.occupancy d _ _ (hg s hs)))
  have hstamped : ∀ s, P s → P (placeDock d .stamp l (.hireUnit x.bike) (s.setRelease d (some x))) := fun s hs =>
    h.takeNext _ (h.enqueue _ _ (h.setRelease d _ s hs))
  unfold startRelease
  refine h.setCancel d none _ (hstamped _ (hreleasing _ ?_))
  split
  · exact h.setToken _ _ s hs
  · exact hs

theorem hit_cardLink (c : CardNo) (d : Dock) (b : Bike) (start : Time) (s : State) (hs : P s) :
    P (cardLink c d b start s) := by
  unfold cardLink
  repeat' split
  · exact h.setCard _ _ s hs
  · exact hs
  · exact hs

theorem hit_dropRequest (q : HireRequest) (code : Nat) (s : State) (hs : P s) : P (dropRequest q code s) := by
  unfold dropRequest
  split
  · exact closed_showRefusal h.toLampClosed _ _ _ (h.setCard _ _ s hs)
  · exact closed_showRefusal h.toLampClosed _ _ _ (managed_crewReport h.toManifestClosed _ _ _ _ _ s hs)

theorem hit_grantHead (q : HireRequest) (s : State) (hs : P s) : P (grantHead q s) := by
  unfold grantHead
  dsimp only
  repeat' split
  · exact hit_startRelease h (fun t ht => hit_cardLink h _ _ _ _ _ (h.addTrip _ t ht)) _ _ _ s hs
  · exact hs
  · exact hit_dropRequest h q _ s hs
  · exact hit_startRelease h (fun t ht => managed_crewReport h.toManifestClosed _ _ _ _ _ t ht) _ _ _ s hs
  · exact hs
  · exact hit_dropRequest h q _ s hs

theorem hit_grantLoop : ∀ (n : Nat) (s : State), P s → P (grantLoop n s)
  | 0, _, hs => hs
  | n + 1, s, hs => by
    unfold grantLoop
    repeat' split
    · exact hs
    · exact hit_grantLoop n _ (hit_grantHead h _ _ (h.popHire s hs))
    · exact hs

theorem hit_grantPass (s : State) (hs : P s) : P (grantPass s) := hit_grantLoop h _ s hs

theorem hit_decideTap (e : CardEntry) (d : Dock) (s : State) (hs : P s) : P (decideTap e d s).1 := by
  unfold decideTap
  dsimp only
  split
  · exact hit_grantPass h _ (h.setCard _ _ _ (h.joinHire _ s hs))
  · exact closed_showRefusal h.toLampClosed _ _ s hs

theorem hit_serviceClear (d : Dock) (s : State) (hs : P s) : P (serviceClear d s) := by
  unfold serviceClear
  split
  · exact h.noteManifest _ (reported_evalMark h.toReportClosed _ _ (h.setMark _ _ _ (fun _ => ⟨rfl, rfl⟩)
      (closed_foldl (fun s r hs => faulted_retireFault h.toFaultClosed (.inr h.masks) s hs) _ s hs)))
  · exact hs

theorem hit_crewRequest (d : Dock) (c : CardNo) (move : Nat) (s : State) (hs : P s) :
    P (crewRequest d c move s).1 := by
  unfold crewRequest
  repeat' split
  · exact closed_showRefusal h.toLampClosed _ _ s hs
  · exact closed_showRefusal h.toLampClosed _ _ s hs
  · exact hit_grantPass h _ (h.joinHire _ s hs)

theorem hit_crewTap (c : CardNo) (d : Dock) (s : State) (hs : P s) : P (crewTap c d s).1 := by
  have hrefused : P (showRefusal 7 d s) := closed_showRefusal h.toLampClosed _ _ s hs
  unfold crewTap
  repeat' split
  · exact hrefused
  · exact hrefused
  · exact hs
  · exact hit_crewRequest h _ _ _ s hs
  · exact hit_serviceClear h d s hs
  · exact hrefused

theorem hit_hitTap (e : CardEntry) (d : Dock) (s : State) (hs : P s) : P (hitTap e d s).1 := by
  unfold hitTap
  split
  · exact hit_decideTap h e d s hs
  · exact hit_decideTap h e d s hs
  · split
    · exact closed_showRefusal h.toLampClosed _ _ s hs
    · exact hit_crewTap h _ d s hs

end

/-- A hit opens, aims and retires no refer slot. -/
theorem refers_hit (l : List ReferSlot) : HitClosed (fun t => t.refers = l) where
  lampDock _ _ _ _ h := h
  show_ _ _ s h := (enqueue_refers s _).trans h
  takeNext s h := (takeNext_refers s).trans h
  setManifest _ _ _ h := h
  noteManifest _ h := h
  noteFollowOn _ h := h
  filterHire _ _ h := h
  addFault r s h := (addFault_refers s r).trans h
  setFault _ _ _ h := h
  filterFaults _ _ h := h
  setFaultFull _ _ h := h
  enqueue r s h := (enqueue_refers s r).trans h
  setMark _ _ _ _ h := h
  mapMarks _ _ _ h := h
  masks _ _ _ h := h
  occupancy _ _ _ h := h
  setCard _ _ _ h := h
  joinHire r s h := (joinHire_refers s r).trans h
  popHire _ h := h
  setToken _ _ _ h := h
  setRelease _ _ _ h := h
  setCancel _ _ _ h := h
  addTrip r s h := (addTrip_refers s r).trans h

theorem lastTap_of_known {a b : DockRecord} (h : a.known = b.known) : a.lastTap = b.lastTap :=
  show a.known.lastTap = b.known.lastTap from congrArg _ h

theorem lastTap_setDock {f : DockRecord → DockRecord} (hf : ∀ r, (f r).lastTap = r.lastTap) (c d : Dock) (s : State) :
    ((s.setDock c f).dock d).lastTap = (s.dock d).lastTap := by
  rw [setDock_dock]
  split
  · subst_vars; exact hf _
  · rfl

/-- A hit leaves every dock its last tap sequence. -/
theorem lastTap_hit (d : Dock) (q : Option Byte) : HitClosed (fun t => (t.dock d).lastTap = q) where
  lampDock c _ s hf h := (lastTap_setDock (fun r => lastTap_of_known (hf r)) c d s).trans h
  show_ _ _ s h := (lastTap_of_known (enqueue_known _ d s)).trans h
  takeNext s h := (congrArg DockRecord.lastTap (dock_of_docks (takeNext_docks s) d)).trans h
  setManifest _ _ _ h := h
  noteManifest _ h := h
  noteFollowOn _ h := h
  filterHire _ _ h := h
  addFault r s h := (congrArg DockRecord.lastTap (dock_of_docks (addFault_docks s r) d)).trans h
  setFault _ _ _ h := h
  filterFaults _ _ h := h
  setFaultFull _ _ h := h
  enqueue r s h := (lastTap_of_known (enqueue_known r d s)).trans h
  setMark _ _ _ _ h := h
  mapMarks _ _ _ h := h
  masks _ _ _ h := h
  occupancy c _ s h := (lastTap_setDock (by exact fun _ => rfl) c d s).trans h
  setCard _ _ _ h := h
  joinHire r s h := (congrArg DockRecord.lastTap (dock_of_docks (joinHire_docks s r) d)).trans h
  popHire _ h := h
  setToken _ _ _ h := h
  setRelease _ _ _ h := h
  setCancel _ _ _ h := h
  addTrip r s h := (congrArg DockRecord.lastTap (dock_of_docks (addTrip_docks s r) d)).trans h

/-! ### The refusal that a hit shows (R54, R64, R163) -/

/-- A decision refused at a dock shows its code there; 0 stands for none shown. -/
def refusedAt (d : Dock) (s : State) (x : State × Nat) : Prop :=
  x.2 = 0 ∨ (x.1 = showRefusal x.2 d s ∧ x.2 ≤ 7)

section

variable {e : CardEntry} {d : Dock} {s : State}

theorem refusedAt_shown {n : Nat} (h : n ≤ 7) : refusedAt d s (showRefusal n d s, n) := .inr ⟨rfl, h⟩

theorem tapCode_le (e : CardEntry) (d : Dock) (s : State) : tapCode e d s ≤ 7 := by
  unfold tapCode
  repeat' split
  all_goals omega

theorem decideTap_queued (h : tapCode e d s = 0) : decideTap e d s =
    (grantPass (cardWaiting e.card d (s.joinHire { dock := d, kind := .member, card := e.card })), 0) := by
  simp only [decideTap, h, if_true]

theorem decideTap_refused (h : tapCode e d s ≠ 0) :
    decideTap e d s = (showRefusal (tapCode e d s) d s, tapCode e d s) := by
  simp only [decideTap, h, if_false]

theorem decideTap_code (e : CardEntry) (d : Dock) (s : State) : (decideTap e d s).2 = tapCode e d s := by
  by_cases h : tapCode e d s = 0
  · rw [decideTap_queued h, h]
  · rw [decideTap_refused h]

theorem decideTap_refusedAt (e : CardEntry) (d : Dock) (s : State) : refusedAt d s (decideTap e d s) := by
  by_cases h : tapCode e d s = 0
  · exact .inl ((decideTap_code e d s).trans h)
  · rw [decideTap_refused h]
    exact refusedAt_shown (tapCode_le e d s)

theorem crewRequest_refusedAt (d : Dock) (c : CardNo) (move : Nat) (s : State) :
    refusedAt d s (crewRequest d c move s) := by
  unfold crewRequest
  repeat' split
  · exact refusedAt_shown (by decide)
  · exact refusedAt_shown (by decide)
  · exact .inl rfl

theorem crewTap_refusedAt (c : CardNo) (d : Dock) (s : State) : refusedAt d s (crewTap c d s) := by
  have hrefused : refusedAt d s (showRefusal 7 d s, 7) := refusedAt_shown (by decide)
  unfold crewTap
  repeat' split
  · exact hrefused
  · exact hrefused
  · exact .inl rfl
  · exact crewRequest_refusedAt _ _ _ s
  · exact .inl rfl
  · exact hrefused

theorem hitTap_rider (h : e.cls ≠ .crew) : hitTap e d s = decideTap e d s := by
  cases hcls : e.cls with
  | member | guest => simp only [hitTap, hcls]
  | crew => exact absurd hcls h

theorem hitTap_crew_refused (h : e.cls = .crew) (hbar : e.blocked = true ∨ s.passed e = true) :
    hitTap e d s = (showRefusal 1 d s, 1) := by
  simp only [hitTap, h, if_pos hbar]

theorem hitTap_crew (h : e.cls = .crew) (hblocked : e.blocked = false) (hpassed : s.passed e = false) :
    hitTap e d s = crewTap e.card d s := by
  simp [hitTap, h, hblocked, hpassed]

theorem hitTap_refusedAt (e : CardEntry) (d : Dock) (s : State) : refusedAt d s (hitTap e d s) := by
  by_cases hcls : e.cls = .crew
  · by_cases hbar : e.blocked = true ∨ s.passed e = true
    · rw [hitTap_crew_refused hcls hbar]
      exact refusedAt_shown (by decide)
    · obtain ⟨hblocked, hpassed⟩ := not_or.1 hbar
      rw [hitTap_crew hcls (by simpa using hblocked) (by simpa using hpassed)]
      exact crewTap_refusedAt _ d s
  · rw [hitTap_rider hcls]
    exact decideTap_refusedAt e d s

theorem showRefusal_flash (n : Nat) (d : Dock) (s : State) :
    ((showRefusal n d s).dock d).flash = some { code := n, remaining := 3000 } := by
  rw [showRefusal, (selectLamp_relights d _).own, setDock_dock, if_pos rfl]

theorem refusedAt_le {x : State × Nat} (h : refusedAt d s x) : x.2 ≤ 7 := by
  rcases h with h | ⟨-, h⟩
  · omega
  · exact h

theorem refusedAt_flash {x : State × Nat} (h : refusedAt d s x) (hx : 1 ≤ x.2) :
    (x.1.dock d).flash = some { code := x.2, remaining := 3000 } := by
  rcases h with h | ⟨h, -⟩
  · omega
  · rw [h, showRefusal_flash]

end

end Sys2Proof.Machine
end

section
/-! PROOFS. Refer slots: a tap held, aimed again and retired, with the refusal that goes with it; ADMIT_CARD,
REFUSE_CARD and REFER_TIMEOUT (R54 to R60). -/

namespace Sys2Proof.Machine

open Sys2Proof

section

variable {s : State} {c : CardNo} {d : Dock}

/-! ### Retiring a slot (R55) -/

theorem selectLamp_refers (d : Dock) (s : State) : (selectLamp d s).refers = s.refers := by
  rw [(selectLamp_relights d s).frame]

theorem selectLamp_cards (d : Dock) (s : State) : (selectLamp d s).cards = s.cards := by
  rw [(selectLamp_relights d s).frame]

theorem selectLamp_agenda (d : Dock) (s : State) : (selectLamp d s).agenda = s.agenda := by
  rw [(selectLamp_relights d s).frame]

theorem retireRefer_held {r : ReferSlot} (h : s.findRefer c = some r) :
    retireRefer c s = selectLamp r.dock (s.dropRefer c) := by
  simp only [retireRefer, h]

theorem retireRefer_none (h : s.findRefer c = none) : retireRefer c s = s := by
  simp only [retireRefer, h]

theorem findRefer_eq_none_iff : s.findRefer c = none ↔ ∀ r ∈ s.refers, r.card ≠ c := by
  simp [State.findRefer]

theorem retireRefer_refers (c : CardNo) (s : State) :
    (retireRefer c s).refers = s.refers.filter (fun r => decide (r.card ≠ c)) := by
  cases h : s.findRefer c with
  | some r => rw [retireRefer_held h, selectLamp_refers, dropRefer_refers]
  | none =>
    rw [retireRefer_none h, List.filter_eq_self.2]
    simpa using findRefer_eq_none_iff.1 h

theorem retireRefer_cards (c : CardNo) (s : State) : (retireRefer c s).cards = s.cards := by
  cases h : s.findRefer c with
  | some r => rw [retireRefer_held h, selectLamp_cards, dropRefer_cards]
  | none => rw [retireRefer_none h]

/-- A hit that has retired the card's slot leaves none of the card. -/
theorem hitTap_no_refer (e : CardEntry) (d : Dock) (c : CardNo) (s : State) :
    (hitTap e d (retireRefer c s)).1.findRefer c = none := by
  have hrefers := hit_hitTap (refers_hit _) e d (retireRefer c s) (retireRefer_refers c s)
  rw [findRefer_eq_none_iff, hrefers]
  simp

/-- A slot is retired with a refusal shown at its dock (R58 to R60). -/
theorem referRefused_of_held {r : ReferSlot} (h : s.findRefer c = some r) (n : Nat) :
    referRefused n c r.dock (showRefusal n r.dock (retireRefer c s)) s := by
  have hretired : Relights r.dock (s.dropRefer c) (retireRefer c s) := by
    rw [retireRefer_held h]; exact selectLamp_relights _ _
  have hshown := selectLamp_relights r.dock
    ((retireRefer c s).setDock r.dock (fun x => { x with flash := some { code := n, remaining := 3000 } }))
  have hlamp : ((showRefusal n r.dock (retireRefer c s)).dock r.dock).lamp = .redFlash n :=
    (selectLamp_lamp r.dock _).trans (lampFor_flash (f := { code := n, remaining := 3000 })
      (by rw [setDock_dock, if_pos rfl]))
  refine ⟨?_, ?_, fun e he => ?_, ?_⟩
  · rw [showRefusal, selectLamp_refers, setDock_refers, retireRefer_refers]
  · rw [← hlamp, showRefusal]
    conv_lhs => rw [hshown.own]
    rw [setDock_dock, if_pos rfl, hretired.own]
    rfl
  · rw [showRefusal, hshown.other e he, setDock_dock, if_neg (Ne.symm he), hretired.other e he]
    rfl
  · have hselects : (s.dropRefer c).selects (showRefusal n r.dock (retireRefer c s)) :=
      closed_showRefusal (selects_closed _) n r.dock _ (by rw [retireRefer_held h]; exact selectLamp_selects _ _)
    have hagenda : (showRefusal n r.dock (retireRefer c s)).agenda = s.agenda := by
      rw [showRefusal, selectLamp_agenda, setDock_agenda, retireRefer_held h, selectLamp_agenda, dropRefer_agenda]
    obtain ⟨q, f, l, b, a, hu⟩ := hselects
    rw [hu] at hagenda ⊢
    cases hagenda
    rfl

/-! ### A tap that misses (R55, R56) -/

/-- The slot that a tap of the card opens at the dock now, or aims again (R55, R56). -/
def State.heldTap (s : State) (c : CardNo) (d : Dock) (again : Bool) : ReferSlot :=
  { card := c, dock := d, tapTime := s.clock.time, remaining := s.settings.referTimeout * 1000, reaimed := again }

theorem missTap_again (h : (s.findRefer c).isSome = true) :
    (missTap c d s).refers = s.refers.map (fun r => if r.card = c then s.heldTap c d true else r) := by
  obtain ⟨r, hr⟩ := Option.isSome_iff_exists.1 h
  have haimed : (s.setRefer c (fun r =>
      { r with dock := d, tapTime := s.clock.time, remaining := s.referMs, reaimed := true })).refers =
      s.refers.map (fun r => if r.card = c then s.heldTap c d true else r) := List.map_congr_left fun x _ => by
    split
    · subst_vars; rfl
    · rfl
  simp only [missTap, hr]
  split
  · exact haimed
  · rw [selectLamp_refers, selectLamp_refers, haimed]

theorem missTap_opens (h : s.findRefer c = none) (hroom : s.refers.length < 4) :
    (missTap c d s).refers = s.refers ++ [s.heldTap c d false] := by
  simp only [missTap, h, hroom, if_true, selectLamp_refers, State.addRefer, Option.isNone_none, and_self]
  rfl

theorem missTap_full (h : s.findRefer c = none) (hfull : 4 ≤ s.refers.length) :
    missTap c d s = showRefusal 4 d s := by
  simp only [missTap, h, Nat.not_lt.2 hfull, if_false]

/-! ### A TAPREAD's answer (R31, R54) -/

theorem tapAnswer_bytes (d : Dock) (c : CardNo) (q : Byte) (s : State) : tapAnswer d (beBytes 5 c.toNat ++ [q]) s =
    if c = 0 ∨ (s.dock d).lastTap = some q then s
    else takeTap c d (s.setDock d (fun r => { r with lastTap := some q })) := by
  have hcard : BitVec.ofNat 40 (field (beBytes 5 c.toNat ++ [q]) 0 5) = c := cardArg_append c [q]
  have hsequence : byte (field (beBytes 5 c.toNat ++ [q]) 5 1) = q := by
    rw [field_beyond _ _ _ _ _ (le_refl 5), Nat.sub_self, field_zero, byte_toNat]
  simp only [tapAnswer, hcard, hsequence]

theorem takeTap_hit {e : CardEntry} (h : s.findCard c = some e) :
    takeTap c d s = (hitTap e d (retireRefer c s)).1 := by
  simp only [takeTap, h]

theorem takeTap_miss (h : s.findCard c = none) : takeTap c d s = missTap c d s := by
  simp only [takeTap, h]

/-- Whatever follows a tap, its sequence stays the last one taken at the dock. -/
theorem takeTap_lastTap (c : CardNo) (d : Dock) (s : State) :
    ((takeTap c d s).dock d).lastTap = (s.dock d).lastTap := by
  cases h : s.findCard c with
  | some e =>
    rw [takeTap_hit h]
    exact hit_hitTap (lastTap_hit d _) e d _
      (lastTap_of_known (closed_retireRefer (known_closed d _) c s rfl))
  | none =>
    rw [takeTap_miss h]
    exact lastTap_of_known (closed_missTap (known_closed d _) c d s rfl)

/-! ### REFUSE_CARD and REFER_TIMEOUT (R59, R60) -/

theorem withPort_eq {u : State} {p : Port} (h : u.port = p) : { u with port := p } = u := by
  rw [← h]

theorem showRefusal_port (n : Nat) (d : Dock) (c : CardNo) (s : State) :
    (showRefusal n d (retireRefer c s)).port = s.port :=
  closed_showRefusal (port_closed _).toLampClosed n d _ (closed_retireRefer (port_closed _).toCalmClosed c s rfl)

theorem changes_refuseCard {x : Result} {u : State} (hb : s.busy = false)
    (h : refuseCard c (s.taking 5) = (x, { u with port := (s.taking 5).port })) :
    changes (.refuseCard (beBytes 5 c.toNat)) 5 x u s :=
  changes_of _ 5 _ _ s u x (exec_refuseCard _ s) hb (beBytes_length 5 _) (by rw [cardArg_beBytes]; exact h)

theorem refuseCard_held {r : ReferSlot} (h : s.findRefer c = some r) :
    refuseCard c s = (.ok [], showRefusal 1 r.dock (retireRefer c s)) := by
  simp only [refuseCard, h]

theorem refuseCard_missing (h : s.findRefer c = none) : refuseCard c s = (.plain .notFound, s) := by
  simp only [refuseCard, h, refuse]

theorem referEnd_held {r : ReferSlot} (h : s.findRefer c = some r) :
    referEnd c s = if r.reaimed then s else showRefusal 1 r.dock (retireRefer c s) := by
  simp only [referEnd, h]

theorem referEnd_missing (h : s.findRefer c = none) : referEnd c s = s := by
  simp only [referEnd, h]

theorem exec_referTimeout_ends (c : CardNo) (s : State) :
    exec (.referTimeout c) s = .next (finishEvent (referEnd c s)) := exec_referTimeout c s

end

/-! ### What a load leaves for ADMIT_CARD (R50, R58) -/

section

variable {s : State} {r : CardRecord}

/-- A card to be loaded is a GUEST's, or held and no GUEST's, or new in a full table, or new with a slot free. -/
theorem load_cases (r : CardRecord) (s : State) :
    (∃ e, s.findCard r.card = some e ∧ e.cls = .guest) ∨ (∃ e, s.findCard r.card = some e ∧ e.cls ≠ .guest) ∨
    (s.findCard r.card = none ∧ s.freeCardSlot = none) ∨
    ∃ i, s.findCard r.card = none ∧ s.freeCardSlot = some i := by
  cases hcard : s.findCard r.card with
  | some e => by_cases hcls : e.cls = .guest <;> simp [hcls]
  | none => cases s.freeCardSlot <;> simp

theorem loadRecord_ok_iff : (loadRecord r s).1 = .ok ↔ (∃ e, s.findCard r.card = some e ∧ e.cls ≠ .guest) ∨
    (s.findCard r.card = none ∧ s.freeCardSlot.isSome = true) := by
  rcases load_cases r s with ⟨e, he, hcls⟩ | ⟨e, he, hcls⟩ | ⟨hnew, hfull⟩ | ⟨i, hnew, hi⟩
  · simp [loadRecord_guest he hcls, he, hcls]
  · simp [loadRecord_held he hcls, he, hcls]
  · simp [loadRecord_full hnew hfull, hnew, hfull]
  · simp [loadRecord_new hnew hi, hnew, hi]

theorem loadRecord_full_iff : (loadRecord r s).1 = .full ↔ s.findCard r.card = none ∧ s.freeCardSlot = none := by
  rcases load_cases r s with ⟨e, he, hcls⟩ | ⟨e, he, hcls⟩ | ⟨hnew, hfull⟩ | ⟨i, hnew, hi⟩
  · simp [loadRecord_guest he hcls, he]
  · simp [loadRecord_held he hcls, he]
  · simp [loadRecord_full hnew hfull, hnew, hfull]
  · simp [loadRecord_new hnew hi, hi]

/-- The port has no part in a load. -/
theorem loadRecord_taking (r : CardRecord) (s : State) (n : Nat) : loadRecord r (s.taking n) =
    ((loadRecord r s).1, { (loadRecord r s).2 with port := (s.taking n).port }) := by
  rcases load_cases r s with ⟨e, he, hcls⟩ | ⟨e, he, hcls⟩ | ⟨hnew, hfull⟩ | ⟨i, hnew, hi⟩
  · rw [loadRecord_guest he hcls, loadRecord_guest (s := s.taking n) he hcls]
    rfl
  · rw [loadRecord_held he hcls, loadRecord_held (s := s.taking n) he hcls]
    rfl
  · rw [loadRecord_full hnew hfull, loadRecord_full (s := s.taking n) hnew hfull]
    rfl
  · rw [loadRecord_new hnew hi, loadRecord_new (s := s.taking n) hnew hi]
    rfl

theorem loadRecord_taking_code {x : ResultCode} (h : (loadRecord r s).1 = x) (n : Nat) :
    (loadRecord r (s.taking n)).1 = x := by
  rw [loadRecord_taking, h]

theorem loadRecord_refers (r : CardRecord) (s : State) : (loadRecord r s).2.refers = s.refers := by
  rcases load_cases r s with ⟨e, he, hcls⟩ | ⟨e, he, hcls⟩ | ⟨hnew, hfull⟩ | ⟨i, hnew, hi⟩
  · rw [loadRecord_guest he hcls]
  · rw [loadRecord_held he hcls, setCard_refers]
  · rw [loadRecord_full hnew hfull]
  · rw [loadRecord_new hnew hi]

theorem findRefer_of_refers {t : State} (h : t.refers = s.refers) (c : CardNo) : t.findRefer c = s.findRefer c := by
  unfold State.findRefer
  rw [h]

/-- The entry of a loaded card has the record's fields. -/
theorem loaded_entry (h : (loadRecord r s).1 = .ok) : ∃ e, (loadRecord r s).2.findCard r.card = some e ∧
    e.cls = r.cls ∧ e.plan = r.plan ∧ e.blocked = r.blocked ∧ e.validUntil = r.validUntil := by
  rcases loadRecord_ok_iff.1 h with ⟨e, he, hcls⟩ | ⟨hnew, hfree⟩
  · exact ⟨_, loaded_held he hcls, rfl, rfl, rfl, rfl⟩
  · obtain ⟨i, hi⟩ := Option.isSome_iff_exists.1 hfree
    exact ⟨_, loaded_new hnew hi, rfl, rfl, rfl, rfl⟩

/-- Every other entry stays (R50). -/
theorem loaded_others (h : (loadRecord r s).1 = .ok) {x : CardEntry} (hx : x ∈ s.cards) (hcard : x.card ≠ r.card) :
    x ∈ (loadRecord r s).2.cards := by
  rcases loadRecord_ok_iff.1 h with ⟨e, he, hcls⟩ | ⟨hnew, hfree⟩
  · rw [loadRecord_held he hcls]
    exact List.mem_map.2 ⟨x, hx, if_neg hcard⟩
  · obtain ⟨i, hi⟩ := Option.isSome_iff_exists.1 hfree
    rw [loadRecord_new hnew hi]
    exact (mem_insertCard _ _ _).2 (.inr hx)

/-! ### ADMIT_CARD (R58) -/

theorem changes_admitCard {args : List Byte} {x : Result} {u : State} (hlen : args.length = 13) (hb : s.busy = false)
    (hr : readCardRecord args = some r)
    (h : admitRecord r (s.taking 13) = (x, { u with port := (s.taking 13).port })) :
    changes (.admitCard args) 13 x u s :=
  changes_of _ 13 args _ s u x (exec_admitCard args s) hb hlen (by simpa only [hr] using h)

theorem changes_admitCard_refused {args : List Byte} (hlen : args.length = 13) (hb : s.busy = false)
    (hr : readCardRecord args = none) : changes (.admitCard args) 13 { code := .badArg, data := [] } s s :=
  changes_of _ 13 args _ s s _ (exec_admitCard args s) hb hlen (by simp only [hr]; rfl)

theorem admitRecord_loads (h : (loadRecord r s).1 = .ok) : admitRecord r s = replayTap r.card (loadRecord r s).2 := by
  simp only [admitRecord, h]

theorem admitRecord_guest {e : CardEntry} (he : s.findCard r.card = some e) (hcls : e.cls = .guest) :
    admitRecord r s = (.plain .state, s) := by
  simp only [admitRecord, loadRecord_guest he hcls, refuse]

theorem admitRecord_full (h : (loadRecord r s).1 = .full) (hnone : s.findRefer r.card = none) :
    admitRecord r s = (.plain .full, s) := by
  simp only [admitRecord, h, hnone, refuse]

theorem admitRecord_full_held (h : (loadRecord r s).1 = .full) {f : ReferSlot} (hf : s.findRefer r.card = some f) :
    admitRecord r s = (.plain .full, showRefusal 4 f.dock (retireRefer r.card s)) := by
  simp only [admitRecord, h, hf]

theorem replayTap_none {c : CardNo} (h : s.findRefer c = none) :
    replayTap c s = (.ok [byte (s.slotOf c), 0, 0], s) := by
  simp only [replayTap, h]

theorem replayTap_held {c : CardNo} {f : ReferSlot} {e : CardEntry} (hf : s.findRefer c = some f)
    (he : s.findCard c = some e) : replayTap c s =
      (.ok [byte e.slot.val, 1, byte (hitTap e f.dock (retireRefer c s)).2],
        (hitTap e f.dock (retireRefer c s)).1) := by
  simp only [replayTap, hf, he]

/-- With a slot and a card that can be loaded, the tap is decided by the entry now in the table (R58). -/
theorem heldTap_replayed {args : List Byte} (hlen : args.length = 13) (hb : s.busy = false)
    (hr : readCardRecord args = some r) (hok : (loadRecord r s).1 = .ok) {f : ReferSlot}
    (hf : s.findRefer r.card = some f) {e : CardEntry} (he : (loadRecord r s).2.findCard r.card = some e) :
    let x := hitTap e f.dock (retireRefer r.card (loadRecord r (s.taking 13)).2)
    changes (.admitCard args) 13 { code := .ok, data := [byte e.slot.val, 1, byte x.2] } x.1 s := by
  intro x
  have hadmit : admitRecord r (s.taking 13) = (.ok [byte e.slot.val, 1, byte x.2], x.1) := by
    rw [admitRecord_loads (loadRecord_taking_code hok 13)]
    refine replayTap_held ((findRefer_of_refers (loadRecord_refers r (s.taking 13)) _).trans hf) ?_
    rw [loadRecord_taking]
    exact he
  have hport : x.1.port = (s.taking 13).port := by
    have hwork := closed_admitRecord (port_closed (s.taking 13).port) r (s.taking 13) rfl
    rwa [hadmit] at hwork
  exact changes_admitCard hlen hb hr (hadmit.trans (by rw [withPort_eq hport]; rfl))

end

/-- Settles O22: the cases of a load with and without a slot, a slot retired with its refusal (`referRefused_of_held`),
the tap decided as a hit (`heldTap_replayed`, `hitTap_refusedAt`), and the answers of a TAPREAD. -/
theorem heldTapsSettled : Obligations.HeldTapsSettled := by
  unfold Obligations.HeldTapsSettled
  refine ⟨fun s args hlen hb => ⟨changes_admitCard_refused hlen hb, fun r hr => ⟨loadRecord_ok_iff, loadRecord_full_iff,
    fun e he hcls => ?_, fun hok hnone => ?_, fun hfull hnone => ?_, fun f hfull hf => ?_, fun f hok hf => ?_⟩⟩,
    fun s c => ⟨fun f hf => ⟨fun hb => ?_, fun haimed => ?_, fun haimed => ?_⟩, fun hnone => ⟨fun hb => ?_, ?_⟩⟩,
    fun s d c q => ⟨fun hskip => ?_, fun hc hq => ?_⟩⟩
  · exact changes_admitCard hlen hb hr (admitRecord_guest (s := s.taking 13) he hcls)
  · refine changes_admitCard hlen hb hr ?_
    rw [admitRecord_loads (loadRecord_taking_code hok 13), replayTap_none
      ((findRefer_of_refers (loadRecord_refers r (s.taking 13)) _).trans hnone), loadRecord_taking]
    rfl
  · exact changes_admitCard hlen hb hr (admitRecord_full (s := s.taking 13) (loadRecord_taking_code hfull 13) hnone)
  · have hadmit := admitRecord_full_held (s := s.taking 13) (loadRecord_taking_code hfull 13) hf
    exact ⟨_, changes_admitCard hlen hb hr (hadmit.trans (by rw [withPort_eq (showRefusal_port ..)]; rfl)),
      referRefused_of_held (s := s.taking 13) hf 4⟩
  · obtain ⟨e, he, hcls, hplan, hblocked, hvalid⟩ := loaded_entry hok
    have hcard : e.card = r.card := (mem_of_findCard he).2
    have hrefused := fun w => hitTap_refusedAt e f.dock w
    refine ⟨e, he, hcls, hplan, hblocked, hvalid, fun x hx hne => loaded_others hok hx hne, ?_⟩
    intro w x
    have hcards : w.cards = (loadRecord r s).2.cards :=
      (retireRefer_cards _ _).trans (by rw [loadRecord_taking])
    refine ⟨hcards, heldTap_replayed hlen hb hr hok hf he, refusedAt_le (hrefused w), hitTap_no_refer e f.dock r.card _,
      refusedAt_flash (hrefused w), fun hrider => ?_, fun hcrew hbar => ?_, fun hcrew hopen hpassed => ?_⟩
    · have hx : x = decideTap e f.dock w := hitTap_rider (hcls ▸ hrider)
      have hcode : x.2 = tapCode e f.dock w := hx ▸ decideTap_code e f.dock w
      refine ⟨hcode, fun hne => ?_, fun hzero => ?_⟩
      · rw [hcode, hx, decideTap_refused (hcode ▸ hne)]
      · rw [hx, decideTap_queued (hcode ▸ hzero), hcard]
    · have hx : x = (showRefusal 1 f.dock w, 1) := hitTap_crew_refused (hcls.trans hcrew) (hblocked ▸ hbar)
      rw [hx]
      exact ⟨rfl, rfl⟩
    · rw [← hcard]
      exact hitTap_crew (hcls.trans hcrew) (hblocked.trans hopen) hpassed
  · exact ⟨_, changes_refuseCard hb ((refuseCard_held (s := s.taking 5) hf).trans
      (by rw [withPort_eq (showRefusal_port ..)]; rfl)), referRefused_of_held (s := s.taking 5) hf 1⟩
  · refine ⟨_, ?_, showRefusal_port 1 f.dock c s, referRefused_of_held hf 1⟩
    rw [exec_referTimeout_ends, referEnd_held hf, haimed]
    rfl
  · rw [exec_referTimeout_ends, referEnd_held hf, haimed]
    rfl
  · exact changes_refuseCard hb (refuseCard_missing (s := s.taking 5) hnone)
  · rw [exec_referTimeout_ends, referEnd_missing hnone]
  · rw [tapAnswer_bytes, if_pos hskip]
  · intro w u slot
    have hu : u = takeTap c d w := (tapAnswer_bytes d c q s).trans (if_neg (not_or.2 ⟨hc, hq⟩))
    have hlast : (w.dock d).lastTap = some q := by rw [setDock_dock, if_pos rfl]
    refine ⟨hu ▸ (takeTap_lastTap c d w).trans hlast, fun e he => ?_, fun hnone => ?_⟩
    · have hhit : u = (hitTap e d (retireRefer c w)).1 := hu.trans (takeTap_hit he)
      exact ⟨hhit, hhit ▸ hitTap_no_refer e d c w⟩
    · have hmiss : u = missTap c d w := hu.trans (takeTap_miss hnone)
      refine ⟨fun hsome => hmiss ▸ missTap_again (s := w) hsome,
        fun hnew hroom => hmiss ▸ missTap_opens (s := w) hnew hroom,
        fun hnew hfull => ?_⟩
      have hshown : u = showRefusal 4 d w := hmiss.trans (missTap_full hnew hfull)
      exact ⟨hshown, by rw [hshown, showRefusal, selectLamp_refers]; rfl⟩

end Sys2Proof.Machine
end

section
/-! PROOFS. Calls that the Hire Unit asks for: an entry of the call queue with its arguments and originators, from the
request on (R18, R20, R70, R72, R77). -/

namespace Sys2Proof.Machine

open Sys2Proof

section

variable {s : State} {d : Dock} {v : Verb} {o : Originator}

/-- A call of this verb waits for the dock, and its outcome goes to this originator among others. -/
def State.awaits (s : State) (d : Dock) (v : Verb) (o : Originator) : Prop :=
  s.string.flight.isSome = true ∧
    ∃ q ∈ s.string.queue, q.target = .node (dockNode d) ∧ q.verb = v ∧ o ∈ q.originators

/-- A queued call that a full queue does not give up keeps its key and its originators (R18, R20). -/
theorem enqueue_keeps_call {q : QueueEntry} (hq : q ∈ s.string.queue) (hcall : isCall q = true) (r : QueueEntry) :
    ∃ p ∈ (enqueue r s).string.queue,
      p.target = q.target ∧ p.verb = q.verb ∧ ∀ o ∈ q.originators, o ∈ p.originators := by
  have hsame : ∃ p ∈ s.string.queue, p.target = q.target ∧ p.verb = q.verb ∧ ∀ o ∈ q.originators, o ∈ p.originators :=
    ⟨q, hq, rfl, rfl, fun _ h => h⟩
  by_cases hkey : ∃ e ∈ s.string.queue, sameKey e r = true
  · rw [enqueue_merge hkey]
    refine ⟨_, List.mem_map_of_mem hq, ?_⟩
    split
    · exact ⟨rfl, rfl, fun o ho => (mem_mergeEntry_originators q r o).2 (.inl ho)⟩
    · exact ⟨rfl, rfl, fun _ h => h⟩
  have hnew : ∀ e ∈ s.string.queue, sameKey e r = false := by simpa using hkey
  rcases Nat.lt_or_ge s.string.queue.length 40 with hroom | hfull
  · rw [enqueue_append hnew hroom]
    exact ⟨q, List.mem_append_left _ hq, rfl, rfl, fun _ h => h⟩
  by_cases hs : r.verb = .survey
  · rwa [enqueue_full_survey hnew hfull hs]
  by_cases hl : r.verb = .lampShow
  · rwa [enqueue_full_show hnew hfull hl, notShown_string]
  cases hy : youngestYielding s.string.queue with
  | none => rwa [enqueue_full_refuse hnew hfull hs hl hy]
  | some e =>
    rw [enqueue_full_evict hnew hfull hs hl hy]
    have hother : sameKey q e = false := by
      by_contra hkeys
      have hverb : q.verb = e.verb := ((sameKey_iff q e).1 (by simpa using hkeys)).2
      have hyields : isCall e = false := by rw [isCall_eq_not_yields, yields_of_youngest hy]; rfl
      rw [isCall, hverb] at hcall
      exact Bool.false_ne_true (hyields.symm.trans hcall)
    exact ⟨q, List.mem_append_left _ (List.mem_filter.2 ⟨hq, by simp [hother]⟩), rfl, rfl, fun _ h => h⟩

/-- An entry with a request's key carries, once the request is placed, its arguments and originators (R18). -/
theorem enqueue_keyed {q r : QueueEntry} (hq : q ∈ (enqueue r s).string.queue) (hkey : sameKey q r = true) :
    q.args = r.args ∧ ∀ o ∈ r.originators, o ∈ q.originators := by
  by_cases hold : ∃ e ∈ s.string.queue, sameKey e r = true
  · rw [enqueue_merge hold] at hq
    obtain ⟨e, -, rfl⟩ := List.mem_map.1 hq
    split at hkey
    · rw [if_pos ‹_›]
      exact ⟨rfl, fun o ho => (mem_mergeEntry_originators e r o).2 (.inr ho)⟩
    · exact absurd hkey ‹_›
  have hnew : ∀ e ∈ s.string.queue, sameKey e r = false := by simpa using hold
  have holder : q ∉ s.string.queue := fun hmem => Bool.false_ne_true ((hnew q hmem).symm.trans hkey)
  have hself : q = r → q.args = r.args ∧ ∀ o ∈ r.originators, o ∈ q.originators := by
    rintro rfl
    exact ⟨rfl, fun _ h => h⟩
  rcases enqueue_queue_cases r s with h | h | ⟨-, ⟨-, h⟩ | ⟨e, -, h⟩⟩ <;> rw [h] at hq
  · obtain ⟨e, he, rfl⟩ := List.mem_map.1 hq
    rw [hnew e he] at holder
    exact absurd he holder
  · exact absurd hq holder
  · exact (List.mem_append.1 hq).elim (absurd · holder) (fun h => hself (List.mem_singleton.1 h))
  · exact (List.mem_append.1 hq).elim (fun h => absurd (List.mem_filter.1 h).1 holder)
      (fun h => hself (List.mem_singleton.1 h))

/-- A call placed for a dock waits with its arguments and its originator, where the queue has room or a SURVEY or SHOW
to give up. -/
theorem placeDock_call (hv : v ≠ .survey ∧ v ≠ .lampShow) (h : s.callsAtMost 39) (l : List Byte) (o : Originator) :
    (placeDock d v l o s).string.flight.isSome = true ∧ ∃ q ∈ (placeDock d v l o s).string.queue,
      q.target = .node (dockNode d) ∧ q.verb = v ∧ q.args = l ∧ o ∈ q.originators := by
  obtain ⟨hflight, hcalls⟩ := h
  obtain ⟨hfree, q, hq, htarget, hverb⟩ := placeDock_waits (d := d) hv hflight (Nat.lt_succ_of_le hcalls) l o
  have hplaced : placeDock d v l o s = enqueue (request (dockNode d) v l o) s :=
    takeNext_in_use (by rw [enqueue_flight]; exact hflight)
  obtain ⟨hargs, horiginators⟩ := enqueue_keyed (hplaced ▸ hq) ((sameKey_iff _ _).2 ⟨htarget, hverb⟩)
  exact ⟨hfree, q, hq, htarget, hverb, hargs, horiginators o (List.mem_singleton_self o)⟩

theorem placeDock_awaits (hv : v ≠ .survey ∧ v ≠ .lampShow) (h : s.callsAtMost 39) (l : List Byte) (o : Originator) :
    (placeDock d v l o s).awaits d v o := by
  obtain ⟨hflight, q, hq, htarget, hverb, -, ho⟩ := placeDock_call (d := d) hv h l o
  exact ⟨hflight, q, hq, htarget, hverb, ho⟩

end

/-- A call that was asked for still waits after the other blocks' work. -/
theorem awaits_closed {v : Verb} (hv : v ≠ .survey ∧ v ≠ .lampShow) (d : Dock) (o : Originator) :
    Closed (fun t => t.awaits d v o) := by
  have henqueue : ∀ (r : QueueEntry) (s : State), s.awaits d v o → (enqueue r s).awaits d v o := by
    rintro r s ⟨hflight, q, hq, htarget, hverb, ho⟩
    obtain ⟨p, hp, hpt, hpv, hpo⟩ := enqueue_keeps_call hq (by rw [isCall, hverb]; exact decide_eq_true hv) r
    exact ⟨by rw [enqueue_flight]; exact hflight, p, hp, hpt.trans htarget, hpv.trans hverb, hpo o ho⟩
  constructor
  · constructor
    · constructor
      · exact fun _ _ _ _ h => h
      · exact fun _ _ s h => henqueue _ s h
      · exact fun s h => by rw [takeNext_in_use h.1]; exact h
    · exact henqueue
    all_goals (intros; simpa [State.awaits, State.filterTrips] using ‹_›)
  all_goals (intros; simpa [State.awaits] using ‹_›)

/-- Calls that a queue of so many entries holds, as the statements count them. -/
theorem callsAtMost_of_filter {s : State} {n : Nat} (hflight : s.string.flight.isSome = true)
    (h : (s.string.queue.filter (fun q => decide (q.verb ≠ .survey ∧ q.verb ≠ .lampShow))).length ≤ n) :
    s.callsAtMost n := ⟨hflight, (calls_eq s).trans_le h⟩

end Sys2Proof.Machine
end

section
/-! PROOFS. What the end of a release gives back: a member's card and trip record, and a crew's move (R49, R72, R75, R77,
R79, R164). -/

namespace Sys2Proof.Machine

open Sys2Proof

/-! ### Trip records by their bicycle (R83, R85) -/

section

variable {s : State} {b c : Bike} {start : Time} {r : TripRecord}

theorem bike_of_findTrip (h : s.findTrip b = some r) : r ∈ s.trips ∧ r.bike = b :=
  ⟨List.mem_of_find?_eq_some h, by simpa using List.find?_some h⟩

theorem tripIn_found (h : s.findTrip b = some r) (hstart : r.stamp.start = start) (p : TripState → Bool) :
    s.tripIn b start p = p r.state := by
  simp [State.tripIn, h, hstart]

theorem findTrip_of_trips {t : State} (h : t.trips = s.trips) (b : Bike) : t.findTrip b = s.findTrip b := by
  unfold State.findTrip
  rw [h]

theorem findTrip_setTrip_own (h : s.findTrip b = some r) (f : TripRecord → TripRecord) :
    (s.setTrip b f).findTrip b = some { f r with bike := b } := by
  obtain ⟨-, rfl⟩ := bike_of_findTrip h
  rw [findTrip_setTrip, h, Option.map_some, if_pos rfl]

theorem findTrip_dropTrip (b : Bike) (s : State) : (s.dropTrip b).findTrip b = none := by
  simp [State.findTrip, State.dropTrip, State.filterTrips, State.noteTrips]

/-- The watch after REINIT changes CANCELLING records alone (R101). -/
theorem watchReport_findTrip (h : ∀ r ∈ s.trips, r.bike = b → r.state ≠ .cancelling) (d : Dock)
    (found : Option Bike) : (watchReport d found s).findTrip b = s.findTrip b := by
  have hfold : ∀ (l : List TripRecord) (g : TripRecord → TripRecord) (u : State), (∀ r ∈ l, r.bike ≠ b) →
      (l.foldl (fun s r => s.moveTrip r.bike g) u).findTrip b = u.findTrip b := by
    intro l g
    induction l with
    | nil => exact fun _ _ => rfl
    | cons r l ih =>
      intro u hl
      obtain ⟨hr, hl⟩ := List.forall_mem_cons.1 hl
      refine (ih _ hl).trans ((findTrip_setTrip b r.bike g u).trans ?_)
      refine (Option.map_congr fun y hy => if_neg ?_).trans Option.map_id'
      rw [(bike_of_findTrip hy).2]
      exact hr.symm
  unfold watchReport
  split
  · refine hfold _ _ s fun r hr hbike => ?_
    obtain ⟨hmem, hstate⟩ := List.mem_filter.1 hr
    exact h r hmem hbike (by simp at hstate; exact hstate.1.1)
  · rfl

end

/-! ### The entry that a release or a trip frees (R49) -/

section

variable {s : State} {c : CardNo} {e : CardEntry} {b : Bike} {start : Time}

/-- The entry freed without a fare: a GUEST whose valid_until has passed settles (R49, R61). -/
def State.freed (s : State) (e : CardEntry) : CardEntry :=
  { e with link := none, activity := if e.cls = .guest ∧ s.passed e = true then .settling else .idle }

theorem freedEntry_none (s : State) (e : CardEntry) : freedEntry s none e = s.freed e := by
  have hguest : e.guest.map (fun g => { g with captured := g.captured + captureOf e none }) = e.guest := by
    cases hg : e.guest <;> simp [captureOf, hg]
  unfold freedEntry State.freed
  rw [hguest]

theorem passed_of_clock {t : State} (h : t.clock = s.clock) (e : CardEntry) : t.passed e = s.passed e := by
  unfold State.passed
  rw [h]

theorem findCard_of_cards {t : State} (h : t.cards = s.cards) (c : CardNo) : t.findCard c = s.findCard c := by
  unfold State.findCard
  rw [h]

theorem findCard_setCard_own (he : s.findCard c = some e) (f : CardEntry → CardEntry) :
    (s.setCard c f).findCard c = some { f e with slot := e.slot, card := e.card } := by
  rw [findCard_setCard, he, Option.map_some]

theorem linkedTo_of (hlink : e.link = some (b, start)) (h : e.activity = .pending ∨ e.activity = .riding) :
    linkedTo e b start = true := by
  rcases h with h | h <;> simp [linkedTo, hlink, h]

theorem cardFree_linked (he : s.findCard c = some e) (hlink : e.link = some (b, start))
    (h : e.activity = .pending ∨ e.activity = .riding) :
    (cardFree c b start none s).1.findCard c = some (s.freed e) := by
  simp only [cardFree, he, linkedTo_of hlink h, if_true]
  rw [findCard_setCard_own he, freedEntry_none]
  rfl

/-- Freeing a card writes the card table alone. -/
theorem cardFree_only (c : CardNo) (b : Bike) (start : Time) (fare : Option Nat) (s : State) :
    (cardFree c b start fare s).1 = { s with cards := (cardFree c b start fare s).1.cards } := by
  unfold cardFree
  repeat' split
  all_goals rfl

end

/-! ### Moves of the active buffer (R155, R164) -/

section

variable {s : State} {i j : Nat} {y z : Move}

theorem move?_eq_some_iff : s.move? i = some y ↔ ∃ a, s.manifest.active = some a ∧ a.moves[i]? = some y := by
  unfold State.move?
  split <;> simp_all

theorem move?_of_manifest {t : State} (h : t.manifest = s.manifest) (i : Nat) : t.move? i = s.move? i := by
  unfold State.move?
  rw [h]

theorem move?_setMove (i j : Nat) (f : Move → Move) (s : State) :
    (s.setMove i f).move? j = if i = j then (s.move? j).map f else s.move? j := by
  cases ha : s.manifest.active with
  | none => simp [State.move?, State.setMove, State.setManifest, ha]
  | some a =>
    simp only [State.move?, State.setMove, State.setManifest, ha, Option.map_some, List.getElem?_modify]
    split
    · rfl
    · exact Option.map_id'

/-- The staged buffer waits for no end of the manifest (R171). -/
def State.unheld (s : State) : Prop := ∀ g, s.manifest.staged = some g → g.held = false

theorem followOn_unheld (h : s.unheld) : followOn s = s := by
  unfold followOn
  split
  next g hg => exact if_neg fun hheld => Bool.false_ne_true ((h g hg).symm.trans hheld.1)
  next => rfl

end

/-! ### What selecting lamps leaves of the Manifest Unit -/

theorem manifest_lamps (m : ManifestUnit) : LampClosed (fun t => t.manifest = m) := by
  constructor <;> (intros; simp_all)

theorem setReservation_manifest (d : Dock) (x : Reservation) (s : State) :
    (setReservation d x s).manifest = s.manifest := closed_setReservation (manifest_lamps _) d x s rfl

theorem dropReservations_manifest (s : State) : (dropReservations s).manifest = s.manifest := by
  refine closed_foldl (P := fun t => t.manifest = s.manifest) (fun t d ht => ?_) _ s rfl
  split
  · exact ht
  · exact (setReservation_manifest d .none t).trans ht

section

variable {s : State} {i : Nat} {y : Move}

theorem giveUp_move (i : Nat) (s : State) :
    (giveUp i s).move? i = (s.move? i).map (fun m => { m with heldDock := none }) ∧
    (giveUp i s).manifest.staged = s.manifest.staged := by
  have hgiven : ((s.setMove i (fun m => { m with heldDock := none })).noteManifest).move? i =
      (s.move? i).map (fun m => { m with heldDock := none }) := by
    rw [move?_of_manifest (noteManifest_manifest _), move?_setMove, if_pos rfl]
  unfold giveUp
  cases hm : s.move? i with
  | none => exact ⟨hm, rfl⟩
  | some m =>
    cases hheld : m.heldDock with
    | none =>
      simp only [hheld]
      exact ⟨hm.trans (by rw [Option.map_some]; congr 1; rw [← hheld]), trivial⟩
    | some d =>
      simp only [hheld]
      rw [hm] at hgiven
      split
      · rw [move?_of_manifest (setReservation_manifest ..), setReservation_manifest]
        exact ⟨hgiven, rfl⟩
      · exact ⟨hgiven, rfl⟩

theorem endManifest_move (o : ManifestOutcome) (h : s.unheld) (i : Nat) :
    (endManifest o s).move? i = (s.move? i).map (fun m => { m with landedDock := none }) := by
  have hended : ∀ u : State, u.manifest = { s.manifest with
        active := s.manifest.active.map fun a =>
          { a with phase := .ended o, moves := a.moves.map (fun x => { x with landedDock := none }) } } →
      (followOn u).move? i = (s.move? i).map (fun m => { m with landedDock := none }) := by
    intro u hu
    have hstaged : u.unheld := fun g hg => h g (by rw [hu] at hg; exact hg)
    rw [followOn_unheld hstaged]
    cases ha : s.manifest.active with
    | none => simp [State.move?, hu, ha]
    | some a => simp [State.move?, hu, ha]
  unfold endManifest
  exact hended _ ((filterHire_manifest ..).trans (dropReservations_manifest _))

/-- The move DONE at the dock with the bicycle (R164, R166). -/
def Move.done (d : Dock) (b : Bike) (late : Bool) (m : Move) : Move :=
  { m with state := .done, heldDock := none, landedDock := none, doneDock := some d, doneBike := some b,
           latePull := late }

theorem doneMove_move (h : s.unheld) (hy : s.move? i = some y) (d : Dock) (b : Bike) (late : Bool) :
    (doneMove i d b late s).move? i = some (y.done d b late) := by
  obtain ⟨hgiven, hstaged⟩ := giveUp_move i s
  have hdone : ((giveUp i s).setMove i (fun m =>
      { m with state := .done, doneDock := some d, doneBike := some b, latePull := late,
               landedDock := none })).move? i = some (y.done d b late) := by
    rw [move?_setMove, if_pos rfl, hgiven, hy]
    rfl
  unfold doneMove
  dsimp only
  split
  · split
    · rw [endManifest_move _ (fun g hg => h g (by rw [← hstaged]; exact hg))]
      exact congrArg (Option.map _) hdone
    · exact hdone
  · exact hdone

end

/-! ### Crew release reports (R164) -/

section

variable {s : State} {a : ActiveManifest} {n i : Nat} {y z : Move} {r : CrewReport} {d : Dock} {b : Bike}

/-- A report acts on its move in the manifest that it names, and may leave a note for the event's end. -/
theorem crewReport_move (ha : s.manifest.active = some a) (hn : a.header.number = n) (hy : a.moves[i]? = some y)
    (h : (reportMove i r d b y s).move? i = some z) : (crewReport n i r d b s).move? i = some z := by
  simp only [crewReport, ha, hn, ne_eq, not_true_eq_false, if_false, hy]
  split
  · exact h
  · exact h

theorem crewReport_returned (ha : s.manifest.active = some a) (hn : a.header.number = n)
    (hy : a.moves[i]? = some y) :
    (crewReport n i .returned d b s).move? i = some { y with state := .reserved } := by
  refine crewReport_move ha hn hy ?_
  rw [reportMove, move?_setMove, if_pos rfl, move?_eq_some_iff.2 ⟨a, ha, hy⟩]
  rfl

theorem crewReport_taken (h : s.unheld) (ha : s.manifest.active = some a) (hn : a.header.number = n)
    (hy : a.moves[i]? = some y) (late : Bool) :
    (crewReport n i (.taken late) d b s).move? i = some (y.done d b late) :=
  crewReport_move ha hn hy (doneMove_move h (move?_eq_some_iff.2 ⟨a, ha, hy⟩) d b late)

theorem crewReport_takenAfterCancel (h : s.unheld) (ha : s.manifest.active = some a) (hn : a.header.number = n)
    (hy : a.moves[i]? = some y) (hstate : y.state = .reserved) (hheld : y.heldDock = some d) :
    (crewReport n i .takenAfterCancel d b s).move? i = some (y.done d b true) := by
  refine crewReport_move ha hn hy ?_
  rw [reportMove, if_pos ⟨hstate, hheld⟩]
  exact doneMove_move h (move?_eq_some_iff.2 ⟨a, ha, hy⟩) d b true

end

end Sys2Proof.Machine
end

section
/-! PROOFS. The ends of STAMP, RELEASE and the coil count: tokens, a release that is undone, and the grant pass that
frees a token (R67, R72, R73). -/

namespace Sys2Proof.Machine

open Sys2Proof

/-! ### Tokens and the grant pass (R67) -/

section

variable {s : State} {i : Fin 3} {p : Token → Bool}

theorem tokenWith_lowest (hi : p (s.hire.tokens.get i) = true) (hlow : ∀ j, j < i → p (s.hire.tokens.get j) = false) :
    s.tokenWith p = some i := by
  refine List.find?_eq_some_iff_getElem.2 ⟨hi, i.val, by simp, by simp, fun j hj => ?_⟩
  rw [List.getElem_finRange]
  simpa using hlow ⟨j, _⟩ hj

theorem tokenWith_of_hire {t : State} (h : t.hire.tokens = s.hire.tokens) (p : Token → Bool) :
    t.tokenWith p = s.tokenWith p := by
  unfold State.tokenWith
  rw [h]

theorem grantPass_idle (h : s.hire.queue = [] ∨ s.budget ≤ s.tokensInUse) : grantPass s = s := by
  unfold grantPass
  rcases h with h | h
  · rw [h]
    rfl
  · cases hq : s.hire.queue with
    | nil => rfl
    | cons q rest => simp only [List.length_cons, grantLoop, hq, if_neg (Nat.not_lt.2 h)]

end

/-! ### Changes of occupancy that leave a bicycle at the dock (R35) -/

section

variable {s t : State} {d : Dock}

theorem selects_refl (s : State) : s.selects s := ⟨_, _, _, _, _, rfl⟩

/-- A change to RELEASING or OCCUPIED selects the lamp and tells the Manifest Unit; no move gives its dock up. -/
theorem setOccupancy_filled {o : Occupancy} (h : o ≠ .empty) (d : Dock) (s : State) : setOccupancy d o s =
    (selectLamp d (s.setDock d (fun r => { r with occupancy := o }))).noteManifest := by
  have hocc : ((selectLamp d (s.setDock d (fun r => { r with occupancy := o }))).noteManifest.dock d).occupancy = o := by
    have hdark := selectLamp_dark d d (s.setDock d (fun r => { r with occupancy := o }))
    rw [setDock_dock, if_pos rfl] at hdark
    exact (congrArg DockRecord.occupancy hdark :)
  unfold setOccupancy tellOccupancy
  exact if_neg fun hempty => h (hocc.symm.trans hempty.2)

theorem setOccupancy_selects {o : Occupancy} (h : o ≠ .empty) (d : Dock) (s : State) :
    s.selects (setOccupancy d o s) := by
  obtain ⟨q, f, l, b, a, hlamp⟩ := selectLamp_selects d (s.setDock d (fun r => { r with occupancy := o }))
  rw [setOccupancy_filled h, hlamp]
  exact ⟨q, f, l, b, _, rfl⟩

theorem selects_showRefusal (h : s.selects t) (n : Nat) (d : Dock) : s.selects (showRefusal n d t) :=
  closed_showRefusal (selects_closed s) n d t h

/-- The release of a dock has ended with its bicycle there: OCCUPIED, with refusal 3 shown (R72, R77). -/
def State.reoccupied (d : Dock) (s : State) : State := showRefusal 3 d (setOccupancy d .occupied s)

theorem reoccupied_selects (d : Dock) (s : State) : s.selects (s.reoccupied d) :=
  selects_showRefusal (setOccupancy_selects (by decide) d s) 3 d

theorem reoccupied_flash (d : Dock) (s : State) :
    ((s.reoccupied d).dock d).flash = some { code := 3, remaining := 3000 } := showRefusal_flash ..

theorem reoccupied_known (d : Dock) (s : State) :
    ((s.reoccupied d).dock d).known = ({ s.dock d with occupancy := .occupied } : DockRecord).known :=
  closed_showRefusal (known_closed d _).toLampClosed 3 d _ (setOccupancy_known d .occupied s)

end

/-! ### A release given back (R72, R75, R77) -/

section

variable {s : State} {d : Dock} {x : ReleaseContext} {g : State → State}

theorem giveBack_kept {P : State → Prop} (hcard : ∀ c f s, P s → P (s.setCard c f))
    (hmove : ∀ i f s, P s → P (s.setMove i f)) (hnote : ∀ s, P s → P s.noteFollowOn) (hg : ∀ s, P s → P (g s))
    (hs : P s) : P (giveBack d x g s) := by
  unfold giveBack crewReport cardFree
  dsimp only
  repeat' split
  · exact hcard _ _ _ (hg s hs)
  · exact hg s hs
  · exact hg s hs
  · exact hs
  · exact hs
  · exact hs
  · exact hs
  · exact hnote _ (hmove _ _ s hs)
  · exact hmove _ _ s hs

theorem giveBack_hire (hg : ∀ s, (g s).hire = s.hire) (s : State) : (giveBack d x g s).hire = s.hire :=
  giveBack_kept (P := fun t => t.hire = s.hire) (fun _ _ _ h => h) (fun _ _ _ h => h) (fun _ h => h)
    (fun t ht => (hg t).trans ht) rfl

theorem giveBack_docks (hg : ∀ s, (g s).docks = s.docks) (s : State) : (giveBack d x g s).docks = s.docks :=
  giveBack_kept (P := fun t => t.docks = s.docks) (fun _ _ _ h => h) (fun _ _ _ h => h) (fun _ h => h)
    (fun t ht => (hg t).trans ht) rfl

theorem giveBack_member (hk : x.kind = .member) {r : TripRecord} (hr : s.findTrip x.bike = some r)
    (hstate : r.state = .releasing) (hstart : r.stamp.start = x.start) :
    giveBack d x g s = (cardFree x.card x.bike x.start none (g s)).1 := by
  have hin : s.tripIn x.bike x.start isReleasing = true := by
    rw [tripIn_found hr hstart, hstate]
    rfl
  simp only [giveBack, hk, hin, if_true]

/-- A member's record is changed, and the card that is linked to it freed. -/
theorem giveBack_member_frees (hk : x.kind = .member) {r : TripRecord} (hr : s.findTrip x.bike = some r)
    (hstate : r.state = .releasing) (hstart : r.stamp.start = x.start) (hcards : (g s).cards = s.cards)
    (hclock : (g s).clock = s.clock) :
    (giveBack d x g s).trips = (g s).trips ∧
    ∀ e, s.findCard x.card = some e → e.link = some (x.bike, x.start) →
      (e.activity = .pending ∨ e.activity = .riding) →
      (giveBack d x g s).findCard x.card = some { e with
        link := none, activity := if e.cls = .guest ∧ s.passed e = true then .settling else .idle } := by
  rw [giveBack_member hk hr hstate hstart]
  refine ⟨by rw [cardFree_only], fun e he hlink hactivity => ?_⟩
  rw [cardFree_linked ((findCard_of_cards hcards _).trans he) hlink hactivity, State.freed, passed_of_clock hclock]

/-- A crew's move is RESERVED again. -/
theorem giveBack_crew_returns {m n : Nat} {a : ActiveManifest} {y : Move} (hk : x.kind = .crew m n)
    (ha : s.manifest.active = some a) (hn : a.header.number = n) (hy : a.moves[m]? = some y) :
    (giveBack d x g s).move? m = some { y with state := .reserved } := by
  simp only [giveBack, hk]
  exact crewReport_returned ha hn hy

end

/-! ### The end of STAMP (R72) -/

section

variable {s : State} {d : Dock} {b : Bike} {x : ReleaseContext} {i : Fin 3}

theorem releaseOf_found {p : ReleasePhase → Bool} (hx : s.release d = some x) (hp : p x.phase = true) :
    s.releaseOf d x.bike p = some x := by
  simp only [State.releaseOf, hx, hp, and_self, if_true]

theorem releaseOf_stamping (hx : s.release d = some x) (hphase : x.phase = .stamping) :
    s.releaseOf d x.bike (fun p => decide (p = .stamping)) = some x := releaseOf_found hx (decide_eq_true hphase)

theorem releaseOf_none {p : ReleasePhase → Bool} (h : ∀ x, s.release d = some x → x.bike ≠ b ∨ p x.phase = false) :
    s.releaseOf d b p = none := by
  unfold State.releaseOf
  split
  next x hx => exact if_neg fun hb => (h x hx).elim (· hb.1) fun hp => Bool.false_ne_true (hp.symm.trans hb.2)
  next => rfl

/-- Token `i` is the one lent to the dock at this stage. -/
def State.onlyToken (s : State) (i : Fin 3) (t : Token) : Prop :=
  s.hire.tokens.get i = t ∧ ∀ j, j ≠ i → s.hire.tokens.get j ≠ t

theorem tokenWith_only {t : Token} (h : s.onlyToken i t) : s.tokenWith (fun u => decide (u = t)) = some i :=
  tokenWith_lowest (decide_eq_true h.1) fun j hj => decide_eq_false (h.2 j (ne_of_lt hj))

variable (hi : s.onlyToken i (.lent d .stampPending))

include hi in
theorem stampedToken_goesOn : stampedToken d true s = s.setToken i (.lent d .releasePending) := by
  unfold stampedToken
  rw [show isStampPending d = fun u => decide (u = .lent d .stampPending) from rfl, tokenWith_only hi]
  rfl

include hi in
theorem stampedToken_frees : stampedToken d false s = grantPass (s.setToken i .free) := by
  unfold stampedToken
  rw [show isStampPending d = fun u => decide (u = .lent d .stampPending) from rfl, tokenWith_only hi]
  rfl

include hi in
theorem stampEnd_no_context (h : ∀ x, s.release d = some x → x.bike ≠ b) (good : Bool) :
    stampEnd d b good s = grantPass (s.setToken i .free) := by
  simp only [stampEnd, releaseOf_none fun x hx => .inl (h x hx), stampedToken_frees hi]

/-- The state in which a GOOD STAMP queues the RELEASE: the stamp told, the release OPENING, and the token
RELEASE_PENDING. -/
def State.stamped (d : Dock) (x : ReleaseContext) (i : Fin 3) (s : State) : State :=
  ((reportStamped d x.bike (stampKindOf x.kind) s).setRelease d (some { x with phase := .opening })).setToken i
    (.lent d .releasePending)

theorem reportStamped_selects (d : Dock) (b : Bike) (k : StampKind) (s : State) :
    s.selects (reportStamped d b k s) := by
  unfold reportStamped reportDock
  split
  · obtain ⟨q, f, l, c, a, hlamp⟩ := selectLamp_selects d (s.setDock d (fun r => { r with stampSeen := k }))
    rw [hlamp]
    exact ⟨q, f, l, c, a, rfl⟩
  · exact selects_refl s

theorem reportStamped_own_known {k : StampKind} (hb : (s.dock d).bike = some b) :
    ((reportStamped d b k s).dock d).known = ({ s.dock d with stampSeen := k } : DockRecord).known := by
  unfold reportStamped reportDock
  rw [if_pos hb]
  exact closed_selectLamp (known_closed d _).toLampClosed d _ (setDock_own_known _ s d)

theorem reportStamped_other_known {k : StampKind} {e : Dock} (he : e ≠ d) :
    ((reportStamped d b k s).dock e).known = (s.dock e).known := by
  unfold reportStamped reportDock
  split
  · refine closed_selectLamp (known_closed e _).toLampClosed d _ ?_
    rw [setDock_dock, if_neg he.symm]
  · rfl

/-- Until the RELEASE is queued only the Hire Unit, the dock's record and SHOW requests have changed. -/
theorem stamped_writes (d : Dock) (x : ReleaseContext) (i : Fin 3) (s : State) : ∃ a b c, s.stamped d x i =
    { s with
      hire := { s.hire with
        tokens := s.hire.tokens.set i.val (.lent d .releasePending) i.isLt,
        releases := s.hire.releases.set d.val (some { x with phase := .opening }) d.isLt },
      docks := a, string := b, agenda := c } := by
  obtain ⟨q, f, l, c, a, hreport⟩ := reportStamped_selects d x.bike (stampKindOf x.kind) s
  unfold State.stamped
  rw [hreport]
  exact ⟨_, _, _, rfl⟩

theorem placeDock_only (d : Dock) (v : Verb) (l : List Byte) (o : Originator) (s : State) : placeDock d v l o s =
    { s with string := (placeDock d v l o s).string, docks := (placeDock d v l o s).docks,
             agenda := (placeDock d v l o s).agenda } := by
  unfold placeDock place
  rw [takeNext_only, enqueue_only]

variable (hx : s.release d = some x) (hphase : x.phase = .stamping)

include hi hx hphase in
theorem stampEnd_good : stampEnd d x.bike true s =
    placeDock d .release [byte s.settings.coilPeriod] (.hireUnit x.bike) (s.stamped d x i) := by
  obtain ⟨q, f, l, c, a, hreport⟩ := reportStamped_selects d x.bike (stampKindOf x.kind) s
  simp only [stampEnd, releaseOf_stamping hx hphase, if_true]
  unfold State.stamped
  rw [hreport, stampedToken_goesOn (i := i) (by exact hi)]
  rfl

include hi hx hphase in
theorem stampEnd_good_writes : ∃ a b c, stampEnd d x.bike true s =
    { s with
      hire := { s.hire with
        tokens := s.hire.tokens.set i.val (.lent d .releasePending) i.isLt,
        releases := s.hire.releases.set d.val (some { x with phase := .opening }) d.isLt },
      docks := a, string := b, agenda := c } := by
  obtain ⟨a, b, c, hstamped⟩ := stamped_writes d x i s
  rw [stampEnd_good hi hx hphase, placeDock_only, hstamped]
  exact ⟨_, _, _, rfl⟩

theorem undoRelease_eq (d : Dock) (x : ReleaseContext) (s : State) : undoRelease d x s =
    (giveBack d x (fun s => s.dropTrip x.bike) (s.setRelease d none)).reoccupied d := rfl

theorem undoRelease_hire (d : Dock) (x : ReleaseContext) (s : State) :
    (undoRelease d x s).hire = { s.hire with releases := s.hire.releases.set d.val none d.isLt } := by
  obtain ⟨q, f, l, c, a, hre⟩ := reoccupied_selects d (giveBack d x (fun s => s.dropTrip x.bike) (s.setRelease d none))
  rw [undoRelease_eq, hre]
  exact giveBack_hire (g := fun s => s.dropTrip x.bike) (fun _ => rfl) _

theorem undoRelease_known (d : Dock) (x : ReleaseContext) (s : State) :
    ((undoRelease d x s).dock d).known = ({ s.dock d with occupancy := .occupied } : DockRecord).known := by
  rw [undoRelease_eq, reoccupied_known, dock_of_docks (giveBack_docks (g := fun s => s.dropTrip x.bike) (fun _ => rfl) _)]
  rfl

theorem undoRelease_flash (d : Dock) (x : ReleaseContext) (s : State) :
    ((undoRelease d x s).dock d).flash = some { code := 3, remaining := 3000 } := reoccupied_flash d _

include hi hx hphase in
theorem stampEnd_failed : stampEnd d x.bike false s = grantPass ((undoRelease d x s).setToken i .free) := by
  simp only [stampEnd, releaseOf_stamping hx hphase, Bool.false_eq_true, if_false]
  refine stampedToken_frees ?_
  unfold State.onlyToken
  rw [undoRelease_hire]
  exact hi

/-- An undone release gives the member's record and card, or the crew's move, back. -/
theorem undoRelease_gives_back (d : Dock) (x : ReleaseContext) (s : State) :
    (x.kind = .member → ∀ r, s.findTrip x.bike = some r → r.state = .releasing → r.stamp.start = x.start →
      (undoRelease d x s).trips = s.trips.filter (fun y => decide (y.bike ≠ x.bike)) ∧
      (∀ e, s.findCard x.card = some e → e.link = some (x.bike, x.start) →
        (e.activity = .pending ∨ e.activity = .riding) →
        (undoRelease d x s).findCard x.card = some { e with
          link := none, activity := if e.cls = .guest ∧ s.passed e = true then .settling else .idle })) ∧
    (∀ m n a y, x.kind = .crew m n → s.manifest.active = some a → a.header.number = n → a.moves[m]? = some y →
      ∃ a', (undoRelease d x s).manifest.active = some a' ∧ a'.moves[m]? = some { y with state := .reserved }) := by
  obtain ⟨q, f, l, c, a, hre⟩ := reoccupied_selects d (giveBack d x (fun s => s.dropTrip x.bike) (s.setRelease d none))
  rw [undoRelease_eq, hre]
  refine ⟨fun hk r hr hstate hstart => ?_, fun m n a y hk ha hn hy => ?_⟩
  · exact giveBack_member_frees (s := s.setRelease d none) (d := d) (g := fun s => s.dropTrip x.bike) hk hr hstate
      hstart rfl rfl
  · exact move?_eq_some_iff.1 (giveBack_crew_returns (s := s.setRelease d none) hk ha hn hy)

end

/-! ### The end of RELEASE (R72, R73) -/

section

variable {s : State} {d : Dock} {b : Bike} {i : Fin 3}

/-- The coil count of the dock's token starts with the code sent. -/
theorem releaseEnd_coil (hi : s.onlyToken i (.lent d .releasePending)) (code : Nat) : releaseEnd d b code s =
    match s.releaseOf d b (fun p => decide (p = .opening)) with
    | some x => (s.setToken i (.lent d (.coil (code * 100)))).setRelease d (some
        { x with phase := .waiting (s.settings.pullWindow * 1000), seenPresent := false })
    | none => s.setToken i (.lent d (.coil (code * 100))) := by
  unfold releaseEnd
  rw [show isReleasePending d = fun u => decide (u = .lent d .releasePending) from rfl, tokenWith_only hi]
  rfl

end

/-! ### The coil count (R73) -/

section

variable {s : State} {i : Fin 3}

theorem coilCount_ends {d : Dock} {ms : Nat} (h : s.hire.tokens.get i = .lent d (.coil ms)) :
    exec (.coilCountExpiry i.val) s = .next (finishEvent (grantPass (s.setToken i .free))) := by
  rw [exec_coilCountExpiry, dif_pos i.isLt, Fin.eta, h]
  rfl

theorem coilCount_idle (h : ∀ d ms, s.hire.tokens.get i ≠ .lent d (.coil ms)) :
    exec (.coilCountExpiry i.val) s = .next (finishEvent s) := by
  have hcoil : (s.hire.tokens.get i).inCoil = false := by
    unfold Token.inCoil
    split
    · exact absurd ‹_› (h _ _)
    all_goals rfl
  rw [exec_coilCountExpiry, dif_pos i.isLt, Fin.eta, hcoil]
  rfl

end

/-! ### The calls that the Hire Unit asks for (R17, step 6) -/

/-- What the end of a call of the Hire Unit does: STAMP, RELEASE, RELOCK or UNSTAMP. -/
def hireCallEnd (d : Dock) (b : Bike) (e : QueueEntry) (good : Bool) (s : State) : State :=
  if e.verb = .stamp then stampEnd d b good s
  else if e.verb = .release then releaseEnd d b (field e.args 0 1) s
  else if e.verb = .relock then relockEnd d b good s
  else hireUnstampEnd d b good s

theorem dockOutcome_hire {e : QueueEntry}
    (h : e.verb = .stamp ∨ e.verb = .release ∨ e.verb = .relock ∨ e.verb = .unstamp) (d : Dock) (b : Bike)
    (answer : Option Answer) (mark : Bool) (s : State) :
    dockOutcome d e answer mark (.hireUnit b) s = hireCallEnd d b e answer.isSome s := by
  rcases h with h | h | h | h <;> simp [dockOutcome, hireCallEnd, h, unstampOutcome, Originator.bike]

theorem hire_verb {v : Verb} (h : v = .stamp ∨ v = .release ∨ v = .relock ∨ v = .unstamp) :
    v ≠ .survey ∧ v.answerData = 0 := by
  rcases h with rfl | rfl | rfl | rfl <;> exact ⟨by decide, rfl⟩

/-- Settles O49: the coil count by its token's stage, the calls handed over (`dockOutcome_hire`), and the ends of
STAMP and RELEASE with and without their context. -/
theorem coilCountEnds : Obligations.CoilCountEnds := by
  unfold Obligations.CoilCountEnds
  refine ⟨⟨fun s i d ms htoken => ⟨fun hq => ?_, coilCount_ends htoken⟩, fun s i => coilCount_idle,
      fun s h => grantPass_idle (.inr h), fun s => rfl⟩,
    ?_, fun s d x i hx hphase hi honly => ⟨?_, ?_⟩, fun s d b i good hi honly hnone => stampEnd_no_context ⟨hi, honly⟩
      hnone good, fun s d b code i hi honly => ⟨fun x hx hb hphase => ?_, fun hnone => ?_⟩,
    fun s h => grantPass_idle (.inl h)⟩
  · rw [coilCount_ends htoken, grantPass_idle (.inl (by exact hq))]
    rfl
  · intro s c d b hflight hcross hd ht ho hv ended
    obtain ⟨hsurvey, hdata⟩ := hire_verb hv
    refine ⟨fun got data hphase hlen hsum => ?_, fun hlast => ?_, ?_⟩
    · obtain ⟨v, y, a, hexec, hover⟩ := exec_good_call hflight hcross hd ho hsurvey hdata hphase hlen hsum
      obtain ⟨hframe, hfree, htold, -⟩ := handsOver_noteButton hover d y
      refine ⟨noteButton d y v, ?_, frame_of_tells hframe, hfree, htold⟩
      rw [hexec, dockOutcome_hire hv]
      rfl
    · obtain ⟨v, hexec, hover⟩ := exec_failed_call hflight hcross hd ho hsurvey hlast
      refine ⟨v, ?_, frame_of_tells hover.frame, hover.flight, fun e => told_of_unresynced (hover.unresynced e)⟩
      rw [hexec, dockOutcome_hire hv]
      rfl
    · simp only [deliverFailure, ht]
      rw [handOutcome_failed ho, dockOutcome_hire hv]
      rfl
  · intro t
    have ht : t = _ := stampEnd_good ⟨hi, honly⟩ hx hphase
    obtain ⟨a, b', c, hwrites⟩ := stampEnd_good_writes ⟨hi, honly⟩ hx hphase
    have hframe : t = _ := hwrites
    refine ⟨?_, ?_, fun hb => ?_, fun e he => ?_, fun hflight hroom => ?_⟩
    · rw [hframe]
    · rw [hframe]
    · rw [ht]
      refine closed_placeDock (known_closed d _) _ _ _ _ _ ((reportStamped_own_known hb).trans ?_)
      cases hk : x.kind <;> simp [stampKindOf]
    · rw [ht]
      exact closed_placeDock (known_closed e _) _ _ _ _ _ (reportStamped_other_known he)
    · have hstamped : (s.stamped d x i).callsAtMost 38 := by
        refine (?_ : (reportStamped d x.bike (stampKindOf x.kind) s).callsAtMost 38)
        unfold reportStamped reportDock
        split
        · exact closed_selectLamp (callsAtMost_faulted 38).toLampClosed d _ (callsAtMost_of_filter hflight hroom)
        · exact callsAtMost_of_filter hflight hroom
      rw [ht]
      exact (placeDock_call (by decide) (callsAtMost_mono (by decide) hstamped) _ _).2
  · have hend := stampEnd_failed ⟨hi, honly⟩ hx hphase
    have hhire := undoRelease_hire d x s
    have hknown := undoRelease_known d x s
    have hflash := undoRelease_flash d x s
    have hback := undoRelease_gives_back d x s
    generalize undoRelease d x s = u at hend hhire hknown hflash hback
    exact ⟨_, hend, by rw [setToken_hire, hhire], hknown, hflash, hback⟩
  · subst hb
    rw [releaseEnd_coil ⟨hi, honly⟩, releaseOf_found hx (by exact decide_eq_true hphase)]
    rfl
  · rw [releaseEnd_coil ⟨hi, honly⟩, releaseOf_none fun x hx => (hnone x hx).imp_right fun h => decide_eq_false h]
    rfl

end Sys2Proof.Machine
end

section
/-! PROOFS. What a sensed set can do to one record or one move, said once: where the primitive updates of the fault
table are told which record they write, and the Manifest Unit's part is what a fault tells it (R135, R138, R143). -/

namespace Sys2Proof.Machine

open Sys2Proof

/-- What a sensed set can do, each write of the fault table with the record that it creates, changes or retires: one
whose subject and kind are `free`, or a SUSPECT one that makes room (R136, R138, R143). -/
structure ConditionClosed (free : Subject → FaultKind → Prop) (P : State → Prop) : Prop extends LampClosed P where
  told : ∀ (gained : Option Dock) (s : State), P s → P (tellFault gained s)
  masks : MasksButton P
  enqueue : ∀ (r : QueueEntry) (s : State), P s → P (enqueue r s)
  setFaultDock : ∀ (d : Dock) (f : FaultDock → FaultDock) (s : State), P s → P (s.setFaultDock d f)
  mapFaultDocks : ∀ (f : FaultDock → FaultDock) (s : State), P s → P (s.mapFaultDocks f)
  setFaultFull : ∀ (b : Bool) (s : State), P s → P (s.setFaultFull b)
  addFault : ∀ (r : FaultRecord) (s : State), free r.subject r.kind → P s → P (s.addFault r)
  setFault : ∀ (r : FaultRecord) (f : FaultRecord → FaultRecord) (s : State),
    s.findFault r.subject r.kind = some r → free r.subject r.kind → P s → P (s.setFault r.slot f)
  filterFaults : ∀ (r : FaultRecord) (s : State), r ∈ s.faults.records →
    free r.subject r.kind ∨ r.state = .suspect → P s → P (s.filterFaults (fun a => decide (a.slot ≠ r.slot)))

/-- The record that makes room is a SUSPECT one (R136). -/
theorem oldestSuspect_mem {s : State} {r : FaultRecord} (h : s.oldestSuspect = some r) :
    r ∈ s.faults.records ∧ r.state = .suspect := by
  have hfold : ∀ (l : List FaultRecord) (best : Option FaultRecord), l.foldl (fun best r =>
      match best with
      | none => some r
      | some b => if r.order < b.order then some r else some b) best = some r → best = some r ∨ r ∈ l := by
    intro l
    induction l with
    | nil => exact fun _ h => .inl h
    | cons a l ih =>
      intro best hbest
      rcases ih _ hbest with h | h
      · cases best with
        | none => exact .inr (Option.some.inj h ▸ List.mem_cons_self)
        | some b =>
          simp only at h
          split at h
          · exact .inr (Option.some.inj h ▸ List.mem_cons_self)
          · exact .inl h
      · exact .inr (List.mem_cons_of_mem _ h)
  rcases hfold _ none h with h | h
  · cases h
  · simpa using List.mem_filter.1 h

theorem findFault_setFault {s : State} {x : Subject} {k : FaultKind} {r : FaultRecord}
    (h : s.findFault x k = some r) (f : FaultRecord → FaultRecord) : (s.setFault r.slot f).findFault x k =
      some { f r with slot := r.slot, subject := r.subject, kind := r.kind, order := r.order } := by
  have hkeys : ((fun a : FaultRecord => decide (a.subject = x) && decide (a.kind = k)) ∘ fun a : FaultRecord =>
      if a.slot = r.slot then { f a with slot := a.slot, subject := a.subject, kind := a.kind, order := a.order }
      else a) = fun a => decide (a.subject = x) && decide (a.kind = k) := by
    funext a
    simp only [Function.comp_apply]
    split <;> rfl
  unfold State.findFault at h
  unfold State.findFault State.setFault
  rw [List.find?_map, hkeys, h, Option.map_some, if_pos rfl]

section

variable {free : Subject → FaultKind → Prop} {P : State → Prop} (h : ConditionClosed free P)
include h

theorem conditioned_tellChange (x : Subject) (gained : Option Dock) (s : State) (hs : P s) :
    P (tellChange x gained s) := by
  cases x with
  | dock d => exact h.told gained (selectLamp d s) (closed_selectLamp h.toLampClosed d s hs)
  | bike b => exact h.told none (selectLampsOfBike b s) (closed_selectLampsOfBike h.toLampClosed b s hs)
  | segment _ | terminal => exact hs

theorem conditioned_evalMark (d : Dock) (s : State) (hs : P s) : P (evalMark d s) := by
  unfold evalMark
  split
  · split
    · exact h.takeNext _ (h.enqueue _ _ (h.setFaultDock d _ s hs))
    · exact hs
  · exact hs

theorem conditioned_activeEffects (x : Subject) (k : FaultKind) (s : State) (hs : P s) :
    P (activeEffects x k s) := by
  cases x with
  | dock d => exact faulted_activeEffects_dock (.inr h.masks) d s hs
  | bike b =>
    have hunmarked := h.mapFaultDocks (fun f => if f.unmark = some b then { f with unmark := none } else f) s hs
    simp only [activeEffects, evalMarkOfBike]
    split
    · exact conditioned_evalMark h _ _ hunmarked
    · exact hunmarked
  | segment _ | terminal => exact hs

/-- A record enters ACTIVE; its reporters may have been written before. -/
theorem conditioned_confirmFault {r r' : FaultRecord} {s : State} (hr : s.findFault r'.subject r'.kind = some r')
    (hslot : r'.slot = r.slot) (hfree : free r'.subject r'.kind) (hs : P s) : P (confirmFault r s) := by
  rw [confirmFault_eq, State.confirmed, ← hslot]
  exact conditioned_tellChange h _ _ _ (conditioned_activeEffects h _ _ _ (h.setFault r' _ s hr hfree hs))

theorem conditioned_removeFault {r : FaultRecord} {s : State} (hr : r ∈ s.faults.records)
    (hfree : free r.subject r.kind ∨ r.state = .suspect) (hs : P s) : P (removeFault r s) := by
  have hgone := h.filterFaults r s hr hfree hs
  rw [removeFault_eq]
  refine conditioned_tellChange h _ _ _ ?_
  unfold State.withoutFault
  split
  · split
    · exact h.masks _ false _ hgone
    · exact hgone
  all_goals exact hgone

theorem conditioned_retireFault {r : FaultRecord} {s : State} (hr : r ∈ s.faults.records)
    (hfree : free r.subject r.kind) (hs : P s) : P (retireFault r s) :=
  conditioned_removeFault h (s := s.setFaultFull false) hr (.inl hfree) (h.setFaultFull false s hs)

theorem conditioned_createSuspect {x : Subject} {k : FaultKind} (hfree : free x k) (n : Nat) (l : List CardNo)
    {s : State} (hs : P s) : P (createSuspect x k n l s) := by
  unfold createSuspect
  split
  · exact conditioned_tellChange h _ _ _ (h.addFault (newFault s x k .suspect n l) s hfree hs)
  · exact hs

theorem conditioned_createActive {x : Subject} {k : FaultKind} (hfree : free x k) (l : List CardNo) {s : State}
    (hs : P s) : P (createActive x k l s) := by
  have hcreate : ∀ t, P t → P (createActiveIn x k l t) := fun t ht =>
    conditioned_tellChange h _ _ _ (conditioned_activeEffects h x k _ (h.addFault (newFault t x k .active 0 l) t hfree ht))
  unfold createActive makeRoom
  by_cases hroom : s.freeFaultSlot.isSome = true
  · simp only [if_pos hroom]
    exact hcreate s hs
  · simp only [if_neg hroom]
    cases hold : s.oldestSuspect with
    | none => exact h.setFaultFull true s hs
    | some r =>
      obtain ⟨hmem, hsuspect⟩ := oldestSuspect_mem hold
      exact hcreate _ (conditioned_removeFault h hmem (.inr hsuspect) hs)

theorem conditioned_judgeKind {d : Dock} {k : FaultKind} (hfree : free (.dock d) k) (n : Nat) (present : Bool)
    {s : State} (hs : P s) : P (judgeKind d k n present s) := by
  cases hr : s.findFault (.dock d) k with
  | none =>
    rw [judgeKind_none hr]
    split
    · exact conditioned_createSuspect h hfree 1 [] hs
    · exact hs
  | some r =>
    obtain ⟨hmem, hsubject, hkind⟩ := mem_of_findFault hr
    have hown : s.findFault r.subject r.kind = some r := by rw [hsubject, hkind, hr]
    have hfree' : free r.subject r.kind := by rw [hsubject, hkind]; exact hfree
    have hconfirm := conditioned_confirmFault h hown rfl hfree' hs
    have hretire := conditioned_retireFault h hmem hfree' hs
    have hcount := fun f => h.setFault r f s hown hfree' hs
    simp only [judgeKind, hr]
    repeat' split
    · exact hconfirm
    · exact hcount _
    · exact hretire
    · exact hs
    · exact hconfirm
    · exact hretire
    · exact hcount _

theorem conditioned_riderReport {b : Bike} (hfree : free (.bike b) .riderReport) (c : CardNo) {s : State}
    (hs : P s) : P (riderReport b c s) := by
  cases hr : s.findFault (.bike b) .riderReport with
  | none =>
    rw [riderReport_new hr]
    split
    · exact conditioned_createActive h hfree _ hs
    · exact conditioned_createSuspect h hfree _ _ hs
  | some r =>
    obtain ⟨-, hsubject, hkind⟩ := mem_of_findFault hr
    have hown : s.findFault r.subject r.kind = some r := by rw [hsubject, hkind, hr]
    have hfree' : free r.subject r.kind := by rw [hsubject, hkind]; exact hfree
    have hjoined := h.setFault r (fun x => { x with reporters := withReporter c r.reporters }) s hown hfree' hs
    rw [riderReport_again hr]
    dsimp only
    split
    · exact conditioned_confirmFault h (r' := { r with reporters := withReporter c r.reporters })
        (findFault_setFault hown _) rfl hfree' hjoined
    · exact hjoined

/-- A sensed set, where the dock's other kinds and riders' reports are free and its forced removal keeps the
property. -/
theorem conditioned_sensedSet {d : Dock} (hkinds : ∀ k, k ≠ .forcedRemoval → free (.dock d) k)
    (hbikes : ∀ b, free (.bike b) .riderReport)
    (hforced : ∀ s, P s → P (judgeKind d .forcedRemoval 4 false s)) (x : SensedSet) {s : State} (hs : P s) :
    P (sensedSet d x s) := by
  have hjudged : ∀ (l : List (FaultKind × Nat × Bool)),
      (∀ p ∈ l, p.1 ≠ .forcedRemoval ∨ p = (.forcedRemoval, 4, false)) → ∀ s, P s → P (judgeAll d l s) := by
    intro l
    induction l with
    | nil => exact fun _ _ hs => hs
    | cons p l ih =>
      intro hl s hs
      obtain ⟨hp, hl⟩ := List.forall_mem_cons.1 hl
      refine ih hl _ ?_
      rcases hp with hp | rfl
      · exact conditioned_judgeKind h (hkinds _ hp) _ _ hs
      · exact hforced s hs
  have hsensed : P (s.sensed d x) := by
    refine h.setFaultDock _ _ _ (hjudged _ (fun p hp => ?_) s hs)
    simp only [sensedKinds, List.mem_cons, List.not_mem_nil, or_false] at hp
    rcases hp with rfl | rfl | rfl | rfl | rfl
    · exact .inl nofun
    · exact .inl nofun
    · exact .inl nofun
    · exact .inl nofun
    · exact .inr rfl
  rw [sensedSet_eq]
  split
  · unfold pressButton
    repeat' split
    · exact hsensed
    · exact conditioned_riderReport h (hbikes _) _ hsensed
    · exact h.setFaultDock _ _ _ hsensed
  · exact hsensed

end

end Sys2Proof.Machine
end

section
/-! PROOFS. A departure from a dock: what the rest of the survey's answer leaves of the records and moves that the
Hire Unit has written (R29, R75, R79, R101, R138, R162, R167). -/

namespace Sys2Proof.Machine

open Sys2Proof

/-- What the answer of a survey does at a dock after the Hire Unit has taken the departure there. -/
structure AfterDeparture (d : Dock) (P : State → Prop) : Prop extends LampClosed P where
  setDock : ∀ (f : DockRecord → DockRecord) (s : State), P s → P (s.setDock d f)
  leave : ∀ s : State, P s → P (s.setDeferral d none)
  occupancy : ∀ s : State, P s → P (tellOccupancy d s)
  watch : ∀ s : State, P s → P (watchReport d none s)
  tapread : ∀ s : State, P s → P (placeDock d .tapread [] .dockMonitor s)
  sensed : ∀ (x : SensedSet) (s : State), P s → P (sensedSet d x s)

section

variable {P : State → Prop} {d : Dock} {s : State}

/-- The departure of R29 as the Hire Unit takes it, before the dock becomes EMPTY. -/
def State.departed (d : Dock) (s : State) : State :=
  if (s.dock d).occupancy = .releasing then releaseDeparture d s else occupiedDeparture d s

theorem answered_of_departed (h : AfterDeparture d P) {x : Byte} (hbike : hasBike x = false)
    (hocc : (s.dock d).occupancy = .occupied ∨ (s.dock d).occupancy = .releasing) (mark : Bool)
    (hs : P (s.departed d)) : P (surveyAnswer d x mark s) := by
  have hempty : P (emptyDock d (s.departed d)) :=
    h.occupancy _ (closed_selectLamp h.toLampClosed d _ (h.leave _ (h.setDock _ _ hs)))
  have hreceived : P (s.received d x mark) := by
    unfold State.received
    rw [hbike, presence_departs hocc]
    exact h.watch _ (h.setDock _ _ hempty)
  have hsurveyed : P (s.surveyed d x mark) := by
    unfold State.surveyed State.tapped
    split
    · exact h.tapread _ hreceived
    · exact hreceived
  rw [surveyAnswer_eq]
  exact closed_selectLamp h.toLampClosed d _ (h.sensed _ _ (h.setDock _ _ hsurveyed))

theorem afterDeparture_of_sensed (h : SensedClosed d P) (hleave : ∀ s, P s → P (s.setDeferral d none))
    (hwatch : ∀ s, P s → P (watchReport d none s)) : AfterDeparture d P where
  toLampClosed := h.toLampClosed
  setDock := h.setDock
  leave := hleave
  occupancy s hs := managed_tellOccupancy h.toManifestClosed d s hs
  watch := hwatch
  tapread s hs := sensed_placeDock h d .tapread [] .dockMonitor s hs
  sensed x _ hs := sensed_sensedSet h x hs

end

/-! ### Cards, trip records, tokens and contexts -/

theorem books_sensed (d : Dock) (F : List TripRecord → List CardEntry → Vector Token 3 →
    Vector (Option ReleaseContext) 30 → Vector (Option CancelContext) 30 → Prop) :
    SensedClosed d (fun t => F t.trips t.cards t.hire.tokens t.hire.releases t.hire.cancels) where
  lampDock _ _ _ _ h := h
  show_ _ _ s h := by rw [enqueue_trips, enqueue_cards, enqueue_hire]; exact h
  takeNext s h := by rw [takeNext_trips, takeNext_cards, takeNext_hire]; exact h
  setManifest _ _ _ h := h
  noteManifest _ h := h
  noteFollowOn _ h := h
  filterHire _ _ h := h
  addFault r s h := by rw [addFault_trips, addFault_cards, addFault_hire]; exact h
  setFault _ _ _ h := h
  filterFaults _ _ h := h
  setFaultFull _ _ h := h
  enqueue _ s h := by rw [enqueue_trips, enqueue_cards, enqueue_hire]; exact h
  setMark _ _ _ _ h := h
  mapMarks _ _ _ h := h
  masks _ _ _ h := h
  setFaultDock _ _ _ h := h
  setDock _ _ h := h

/-- The watch after REINIT writes trip records alone. -/
theorem watchReport_trips (d : Dock) (found : Option Bike) (s : State) :
    (watchReport d found s).cards = s.cards ∧ (watchReport d found s).hire = s.hire := by
  unfold watchReport
  split
  · refine closed_foldl (P := fun t => t.cards = s.cards ∧ t.hire = s.hire) (fun t r ht => ?_) _ s ⟨rfl, rfl⟩
    exact ht
  · exact ⟨rfl, rfl⟩

/-- What holds of the cards, the tokens and the contexts after a departure holds after the answer. -/
theorem answered_books {d : Dock} {s : State} (F : List CardEntry → Vector Token 3 →
    Vector (Option ReleaseContext) 30 → Vector (Option CancelContext) 30 → Prop) {x : Byte} (hbike : hasBike x = false)
    (hocc : (s.dock d).occupancy = .occupied ∨ (s.dock d).occupancy = .releasing) (mark : Bool)
    (hs : F (s.departed d).cards (s.departed d).hire.tokens (s.departed d).hire.releases (s.departed d).hire.cancels) :
    F (surveyAnswer d x mark s).cards (surveyAnswer d x mark s).hire.tokens (surveyAnswer d x mark s).hire.releases
      (surveyAnswer d x mark s).hire.cancels := by
  refine answered_of_departed (P := fun t => F t.cards t.hire.tokens t.hire.releases t.hire.cancels)
    (afterDeparture_of_sensed (books_sensed d fun _ => F) (fun _ h => h) fun t ht => ?_) hbike hocc mark hs
  obtain ⟨hcards, hhire⟩ := watchReport_trips d none t
  rw [hcards, hhire]
  exact ht

/-- A bicycle's record that is not CANCELLING lasts to the end of the answer. -/
theorem answered_trip {d : Dock} {s : State} {b : Bike} {x : Byte} (hbike : hasBike x = false)
    (hocc : (s.dock d).occupancy = .occupied ∨ (s.dock d).occupancy = .releasing) (mark : Bool)
    (hs : ∀ r ∈ (s.departed d).trips, r.bike = b → r.state ≠ .cancelling) :
    (surveyAnswer d x mark s).findTrip b = (s.departed d).findTrip b := by
  let settled : List TripRecord → Prop := fun l => ∀ r ∈ l, r.bike = b → r.state ≠ .cancelling
  refine (answered_of_departed (P := fun t => t.findTrip b = (s.departed d).findTrip b ∧ settled t.trips)
    (afterDeparture_of_sensed (books_sensed d fun l _ _ _ _ =>
      l.find? (fun r => decide (r.bike = b)) = (s.departed d).findTrip b ∧ settled l) (fun _ h => h) fun t ht => ?_)
    hbike hocc mark ⟨rfl, hs⟩).1
  refine ⟨(watchReport_findTrip ht.2 d none).trans ht.1, ?_⟩
  unfold watchReport
  split
  · refine closed_foldl (P := fun t => settled t.trips) (fun t r hsettled => ?_) _ t ht.2
    intro y hy hyb
    obtain ⟨z, hz, rfl⟩ := List.mem_map.1 hy
    split
    · exact nofun
    next hne =>
      rw [if_neg hne] at hyb
      exact hsettled z hz hyb
  · exact ht.2

/-! ### A move that is DONE -/

section

variable {i j : Nat} {z : Move} {d : Dock} {s : State}

theorem giveUp_other (hne : j ≠ i) (s : State) : (giveUp j s).move? i = s.move? i := by
  have hgiven : ((s.setMove j (fun m => { m with heldDock := none })).noteManifest).move? i = s.move? i := by
    rw [move?_of_manifest (noteManifest_manifest _), move?_setMove, if_neg hne]
  unfold giveUp
  dsimp only
  repeat' split
  · rw [move?_of_manifest (setReservation_manifest ..)]
    exact hgiven
  · exact hgiven
  · rfl
  · rfl

theorem migrate_other (hne : j ≠ i) (s : State) : (migrate j s).move? i = s.move? i := by
  unfold migrate takeDock
  dsimp only
  split
  · rw [move?_of_manifest (setReservation_manifest ..), move?_setMove, if_neg hne, move?_setMove, if_neg hne]
  · rw [move?_setMove, if_neg hne, move?_setMove, if_neg hne]

theorem shorten_other (hne : j ≠ i) (s : State) : (shorten j s).move? i = s.move? i := by
  unfold shorten
  rw [move?_setMove, if_neg hne, giveUp_other hne]

/-- Work on the first move with a property leaves a move without it. -/
theorem onMove_other {p : Move → Bool} {f : Nat → State → State} (hp : p z = false)
    (hf : ∀ j s, j ≠ i → (f j s).move? i = s.move? i) (hz : s.move? i = some z) :
    (onMove p f s).move? i = some z := by
  unfold onMove
  split
  next j hj =>
    refine (hf j s ?_).trans hz
    rintro rfl
    obtain ⟨a, ha, hmove⟩ := move?_eq_some_iff.1 hz
    simp only [State.moveIndex, State.moves, ha] at hj
    obtain ⟨hlt, hpj, -⟩ := List.findIdx?_eq_some_iff_getElem.1 hj
    rw [List.getElem?_eq_getElem hlt, Option.some.injEq] at hmove
    rw [hmove, hp] at hpj
    cases hpj
  next => exact hz

theorem done_not_landed (hz : z.state = .done) (d : Dock) : isLanded d z = false := by simp [isLanded, hz]

theorem done_not_reserved (hz : z.state = .done) (k : MoveKind) (d : Dock) : isReservedAt k d z = false := by
  simp [isReservedAt, hz]

theorem tellOccupancy_done (hz : z.state = .done) (d : Dock) (h : s.move? i = some z) :
    (tellOccupancy d s).move? i = some z := by
  unfold tellOccupancy
  dsimp only
  split
  · exact onMove_other (done_not_reserved hz _ d) (fun _ s hne => shorten_other hne s)
      (onMove_other (done_not_landed hz d) (fun _ s hne => migrate_other hne s) h)
  · exact h

theorem tellFault_done (hz : z.state = .done) (gained : Option Dock) (h : s.move? i = some z) :
    (tellFault gained s).move? i = some z := by
  unfold tellFault
  dsimp only
  repeat' split
  · exact onMove_other (done_not_reserved hz _ _) (fun _ s hne => shorten_other hne s)
      (onMove_other (done_not_reserved hz _ _) (fun _ s hne => (migrate_other hne _).trans (giveUp_other hne s)) h)
  · exact h
  · exact h

theorem move?_lamps (i : Nat) (o : Option Move) : LampClosed (fun t => t.move? i = o) where
  lampDock _ _ _ _ h := h
  show_ _ _ s h := (move?_of_manifest (enqueue_manifest s _) i).trans h
  takeNext s h := (move?_of_manifest (takeNext_manifest s) i).trans h

theorem done_conditions (hz : z.state = .done) (i : Nat) :
    ConditionClosed (fun _ _ => True) (fun t => t.move? i = some z) where
  toLampClosed := move?_lamps i _
  told gained _ h := tellFault_done hz gained h
  masks _ _ _ h := h
  enqueue r s h := (move?_of_manifest (enqueue_manifest s r) i).trans h
  setFaultDock _ _ _ h := h
  mapFaultDocks _ _ h := h
  setFaultFull _ _ h := h
  addFault r s _ h := (move?_of_manifest (addFault_manifest s r) i).trans h
  setFault _ _ _ _ _ h := h
  filterFaults _ _ _ _ h := h

/-- A move that is DONE after a departure is so, as it was left, after the answer. -/
theorem answered_done (hz : z.state = .done) {x : Byte} (hbike : hasBike x = false)
    (hocc : (s.dock d).occupancy = .occupied ∨ (s.dock d).occupancy = .releasing) (mark : Bool)
    (hs : (s.departed d).move? i = some z) : (surveyAnswer d x mark s).move? i = some z := by
  have hconditions := done_conditions hz i
  refine answered_of_departed (P := fun t => t.move? i = some z)
    { toLampClosed := move?_lamps i _, setDock := fun _ _ h => h, leave := fun _ h => h,
      occupancy := fun _ h => tellOccupancy_done hz d h,
      watch := fun t h => (move?_of_manifest ?_ i).trans h,
      tapread := fun t h => hconditions.takeNext _ (hconditions.enqueue _ t h),
      sensed := fun x _ h => conditioned_sensedSet hconditions (fun _ _ => trivial) (fun _ => trivial)
        (fun _ h => conditioned_judgeKind hconditions trivial 4 false h) x h } hbike hocc mark hs
  unfold watchReport
  split
  · refine closed_foldl (P := fun u => u.manifest = t.manifest) (fun u r hu => ?_) _ t rfl
    exact hu
  · rfl

end

/-! ### The forced removal of the dock (R139) -/

section

variable {d : Dock} {P : State → Prop}

/-- Every record but the forced removal of the dock. -/
def notForced (d : Dock) (x : Subject) (k : FaultKind) : Prop := ¬(x = .dock d ∧ k = .forcedRemoval)

/-- The forced removal of the dock is ACTIVE. -/
def State.forcedActive (d : Dock) (s : State) : Prop :=
  s.faultsOk ∧ ∃ f, s.findFault (.dock d) .forcedRemoval = some f ∧ f.state = .active

theorem records_work (h : ∀ s t : State, t.faults.records = s.faults.records → P s → P t)
    (hadd : ∀ (r : FaultRecord) (s : State), notForced d r.subject r.kind → P s → P (s.addFault r))
    (hset : ∀ (r : FaultRecord) (f : FaultRecord → FaultRecord) (s : State),
      s.findFault r.subject r.kind = some r → notForced d r.subject r.kind → P s → P (s.setFault r.slot f))
    (hfilter : ∀ (r : FaultRecord) (s : State), r ∈ s.faults.records →
      notForced d r.subject r.kind ∨ r.state = .suspect → P s →
      P (s.filterFaults (fun a => decide (a.slot ≠ r.slot)))) : ConditionClosed (notForced d) P where
  lampDock _ _ s _ := h s _ rfl
  show_ _ _ s := h s _ (by rw [enqueue_faults])
  takeNext s := h s _ (by rw [takeNext_faults])
  told g s := h s _ (managed_tellFault (records_managed _) g s rfl)
  masks _ _ s := h s _ rfl
  enqueue _ s := h s _ (by rw [enqueue_faults])
  setFaultDock _ _ s := h s _ rfl
  mapFaultDocks _ s := h s _ rfl
  setFaultFull _ s := h s _ rfl
  addFault := hadd
  setFault := hset
  filterFaults := hfilter

/-- What holds of the records after a departure, and through what a sensed set writes besides the forced removal, holds
after the answer. -/
theorem answered_records (h : ∀ s t : State, t.faults.records = s.faults.records → P s → P t)
    (hwork : ConditionClosed (notForced d) P) (hforced : ∀ s, P s → P (judgeKind d .forcedRemoval 4 false s))
    {s : State} {x : Byte} (hbike : hasBike x = false)
    (hocc : (s.dock d).occupancy = .occupied ∨ (s.dock d).occupancy = .releasing) (mark : Bool)
    (hs : P (s.departed d)) : P (surveyAnswer d x mark s) := by
  refine answered_of_departed
    { toLampClosed := hwork.toLampClosed, setDock := fun _ s => h s _ rfl, leave := fun s => h s _ rfl,
      occupancy := fun s => h s _ (managed_tellOccupancy (records_managed _) d s rfl),
      watch := fun s => h s _ ?_,
      tapread := fun t ht => hwork.takeNext _ (hwork.enqueue _ t ht),
      sensed := fun x _ hs => conditioned_sensedSet hwork (fun k hk he => hk he.2) (fun b he => nomatch he.1)
        hforced x hs } hbike hocc mark hs
  unfold watchReport
  split
  · refine closed_foldl (P := fun u => u.faults.records = s.faults.records) (fun u r hu => ?_) _ s rfl
    exact hu
  · rfl

theorem findFault_none_of_mem {s t : State} {x : Subject} {k : FaultKind} (hs : s.findFault x k = none)
    (h : ∀ r ∈ t.faults.records, r.subject = x ∧ r.kind = k → ∃ y ∈ s.faults.records, y.subject = x ∧ y.kind = k) :
    t.findFault x k = none :=
  findFault_eq_none_iff.2 fun r hr hkey =>
    let ⟨y, hy, hykey⟩ := h r hr hkey
    findFault_eq_none_iff.1 hs y hy hykey

theorem unforced_work (d : Dock) :
    ConditionClosed (notForced d) (fun t => t.findFault (.dock d) .forcedRemoval = none) := by
  refine records_work (fun s t hrecords hs => (findFault_of_records hrecords _ _).trans hs)
    (fun r s hfree hs => findFault_none_of_mem hs fun y hy hkey => ?_)
    (fun r f s _ _ hs => findFault_none_of_mem hs fun y hy hkey => ?_)
    (fun r s _ _ hs => findFault_none_of_mem hs fun y hy hkey => ⟨y, (List.mem_filter.1 hy).1, hkey⟩)
  · unfold State.addFault at hy
    repeat' split at hy
    · exact ⟨y, hy, hkey⟩
    · rcases (mem_insertFault _ _ _).1 hy with rfl | hy
      · exact absurd hkey hfree
      · exact ⟨y, hy, hkey⟩
    · exact ⟨y, hy, hkey⟩
  · obtain ⟨a, ha, rfl⟩ := List.mem_map.1 hy
    refine ⟨a, ha, ?_⟩
    split at hkey <;> exact hkey

theorem forcedActive_of_writes {s t : State} {x : Subject} {k : FaultKind} (hfree : notForced d x k)
    (h : FaultWrites x k s t) (hs : s.forcedActive d) : t.forcedActive d := by
  obtain ⟨-, f, hf, hactive⟩ := hs
  exact ⟨h.ok, f, (h.others _ _ fun he => hfree ⟨he.1.symm, he.2.symm⟩).trans hf, hactive⟩

theorem addFault_held {s : State} {r : FaultRecord}
    (h : s.freeFaultSlot = none ∨ (s.findFault r.subject r.kind).isSome = true) : s.addFault r = s := by
  unfold State.addFault
  split
  next i hi => exact if_pos (h.resolve_left (by rw [hi]; nofun))
  next => rfl

theorem forcedActive_work (d : Dock) : ConditionClosed (notForced d) (State.forcedActive d) := by
  refine records_work (fun s t hrecords hs => ?_) (fun r s hfree hs => ?_)
    (fun r f s hr hfree hs => forcedActive_of_writes hfree (setFault_writes hs.1 hr f).1 hs)
    (fun r s hr hfree hs => ?_)
  · obtain ⟨hok, f, hf, hactive⟩ := hs
    exact ⟨by unfold State.faultsOk; rw [hrecords]; exact hok, f, (findFault_of_records hrecords _ _).trans hf, hactive⟩
  · by_cases hroom : s.freeFaultSlot.isSome = true ∧ s.findFault r.subject r.kind = none
    · exact forcedActive_of_writes hfree (addFault_writes hs.1 hroom.2 hroom.1) hs
    · rw [addFault_held]
      · exact hs
      · by_contra hheld
        exact hroom (by simpa [Option.ne_none_iff_isSome] using hheld)
  · have hfound := (findFault_eq_some_iff hs.1).2 ⟨hr, rfl, rfl⟩
    refine forcedActive_of_writes ?_ (filterFaults_writes hs.1 hfound).1 hs
    rcases hfree with hfree | hsuspect
    · exact hfree
    · rintro ⟨hsubject, hkind⟩
      obtain ⟨-, f, hf, hactive⟩ := hs
      rw [hsubject, hkind, hf, Option.some.injEq] at hfound
      rw [hfound, hsuspect] at hactive
      cases hactive

/-- A forced removal that has not been raised is not raised by the rest of the answer. -/
theorem answered_unforced {s : State} {x : Byte} (hbike : hasBike x = false)
    (hocc : (s.dock d).occupancy = .occupied ∨ (s.dock d).occupancy = .releasing) (mark : Bool)
    (hs : (s.departed d).findFault (.dock d) .forcedRemoval = none) :
    (surveyAnswer d x mark s).findFault (.dock d) .forcedRemoval = none := by
  refine answered_records (P := fun t => t.findFault (.dock d) .forcedRemoval = none)
    (fun s t hrecords hs => (findFault_of_records hrecords _ _).trans hs) (unforced_work d) (fun t ht => ?_) hbike hocc
    mark hs
  rw [judgeKind_none ht, if_neg fun h => h.2 rfl]
  exact ht

/-- A forced removal that is ACTIVE stays ACTIVE to the end of the answer. -/
theorem answered_forced {s : State} {x : Byte} (hbike : hasBike x = false)
    (hocc : (s.dock d).occupancy = .occupied ∨ (s.dock d).occupancy = .releasing) (mark : Bool)
    (hs : (s.departed d).forcedActive d) : (surveyAnswer d x mark s).forcedActive d := by
  refine answered_records (fun s t hrecords hs => ?_) (forcedActive_work d) (fun t ht => ?_) hbike hocc mark hs
  · obtain ⟨hok, f, hf, hactive⟩ := hs
    exact ⟨by unfold State.faultsOk; rw [hrecords]; exact hok, f, (findFault_of_records hrecords _ _).trans hf, hactive⟩
  · have ⟨_, f, hf, hactive⟩ := ht
    simp only [judgeKind, hf, hactive]
    exact ht

end

end Sys2Proof.Machine
end

section
/-! PROOFS. The end of a pull window: a release that is cancelled or left OVERDUE, and the calls of a cancelled one
(R76 to R78). -/

namespace Sys2Proof.Machine

open Sys2Proof

/-! ### A release that is cancelled (R77) -/

section

variable {s : State} {d : Dock} {x : ReleaseContext}

/-- The member's record, made CANCELLING as its release is given back. -/
def cancelTrip (x : ReleaseContext) (s : State) : State :=
  s.moveTrip x.bike (fun r => { r with state := .cancelling })

/-- The state of a cancelled release before its context is replaced. -/
def State.returned (d : Dock) (x : ReleaseContext) (s : State) : State :=
  (giveBack d x (cancelTrip x) (undoCalls d x.bike s)).reoccupied d

theorem cancelRelease_returned (d : Dock) (x : ReleaseContext) (s : State) : cancelRelease d x s =
    ((s.returned d x).setRelease d none).setCancel d (some
      { kind := x.kind, bike := x.bike, card := x.card, start := x.start, relockDone := false,
        unstampDone := false }) := rfl

theorem undoCalls_writes (d : Dock) (b : Bike) (s : State) : ∃ p q r, undoCalls d b s =
    { s with string := p, docks := q, agenda := r } := by
  unfold undoCalls
  rw [placeDock_only d .unstamp, placeDock_only d .relock]
  exact ⟨_, _, _, rfl⟩

theorem cancelRelease_flash (d : Dock) (x : ReleaseContext) (s : State) :
    ((cancelRelease d x s).dock d).flash = some { code := 3, remaining := 3000 } := by
  have hframe : ∀ (t : State) y z, ((t.setRelease d y).setCancel d z).dock d = t.dock d := fun _ _ _ => rfl
  rw [cancelRelease_returned, hframe]
  exact reoccupied_flash d _

theorem cancelRelease_context (d : Dock) (x : ReleaseContext) (s : State) : (cancelRelease d x s).cancel d = some
    { kind := x.kind, bike := x.bike, card := x.card, start := x.start, relockDone := false, unstampDone := false } := by
  rw [cancelRelease_returned, setCancel_cancel, if_pos rfl]

/-- What holds once the RELOCK and the UNSTAMP are queued holds of the cancelled release. -/
theorem cancelRelease_of_calls {P : State → Prop} (h : Closed P) (hs : P (undoCalls d x.bike s)) :
    P (cancelRelease d x s) := by
  have hstay := stay_of_closed (d := d) h
  have hgiven := tripped_giveBack hstay.toTripClosed (g := cancelTrip x)
    (fun s hs => tripped_moveTrip hstay.toTripClosed _ _ s hs) d x _ hs
  exact h.setCancel d _ _ (h.setRelease d none _
    (closed_showRefusal h.toLampClosed 3 d _ (closed_setOccupancy h d .occupied _ hgiven)))

/-- The calls that undo a release wait, where the queue has room for both or SURVEYs or SHOWs to give up. -/
theorem cancelRelease_awaits (h : s.callsAtMost 38) {v : Verb} (hv : v = .relock ∨ v = .unstamp) :
    (cancelRelease d x s).awaits d v (.hireUnit x.bike) := by
  rcases hv with rfl | rfl
  · exact cancelRelease_of_calls (awaits_closed (by decide) d _) (closed_placeDock (awaits_closed (by decide) d _).toCalmClosed
      _ _ _ _ _ (placeDock_awaits (by decide) (callsAtMost_mono (by decide) h) _ _))
  · exact cancelRelease_of_calls (awaits_closed (by decide) d _)
      (placeDock_awaits (by decide) (callsAtMost_placeDock h d _ _ _) _ _)

/-- A cancelled release gives the member's card, or the crew's move, back. -/
theorem cancelRelease_gives_back (d : Dock) (x : ReleaseContext) (s : State) :
    (x.kind = .member → ∀ r, s.findTrip x.bike = some r → r.state = .releasing → r.stamp.start = x.start →
      (cancelRelease d x s).trips =
        s.trips.map (fun y => if y.bike = x.bike then { y with state := .cancelling } else y) ∧
      (∀ e, s.findCard x.card = some e → e.link = some (x.bike, x.start) →
        (e.activity = .pending ∨ e.activity = .riding) →
        (cancelRelease d x s).findCard x.card = some { e with
          link := none, activity := if e.cls = .guest ∧ s.passed e = true then .settling else .idle })) ∧
    (∀ m n a y, x.kind = .crew m n → s.manifest.active = some a → a.header.number = n → a.moves[m]? = some y →
      ∃ a', (cancelRelease d x s).manifest.active = some a' ∧ a'.moves[m]? = some { y with state := .reserved }) := by
  obtain ⟨p, q, r, hcalls⟩ := undoCalls_writes d x.bike s
  obtain ⟨q', f, l, c, a, hre⟩ := reoccupied_selects d (giveBack d x (cancelTrip x) (undoCalls d x.bike s))
  rw [cancelRelease_returned, State.returned, hre, hcalls]
  refine ⟨fun hk t ht hstate hstart => ?_, fun m n a y hk ha hn hy => ?_⟩
  · exact giveBack_member_frees (s := { s with string := p, docks := q, agenda := r }) (d := d) (g := cancelTrip x) hk
      ht hstate hstart rfl rfl
  · exact move?_eq_some_iff.1
      (giveBack_crew_returns (s := { s with string := p, docks := q, agenda := r }) hk ha hn hy)

theorem cancelRelease_settings (d : Dock) (x : ReleaseContext) (s : State) :
    let u := cancelRelease d x s
    u.settings = s.settings ∧ u.clock = s.clock ∧ u.supply = s.supply ∧ u.fare = s.fare ∧ u.port = s.port := by
  obtain ⟨hsettings, hclock, hsupply, hfare, hport, -, -⟩ := closed_cancelRelease (outside_closed s).toClosed d x s
    ⟨rfl, rfl, rfl, rfl, rfl, rfl, rfl⟩
  exact ⟨hsettings, hclock, hsupply, hfare, hport⟩

end

/-! ### The end of a pull window (R76) -/

section

variable {s : State} {d : Dock} {x : ReleaseContext} {ms : Nat}

theorem pullWindow_event (s : State) (d : Dock) :
    exec (.pullWindowExpiry (d.val + 1)) s = .next (finishEvent (pullWindowEnd d s)) := by
  rw [exec_pullWindowExpiry, dockEvent, dockOfNumber_dockNumber]

theorem pullWindowEnd_waiting (hx : s.release d = some x) (hphase : x.phase = .waiting ms) : pullWindowEnd d s =
    if x.seenPresent = true ∧ s.contact d = .reachable then cancelRelease d x s
    else s.setRelease d (some { x with phase := .overdue }) := by
  simp only [pullWindowEnd, hx, hphase]

theorem pullWindowEnd_idle (h : ∀ x ms, s.release d = some x → x.phase ≠ .waiting ms) : pullWindowEnd d s = s := by
  unfold pullWindowEnd
  split
  next => rfl
  next x hx =>
    cases hphase : x.phase with
    | waiting ms => exact absurd hphase (h x ms hx)
    | stamping | opening | overdue => rfl

end

/-! ### The calls of a cancel context (R78) -/

section

variable {s : State} {d : Dock} {y : CancelContext}

theorem cancelFlag_found (hy : s.cancel d = some y) (f : CancelContext → CancelContext) :
    cancelFlag d y.bike f s =
      s.setCancel d (if (f y).relockDone && (f y).unstampDone then none else some (f y)) := by
  simp only [cancelFlag, hy, if_true]

theorem relockEnd_good (hy : s.cancel d = some y) : relockEnd d y.bike true s =
    s.setCancel d (if y.unstampDone then none else some { y with relockDone := true }) := cancelFlag_found hy _

/-- The UNSTAMP clears the dock's stamp and retires the CANCELLING record before its flag is set. -/
def State.unstamped (d : Dock) (b : Bike) (s : State) : State := retireCancelled d b (reportUnstamped d b s)

theorem retireCancelled_writes (d : Dock) (b : Bike) (s : State) :
    ∃ l a, retireCancelled d b s = { s with trips := l, agenda := a } := by
  unfold retireCancelled
  repeat' split
  · exact ⟨_, _, rfl⟩
  · exact ⟨_, _, rfl⟩
  · exact ⟨_, _, rfl⟩

theorem hireUnstampEnd_good (hy : s.cancel d = some y) : hireUnstampEnd d y.bike true s =
    (s.unstamped d y.bike).setCancel d (if y.relockDone then none else some { y with unstampDone := true }) := by
  have hkept : (s.unstamped d y.bike).cancel d = some y := by
    obtain ⟨q, f, l, c, a, hreport⟩ := reportStamped_selects d y.bike .none s
    obtain ⟨t, a', hretired⟩ := retireCancelled_writes d y.bike (reportStamped d y.bike .none s)
    rw [State.unstamped, reportUnstamped, hretired, hreport]
    exact hy
  have hflag := cancelFlag_found hkept (fun x => { x with unstampDone := true })
  simp only [Bool.and_true] at hflag
  exact hflag

theorem unstamped_stamp (hb : (s.dock d).bike = some y.bike) : ((s.unstamped d y.bike).dock d).stampSeen = .none := by
  obtain ⟨t, a', hretired⟩ := retireCancelled_writes d y.bike (reportStamped d y.bike .none s)
  have hknown := reportStamped_own_known (k := .none) hb
  rw [State.unstamped, reportUnstamped, hretired]
  exact (congrArg DockRecord.stampSeen hknown :)

theorem retireCancelled_trips (hy : s.cancel d = some y) : (retireCancelled d y.bike s).trips =
    if y.kind = .member ∧ s.tripIn y.bike y.start isCancelling = true then
      s.trips.filter (fun z => decide (z.bike ≠ y.bike))
    else s.trips := by
  simp only [retireCancelled, hy, true_and]
  exact apply_ite State.trips _ _ _

theorem unstamped_trips (hy : s.cancel d = some y) : (s.unstamped d y.bike).trips =
    if y.kind = .member ∧ s.tripIn y.bike y.start isCancelling = true then
      s.trips.filter (fun z => decide (z.bike ≠ y.bike))
    else s.trips := by
  obtain ⟨q, f, l, c, a, hreport⟩ := reportStamped_selects d y.bike .none s
  rw [State.unstamped, reportUnstamped, hreport]
  exact retireCancelled_trips hy

theorem tripIn_iff {b : Bike} {start : Time} {p : TripState → Bool} :
    s.tripIn b start p = true ↔ ∃ r, s.findTrip b = some r ∧ r.stamp.start = start ∧ p r.state = true := by
  unfold State.tripIn
  split
  next r hr => simp [hr]
  next hr => simp [hr]

/-! ### The look of the seconds tick at a cancel context (R78) -/

theorem queuedFor_eq_false_iff {v : Verb} : s.queuedFor d v = false ↔
    ∀ q ∈ s.string.queue, q.target = .node (dockNode d) → q.verb ≠ v := by
  simp [State.queuedFor]

/-- The request that is queued again where its call has not ended GOOD and none is queued. -/
def callAgain (d : Dock) (b : Bike) (q : List QueueEntry) (done : Bool) (v : Verb) : List QueueEntry :=
  if done = false ∧ ∀ e ∈ q, e.target = .node (dockNode d) → e.verb ≠ v then
    [request (dockNode d) v [] (.hireUnit b)]
  else []

theorem callAgain_length (d : Dock) (b : Bike) (q : List QueueEntry) (done : Bool) (v : Verb) :
    (callAgain d b q done v).length ≤ 1 := by
  unfold callAgain
  split
  · exact Nat.le_refl 1
  · exact Nat.zero_le 1

/-- A request for another verb does not count. -/
theorem callAgain_append (d : Dock) (b : Bike) (q : List QueueEntry) {v w : Verb} (hne : w ≠ v) (done other : Bool) :
    callAgain d b (q ++ callAgain d b q other w) done v = callAgain d b q done v := by
  have hverb : ∀ e ∈ callAgain d b q other w, e.verb ≠ v := fun e he => by
    unfold callAgain at he
    split at he
    · rw [List.mem_singleton.1 he]
      exact hne
    · cases he
  have hsame : (∀ e ∈ q ++ callAgain d b q other w, e.target = .node (dockNode d) → e.verb ≠ v) ↔
      ∀ e ∈ q, e.target = .node (dockNode d) → e.verb ≠ v :=
    ⟨fun h e he => h e (List.mem_append_left _ he),
      fun h e he => (List.mem_append.1 he).elim (h e) fun he _ => hverb e he⟩
  exact if_congr (and_congr_right fun _ => hsame) rfl rfl

/-- With the string in use and room in the queue, a request is queued again behind the others. -/
theorem callAgain_joins (hflight : s.string.flight.isSome = true) (hroom : s.string.queue.length < 40) (b : Bike)
    (done : Bool) (v : Verb) :
    (if done = false ∧ s.queuedFor d v = false then placeDock d v [] (.hireUnit b) s else s) =
      s.setQueue (s.string.queue ++ callAgain d b s.string.queue done v) := by
  simp only [queuedFor_eq_false_iff, callAgain]
  split
  next h =>
    have hnew := not_sameKey_of (r := request (dockNode d) v [] (.hireUnit b)) fun q hq hkey => h.2 q hq hkey.1 hkey.2
    rw [placeDock, place, takeNext_in_use (by rw [enqueue_flight]; exact hflight), enqueue_append hnew hroom]
  next => rw [List.append_nil]; rfl

theorem cancelTick_lost (hy : s.cancel d = some y) (h : (s.link (dockNode d)).contact = .lost) :
    cancelTick d s = s := by
  simp only [cancelTick, hy, State.contact, h, if_true]

theorem cancelTick_joins (hy : s.cancel d = some y) (hlost : (s.link (dockNode d)).contact ≠ .lost)
    (hflight : s.string.flight.isSome = true) (hroom : s.string.queue.length ≤ 38) : cancelTick d s =
    s.setQueue (s.string.queue ++ callAgain d y.bike s.string.queue y.relockDone .relock ++
      callAgain d y.bike s.string.queue y.unstampDone .unstamp) := by
  have hshort := callAgain_length d y.bike s.string.queue y.relockDone .relock
  let t := s.setQueue (s.string.queue ++ callAgain d y.bike s.string.queue y.relockDone .relock)
  have hroom' : t.string.queue.length < 40 := by
    change (s.string.queue ++ callAgain d y.bike s.string.queue y.relockDone .relock).length < 40
    rw [List.length_append]
    omega
  simp only [cancelTick, hy, State.contact, hlost, if_false]
  rw [callAgain_joins hflight (by omega) y.bike y.relockDone .relock,
    callAgain_joins (s := t) hflight hroom' y.bike y.unstampDone .unstamp]
  exact congrArg (fun l => s.setQueue (s.string.queue ++ callAgain d y.bike s.string.queue y.relockDone .relock ++ l))
    (callAgain_append d y.bike s.string.queue (by decide) y.unstampDone y.relockDone)

end

end Sys2Proof.Machine
end

section
/-! PROOFS. A bicycle that leaves a RELEASING dock, or an OCCUPIED one after its release was cancelled (R75, R79). -/

namespace Sys2Proof.Machine

open Sys2Proof

/-! ### A departure from a RELEASING dock (R75) -/

section

variable {s : State} {d : Dock} {x : ReleaseContext}

theorem departed_releasing (hocc : (s.dock d).occupancy = .releasing) (hx : s.release d = some x) : s.departed d =
    if x.phase = .stamping then abandonRelease d x s else pullRelease d x s := by
  simp only [State.departed, hocc, if_true, releaseDeparture, hx]
  cases x.phase <;> simp

/-- A forced removal leaves cards, trip records, tokens and contexts. -/
theorem forcedRemoval_books (d : Dock) (s : State) : (forcedRemoval d s).trips = s.trips ∧
    (forcedRemoval d s).cards = s.cards ∧ (forcedRemoval d s).hire.tokens = s.hire.tokens := by
  have hbooks := books_sensed d fun l c t _ _ => l = s.trips ∧ c = s.cards ∧ t = s.hire.tokens
  exact faulted_forcedRemoval hbooks.toFaultClosed d (.inr hbooks.masks) ⟨rfl, rfl, rfl⟩

theorem tokens_stay (d : Dock) (v : Vector Token 3) : StayClosed d (fun t => t.hire.tokens = v) where
  toManifestClosed := (books_sensed d fun _ _ t _ _ => t = v).toManifestClosed
  setCard _ _ _ h := h
  setTrip _ _ _ h := h
  filterTrips _ _ h := h
  noteTrips _ h := h
  setRelease _ _ _ h := h
  setCancel _ _ _ h := h
  setDock _ _ h := h

/-- The context goes and every token stays. -/
theorem departed_contexts (hocc : (s.dock d).occupancy = .releasing) (hx : s.release d = some x) :
    (s.departed d).hire.releases.get d = none ∧ (s.departed d).hire.tokens = s.hire.tokens := by
  have htokens : (releaseDeparture d s).hire.tokens = s.hire.tokens :=
    releaseDeparture_kept (tokens_stay d _) (tokens_stay d _) (fun _ h => h)
      (fun t ht => (forcedRemoval_books d t).2.2.trans ht) rfl
  refine ⟨?_, ?_⟩
  · rw [departed_releasing hocc hx]
    split
    · exact (setRelease_release _ d d none).trans (if_pos rfl)
    · exact (setRelease_release _ d d none).trans (if_pos rfl)
  · rw [State.departed, if_pos hocc]
    exact htokens

section

variable {r : TripRecord} (hk : x.kind = .member) (hr : s.findTrip x.bike = some r) (hstate : r.state = .releasing)
  (hstart : r.stamp.start = x.start)

include hk hr hstate hstart

theorem pullRelease_member : pullRelease d x s =
    (cardPulled x.card (tripOut x.bike (decide (x.phase = .overdue)) s)).setRelease d none := by
  have hin : s.tripIn x.bike x.start isReleasing = true := by
    rw [tripIn_found hr hstart, hstate]
    rfl
  simp only [pullRelease, hk, hin, if_true]

theorem pullRelease_trip : (pullRelease d x s).findTrip x.bike = some
      { r with state := .out, latePull := r.latePull || decide (x.phase = .overdue) } ∧
    ∀ y ∈ (pullRelease d x s).trips, y.bike = x.bike → y.state ≠ .cancelling := by
  obtain ⟨-, hbike⟩ := bike_of_findTrip hr
  rw [pullRelease_member hk hr hstate hstart]
  refine ⟨(findTrip_setTrip_own hr _).trans (by rw [← hbike]), fun y hy hyb => ?_⟩
  obtain ⟨z, -, rfl⟩ := List.mem_map.1 hy
  split
  · exact nofun
  next hne =>
    rw [if_neg hne] at hyb
    exact absurd hyb hne

theorem pullRelease_card {e : CardEntry} (he : s.findCard x.card = some e) (hpending : e.activity = .pending) :
    (pullRelease d x s).findCard x.card = some { e with activity := .riding } := by
  rw [pullRelease_member hk hr hstate hstart]
  refine (findCard_setCard_own (s := tripOut x.bike _ s) he _).trans ?_
  simp only [hpending, if_true]

theorem abandonRelease_trip : (abandonRelease d x s).findTrip x.bike = none := by
  obtain ⟨htrips, -, -⟩ := forcedRemoval_books d (giveBack d x (fun s => s.dropTrip x.bike) s)
  obtain ⟨hgiven, -⟩ := giveBack_member_frees (d := d) (g := fun s => s.dropTrip x.bike) hk hr hstate hstart rfl rfl
  rw [abandonRelease_eq]
  exact (findTrip_of_trips (htrips.trans hgiven) x.bike).trans (findTrip_dropTrip x.bike s)

theorem abandonRelease_card {e : CardEntry} (he : s.findCard x.card = some e)
    (hlink : e.link = some (x.bike, x.start)) (h : e.activity = .pending ∨ e.activity = .riding) :
    (abandonRelease d x s).findCard x.card = some { e with
      link := none, activity := if e.cls = .guest ∧ s.passed e = true then .settling else .idle } := by
  obtain ⟨-, hcards, -⟩ := forcedRemoval_books d (giveBack d x (fun s => s.dropTrip x.bike) s)
  obtain ⟨-, hfreed⟩ := giveBack_member_frees (d := d) (g := fun s => s.dropTrip x.bike) hk hr hstate hstart rfl rfl
  rw [abandonRelease_eq]
  exact (findCard_of_cards hcards x.card).trans (hfreed e he hlink h)

end

theorem not_cancelling_of_findTrip_none {b : Bike} (h : s.findTrip b = none) :
    ∀ y ∈ s.trips, y.bike = b → y.state ≠ .cancelling := fun y hy hyb => by
  have hnone := List.find?_eq_none.1 h y hy
  simp [hyb] at hnone

theorem pullRelease_crew {m n : Nat} {a : ActiveManifest} {y : Move} (hk : x.kind = .crew m n) (hheld : s.unheld)
    (ha : s.manifest.active = some a) (hn : a.header.number = n) (hy : a.moves[m]? = some y) :
    (pullRelease d x s).move? m = some (y.done d x.bike (decide (x.phase = .overdue))) := by
  simp only [pullRelease, hk]
  exact crewReport_taken hheld ha hn hy _

theorem abandonRelease_forced (hs : s.faultsOk) (hnone : s.findFault (.dock d) .forcedRemoval = none)
    (hroom : s.freeFaultSlot.isSome = true) : (abandonRelease d x s).forcedActive d := by
  have hfaults : (giveBack d x (fun s => s.dropTrip x.bike) s).faults = s.faults :=
    giveBack_kept (P := fun t => t.faults = s.faults) (fun _ _ _ h => h) (fun _ _ _ h => h) (fun _ h => h)
      (fun _ h => h) rfl
  have hrecords := congrArg FaultTable.records hfaults
  have hnone' := (findFault_of_records hrecords (.dock d) .forcedRemoval).trans hnone
  obtain ⟨hwrites, hraised⟩ := forcedRemoval_writes (d := d)
    (by unfold State.faultsOk; rw [hrecords]; exact hs) (by rw [freeFaultSlot_of_records hrecords]; exact hroom)
  rw [abandonRelease_eq]
  exact ⟨hwrites.ok, hraised fun f hf => by rw [hnone'] at hf; cases hf⟩

end

/-! ### A cancelled release that is taken late (R79) -/

section

variable {s : State} {d : Dock} {b : Bike}

theorem dropCancelOf_writes (b : Bike) (s : State) :
    ∃ v, dropCancelOf b s = { s with hire := { s.hire with cancels := v } } := by
  refine closed_foldl (P := fun t => ∃ v, t = { s with hire := { s.hire with cancels := v } }) ?_ _ s ⟨_, rfl⟩
  rintro t e ⟨v, rfl⟩
  split
  · exact ⟨_, rfl⟩
  · exact ⟨v, rfl⟩

/-- Every cancel context that names the bicycle goes. -/
theorem dropCancelOf_gone (b : Bike) (s : State) (e : Dock) (y : CancelContext)
    (hy : (dropCancelOf b s).cancel e = some y) : y.bike ≠ b := by
  have hnames : (dropCancelOf b s).cancelNames e b = false := by
    have hfold : ∀ (l : List Dock) (u : State), e ∈ l ∨ u.cancelNames e b = false →
        (l.foldl (fun s d => if s.cancelNames d b then s.setCancel d none else s) u).cancelNames e b = false := by
      intro l
      induction l with
      | nil => exact fun u h => h.resolve_left (List.not_mem_nil)
      | cons c l ih =>
        intro u h
        refine ih _ ?_
        by_cases hce : c = e
        · subst hce
          right
          beta_reduce
          split
          · simp [State.cancelNames]
          · exact Bool.eq_false_iff.2 ‹_›
        · refine h.imp (fun hmem => (List.mem_cons.1 hmem).resolve_left (Ne.symm hce)) fun hnot => ?_
          beta_reduce
          split
          · unfold State.cancelNames
            rw [setCancel_cancel, if_neg hce]
            exact hnot
          · exact hnot
    exact hfold allDocks s (.inl (List.mem_finRange e))
  simpa [State.cancelNames, hy] using hnames

theorem departed_occupied (hocc : (s.dock d).occupancy = .occupied) (hb : (s.dock d).bike = some b) :
    s.departed d = match s.findTrip b with
      | some r => if r.state = .cancelling then latePullTrip r s else crewDeparture d b s
      | none => crewDeparture d b s := by
  simp only [State.departed, hocc, occupiedDeparture, hb, reduceCtorEq, if_false] <;> rfl

section

variable {r : TripRecord}

theorem departed_cancelling (hocc : (s.dock d).occupancy = .occupied) (hb : (s.dock d).bike = some b)
    (hr : s.findTrip b = some r) (hstate : r.state = .cancelling) : s.departed d = latePullTrip r s := by
  simp only [departed_occupied hocc hb, hr, hstate, if_true]

/-- The record's entry takes the trip on again (R49). -/
theorem latePullTrip_relinks {e : CardEntry} (he : s.findCard r.stamp.card = some e) (hidle : e.activity = .idle)
    (hlink : e.link = none) (hdock : e.queuedDock = none) : latePullTrip r s =
    dropCancelOf r.bike ((tripOut r.bike true s).setCard r.stamp.card
      (fun e => { e with activity := .riding, link := some (r.bike, r.stamp.start) })) := by
  have hfound : (tripOut r.bike true s).findCard r.stamp.card = some e := he
  simp only [latePullTrip, cardRelink, hfound, hidle, hlink, hdock, and_self, if_true]

/-- The card has moved on, or is held no longer: the record is ORPHAN. -/
theorem latePullTrip_orphans (h : ∀ e, s.findCard r.stamp.card = some e →
      ¬(e.activity = .idle ∧ e.link = none ∧ e.queuedDock = none)) : latePullTrip r s =
    dropCancelOf r.bike ((tripOut r.bike true s).setTrip r.bike (fun r => { r with orphan := true })) := by
  have hrelink : cardRelink r.stamp.card r.bike r.stamp.start (tripOut r.bike true s) =
      (tripOut r.bike true s, false) := by
    unfold cardRelink
    split
    next e he => exact if_neg (h e he)
    next => rfl
  simp only [latePullTrip, hrelink, Bool.false_eq_true, if_false]

theorem tripOut_found (hr : s.findTrip b = some r) :
    (tripOut b true s).findTrip b = some { r with state := .out, latePull := true } := by
  obtain ⟨-, rfl⟩ := bike_of_findTrip hr
  exact (findTrip_setTrip_own hr _).trans (by rw [Bool.or_true])

theorem tripOut_out (b : Bike) (late : Bool) (s : State) :
    ∀ y ∈ (tripOut b late s).trips, y.bike = b → y.state = .out := fun y hy hyb => by
  obtain ⟨z, -, rfl⟩ := List.mem_map.1 hy
  split
  · rfl
  next hne =>
    rw [if_neg hne] at hyb
    exact absurd hyb hne

theorem latePullTrip_unforced (r : TripRecord) (s : State) : (latePullTrip r s).faults = s.faults :=
  (tripped_latePullTrip (sameTables_stay ⟨0, by decide⟩ s).toTripClosed r s ⟨rfl, rfl⟩).1

end

theorem departed_crew_cancel {y : CancelContext} {m n : Nat} (hocc : (s.dock d).occupancy = .occupied)
    (hb : (s.dock d).bike = some b) (hr : ∀ r, s.findTrip b = some r → r.state ≠ .cancelling)
    (hy : s.cancel d = some y) (hyb : y.bike = b) (hk : y.kind = .crew m n) :
    s.departed d = dropCancelOf b (crewReport n m .takenAfterCancel d b s) := by
  have hcancel : s.crewCancel d b = some (d, m, n) := by
    have hat : s.crewCancelAt b d = some (d, m, n) := by simp only [State.crewCancelAt, hy, hk, hyb, if_true]
    simp only [State.crewCancel, List.findSome?_cons, hat]
  have hcrew : s.departed d = crewDeparture d b s := by
    rw [departed_occupied hocc hb]
    split
    next r hfound => exact if_neg (hr r hfound)
    next => rfl
  simp only [hcrew, crewDeparture, hcancel]

end

/-- Settles O50: the end of a pull window (`pullWindowEnd_waiting`), the calls of a cancel context, and what a departure
leaves of records, cards, moves and forced removals, carried to the end of the answer by `answered_of_departed`. -/
theorem pullWindowEnds : Obligations.PullWindowEnds := by
  unfold Obligations.PullWindowEnds
  refine ⟨fun s d => ⟨fun x ms hx hphase => ⟨fun hseen hcontact => ?_, fun hother => ?_⟩, fun hidle => ?_⟩,
    fun s d y hy => ⟨rfl, rfl, relockEnd_good hy, ?_, cancelTick_lost hy, fun hlost hflight hroom => ?_⟩,
    fun s d x c mark hocc hx hbike => ?_, fun s d b c mark hocc hb hbike => ⟨fun r _ hr hstate => ?_, ?_⟩⟩
  · have hend : exec (.pullWindowExpiry (d.val + 1)) s = .next (finishEvent (cancelRelease d x s)) := by
      rw [pullWindow_event, pullWindowEnd_waiting hx hphase, if_pos ⟨hseen, hcontact⟩]
    have hknown := cancelRelease_known d x s
    have hrelease := (cancelRelease_contexts d x s).1
    have hcancel := cancelRelease_context d x s
    have hflash := cancelRelease_flash d x s
    have hcalls := fun h => @cancelRelease_awaits s d x h
    obtain ⟨hmember, hcrew⟩ := cancelRelease_gives_back d x s
    have hsettings := cancelRelease_settings d x s
    generalize cancelRelease d x s = u at hend hknown hrelease hcancel hflash hcalls hmember hcrew hsettings
    exact ⟨u, hend, hrelease, hcancel, (congrArg DockRecord.occupancy hknown :), hflash,
      (congrArg DockRecord.bike hknown :), (congrArg DockRecord.stampSeen hknown :),
      fun hflight hroom v hv => (hcalls (callsAtMost_of_filter hflight hroom) (by simpa using hv)).2, hmember, hcrew,
      hsettings⟩
  · rw [pullWindow_event, pullWindowEnd_waiting hx hphase, if_neg]
    rintro ⟨hseen, hcontact⟩
    exact hother.elim (fun h => Bool.false_ne_true (h.symm.trans hseen)) (fun h => h hcontact)
  · rw [pullWindow_event, pullWindowEnd_idle hidle]
  · intro t
    have ht : t = _ := hireUnstampEnd_good hy
    have htrips : t.trips = _ := (congrArg State.trips ht).trans (unstamped_trips hy)
    refine ⟨?_, fun hb => ?_, fun r hk hr hstate hstart => ?_, fun hnone => ?_⟩
    · rw [ht, setCancel_cancel, if_pos rfl]
    · rw [ht]
      exact unstamped_stamp hb
    · rw [htrips, if_pos ⟨hk, tripIn_iff.2 ⟨r, hr, hstart, decide_eq_true hstate⟩⟩]
    · rw [htrips, if_neg]
      rintro ⟨hk, hin⟩
      obtain ⟨r, hr, hstart, hstate⟩ := tripIn_iff.1 hin
      exact hnone r hk hr (of_decide_eq_true hstate) hstart
  · exact cancelTick_joins hy hlost hflight hroom
  · intro t
    have hleft : hasBike c = false := hbike
    have hdeparted := departed_releasing hocc hx
    obtain ⟨hcontext, htokens⟩ := departed_contexts hocc hx
    have hgone := answered_books (fun _ t r _ => r.get d = none ∧ t = s.hire.tokens) hleft (.inr hocc) mark
      ⟨hcontext, htokens⟩
    have hcards : ∀ n o, (s.departed d).findCard n = o → t.findCard n = o := fun n o h =>
      answered_books (fun l _ _ _ => l.find? (fun e => decide (e.card = n)) = o) hleft (.inr hocc) mark h
    refine ⟨hgone.1, hgone.2, fun hk r _ hr hstate hstart => ⟨fun hphase => ?_, fun hphase => ?_⟩,
      fun m n a y hk hphase ha hn hy hheld => ?_, fun hphase hok hnone hroom => ?_⟩
    · rw [if_neg hphase] at hdeparted
      obtain ⟨hfound, hsettled⟩ := pullRelease_trip (d := d) hk hr hstate hstart
      rw [← hdeparted] at hfound hsettled
      refine ⟨(answered_trip hleft (.inr hocc) mark hsettled).trans hfound, fun e he hpending => hcards _ _ ?_⟩
      rw [hdeparted]
      exact pullRelease_card hk hr hstate hstart he hpending
    · rw [if_pos hphase] at hdeparted
      have hnone := abandonRelease_trip (d := d) hk hr hstate hstart
      rw [← hdeparted] at hnone
      refine ⟨(answered_trip hleft (.inr hocc) mark (not_cancelling_of_findTrip_none hnone)).trans hnone,
        fun e he hlink hactivity => hcards _ _ ?_⟩
      rw [hdeparted]
      exact abandonRelease_card hk hr hstate hstart he hlink hactivity
    · rw [if_neg hphase] at hdeparted
      refine move?_eq_some_iff.1 (answered_done rfl hleft (.inr hocc) mark ?_)
      rw [hdeparted]
      exact pullRelease_crew hk hheld ha hn hy
    · rw [if_pos hphase] at hdeparted
      refine (answered_forced hleft (.inr hocc) mark ?_).2
      rw [hdeparted]
      exact abandonRelease_forced hok hnone hroom
  · have hleft : hasBike c = false := hbike
    obtain ⟨-, rfl⟩ := bike_of_findTrip hr
    have hdeparted := departed_cancelling hocc hb hr hstate
    have hcancels : ∀ e y, (s.departed d).cancel e = some y → y.bike ≠ r.bike := by
      rw [hdeparted]
      exact fun e y hy => dropCancelOf_gone _ _ e y hy
    refine ⟨answered_books (fun _ _ _ v => ∀ e y, v.get e = some y → y.bike ≠ r.bike) hleft (.inl hocc) mark hcancels,
      fun hnone => answered_unforced hleft (.inl hocc) mark ?_, fun e he hidle hlink hdock => ?_, fun hmoved => ?_⟩
    · rw [hdeparted, findFault_of_faults (latePullTrip_unforced r s), hnone]
    · have hrelinked := hdeparted.trans (latePullTrip_relinks he hidle hlink hdock)
      obtain ⟨v, hdrop⟩ := dropCancelOf_writes r.bike ((tripOut r.bike true s).setCard r.stamp.card
        (fun e => { e with activity := .riding, link := some (r.bike, r.stamp.start) }))
      rw [hdrop] at hrelinked
      refine ⟨(answered_trip hleft (.inl hocc) mark ?_).trans ?_, answered_books
        (fun l _ _ _ => l.find? (fun e => decide (e.card = r.stamp.card)) = some _) hleft (.inl hocc) mark ?_⟩
      · rw [hrelinked]
        exact fun y hy hyb => by rw [tripOut_out r.bike true s y hy hyb]; decide
      · rw [hrelinked]
        exact tripOut_found hr
      · rw [hrelinked]
        exact findCard_setCard_own (s := tripOut r.bike true s) he _
    · have horphan := hdeparted.trans (latePullTrip_orphans hmoved)
      obtain ⟨v, hdrop⟩ := dropCancelOf_writes r.bike
        ((tripOut r.bike true s).setTrip r.bike (fun r => { r with orphan := true }))
      rw [hdrop] at horphan
      refine ⟨(answered_trip hleft (.inl hocc) mark ?_).trans ?_,
        answered_books (fun l _ _ _ => l = s.cards) hleft (.inl hocc) mark ?_⟩
      · rw [horphan]
        intro y hy hyb
        obtain ⟨z, hz, rfl⟩ := List.mem_map.1 hy
        have hout := tripOut_out r.bike true s z hz
        split at hyb <;> simp_all
      · rw [horphan]
        exact findTrip_setTrip_own (tripOut_found hr) _
      · rw [horphan]
        rfl
  · intro y m n a z hr hy hyb hk ha hn hz hstate hheldDock hheld
    have hleft : hasBike c = false := hbike
    have hdeparted := departed_crew_cancel hocc hb hr hy hyb hk
    refine ⟨answered_books (fun _ _ _ v => ∀ e w, v.get e = some w → w.bike ≠ b) hleft (.inl hocc) mark ?_,
      move?_eq_some_iff.1 (answered_done (z := z.done d b true) rfl hleft (.inl hocc) mark ?_)⟩
    · rw [hdeparted]
      exact fun e w hw => dropCancelOf_gone b _ e w hw
    · obtain ⟨v, hdrop⟩ := dropCancelOf_writes b (crewReport n m .takenAfterCancel d b s)
      rw [hdeparted, hdrop]
      exact crewReport_takenAfterCancel hheld ha hn hz hstate hheldDock

end Sys2Proof.Machine
end

section
/-! PROOFS. REMOTE_HIRE: the tap decision, the grant of a member request with the queue empty, and the requests that a
grant pass drops (R48, R64, R65, R67, R68, R70, R85). -/

namespace Sys2Proof.Machine

open Sys2Proof

/-! ### The checks of a tap (R64) -/

section

variable {s t : State} {e : CardEntry} {d : Dock}

theorem passed_iff (s : State) (e : CardEntry) : s.passed e = true ↔ ∃ v, e.validUntil = some v ∧
    s.clock.isSet = true ∧ 1 ≤ (s.clock.time - v).toNat ∧ (s.clock.time - v).toNat ≤ 2 ^ 31 - 1 := by
  unfold State.passed
  cases e.validUntil with
  | none => simp
  | some v =>
    simp only [Bool.and_eq_true, decide_eq_true_eq, Option.some.injEq, exists_eq_left', and_assoc]
    exact Iff.rfl

theorem holdTooLow_iff (s : State) (e : CardEntry) : s.holdTooLow e = true ↔
    ∃ g, e.guest = some g ∧ g.hold - g.captured < s.unlockFee e.plan := by
  unfold State.holdTooLow
  cases e.guest <;> simp

/-- Check 1 and 2 of R64 in the terms of the statements: the card itself refuses. -/
theorem barred_iff (s : State) (e : CardEntry) :
    (e.blocked = true ∨ (∃ v, e.validUntil = some v ∧ s.clock.isSet = true ∧ 1 ≤ (s.clock.time - v).toNat ∧
        (s.clock.time - v).toNat ≤ 2 ^ 31 - 1) ∨
      (∃ g, e.guest = some g ∧ g.hold - g.captured < s.unlockFee e.plan)) ↔
    (e.blocked = true ∨ s.passed e = true) ∨ s.holdTooLow e = true := by
  rw [← passed_iff, ← holdTooLow_iff, or_assoc]

theorem waitsFor_iff (s : State) (d : Dock) : s.hire.queue.any (fun q => decide (q.dock = d)) = true ↔
    ∃ q ∈ s.hire.queue, q.dock = d := by simp

theorem hireable_congr (hdock : (t.dock d).dark = (s.dock d).dark) (hcontact : t.contact d = s.contact d)
    (hsettings : t.settings = s.settings) (hfaults : t.faults = s.faults) : t.hireable d = s.hireable d := by
  unfold State.hireable State.closed State.dockFaulty dockFaultIn State.bikeFaultActive
  generalize t.dock d = a, s.dock d = b at hdock
  obtain ⟨⟩ := a
  obtain ⟨⟩ := b
  simp only [DockRecord.dark, DockRecord.mk.injEq] at hdock
  obtain ⟨rfl, rfl, rfl, rfl, -, -, -, rfl, -⟩ := hdock
  rw [hcontact, hsettings, hfaults]

/-- A tap whose every check passes (R64). -/
theorem tapCode_zero (h : tapCode e d s = 0) :
    (e.blocked = false ∧ s.passed e = false ∧ s.holdTooLow e = false) ∧
    (e.activity = .idle ∧ e.queuedDock = none) ∧ s.hireable d = true ∧
    s.hire.queue.length < 8 ∧ s.hire.queue.any (fun q => decide (q.dock = d)) = false := by
  unfold tapCode at h
  split_ifs at h with hbarred hhold hbusy hunready hsupply hdock hqueue
  simp only [not_or, Bool.not_eq_true, not_not, Option.isSome_eq_false_iff, Option.isNone_iff_eq_none,
    Bool.not_eq_false, not_le] at hbarred hhold hbusy hdock hqueue
  exact ⟨⟨hbarred.1, hbarred.2, hhold⟩, hbusy, hdock, hqueue⟩

end

/-! ### The command (R65) -/

section

variable {s : State} {card : CardNo} {n : Byte} {d : Dock} {e : CardEntry}

/-- REMOTE_HIRE as a change command of 6 argument bytes. -/
theorem changes_remoteHire {u : State} {x : Result} (hb : s.busy = false)
    (h : remoteHire card.toNat n.toNat (s.taking 6) = (x, { u with port := (s.taking 6).port })) :
    changes (.remoteHire (beBytes 5 card.toNat ++ [n])) 6 x u s := by
  refine changes_of _ 6 _ _ s u x (exec_remoteHire _ s) hb (by simp) ?_
  have hdock : field (beBytes 5 card.toNat ++ [n]) 5 1 = n.toNat := by
    rw [field_right _ _ _ _ (by simp), beBytes_length]
    exact field_zero n []
  simp only [field_first 5 _ _ card.isLt, hdock]
  exact h

theorem remoteHire_badArg (h : card = 0 ∨ n = 0 ∨ 30 < n.toNat) :
    remoteHire card.toNat n.toNat s = (.plain .badArg, s) := by
  unfold remoteHire
  split
  · rfl
  next c hc =>
    refine if_pos ?_
    have hn : ¬(n = 0 ∨ 30 < n.toNat) := by
      rintro (rfl | hn)
      · cases hc
      · rw [dockOfNumber, dif_neg fun hrange => Nat.not_lt.2 hrange.2 hn] at hc
        cases hc
    rw [h.resolve_right hn]
    rfl

theorem dockByte_toNat (d : Dock) : (byte (dockNumber d)).toNat = d.val + 1 := by
  rw [byte, BitVec.toNat_ofNat, dockNumber]
  omega

/-- The card and the dock are in range: the entry decides. -/
theorem remoteHire_at (hcard : card ≠ 0) (d : Dock) (s : State) :
    remoteHire card.toNat (byte (dockNumber d)).toNat s =
      match s.findCard card with
      | none => (.plain .notFound, s)
      | some e =>
        if e.cls = .crew then (.plain .state, s)
        else
          let x := decideTap e d (retireRefer e.card s)
          (.ok [byte x.2], x.1) := by
  have hnat : card.toNat ≠ 0 := fun h => hcard (BitVec.eq_of_toNat_eq h)
  have hback : BitVec.ofNat 40 card.toNat = card := BitVec.ofNat_toNat ..|>.trans (BitVec.setWidth_eq card)
  simp only [remoteHire, dockByte_toNat, dockOfNumber_dockNumber, hnat, if_false, hback, refuse] <;> rfl

/-- A rider's request is decided with no refer slot of the card left. -/
theorem changes_remoteHire_decided (hb : s.busy = false) (hcard : card ≠ 0) (he : s.findCard card = some e)
    (hcls : e.cls ≠ .crew) (d : Dock) :
    let x := decideTap e d (retireRefer card (s.taking 6))
    changes (.remoteHire (beBytes 5 card.toNat ++ [byte (dockNumber d)])) 6 { code := .ok, data := [byte x.2] } x.1 s ∧
    x.1.findRefer card = none := by
  intro x
  obtain ⟨-, rfl⟩ := mem_of_findCard he
  have hfound : (s.taking 6).findCard e.card = some e := he
  have hrun : remoteHire e.card.toNat (byte (dockNumber d)).toNat (s.taking 6) = (.ok [byte x.2], x.1) := by
    rw [remoteHire_at hcard]
    simp only [hfound, if_neg hcls] <;> rfl
  have hport : x.1.port = (s.taking 6).port := by
    have hwork := closed_remoteHire (port_closed (s.taking 6).port) e.card.toNat (byte (dockNumber d)).toNat
      (s.taking 6) rfl
    rwa [hrun] at hwork
  refine ⟨changes_remoteHire hb (hrun.trans (by rw [withPort_eq hport]; rfl)), ?_⟩
  have hkept := hitTap_no_refer e d e.card (s.taking 6)
  rwa [hitTap_rider hcls] at hkept

/-- Retiring a refer slot selects a lamp besides, and changes nothing that a check reads. -/
theorem retireRefer_writes (c : CardNo) (s : State) : ∃ l q f m g a, retireRefer c s =
      { s with refers := l, string := { s.string with queue := q, flight := f, lastSent := m }, docks := g, agenda := a } ∧
    ∀ d, ((retireRefer c s).dock d).dark = (s.dock d).dark := by
  unfold retireRefer
  split
  next r hr =>
    obtain ⟨q, f, m, g, a, hlamp⟩ := selectLamp_selects r.dock (s.dropRefer c)
    exact ⟨_, q, f, m, g, a, hlamp, fun d => selectLamp_dark r.dock d _⟩
  next => exact ⟨_, _, _, _, _, _, rfl, fun _ => rfl⟩

theorem retireRefer_hireable (c : CardNo) (d : Dock) (s : State) : (retireRefer c s).hireable d = s.hireable d := by
  obtain ⟨l, q, f, m, g, a, hwrites, hdark⟩ := retireRefer_writes c s
  exact hireable_congr (hdark d) (by rw [hwrites]; rfl) (by rw [hwrites]) (by rw [hwrites])

theorem retireRefer_tapCode (e : CardEntry) (d : Dock) (c : CardNo) (n : Nat) (s : State) :
    tapCode e d (retireRefer c (s.taking n)) = tapCode e d s := by
  have hhireable : (retireRefer c (s.taking n)).hireable d = s.hireable d := retireRefer_hireable c d _
  obtain ⟨l, q, f, m, g, a, hwrites, -⟩ := retireRefer_writes c (s.taking n)
  rw [hwrites] at hhireable ⊢
  simp only [tapCode, hhireable] <;> rfl

theorem retireRefer_calls {n : Nat} (c : CardNo) (h : s.callsAtMost n) : (retireRefer c s).callsAtMost n := by
  unfold retireRefer
  split
  · exact closed_selectLamp (callsAtMost_faulted n).toLampClosed _ _ h
  · exact h

end

/-! ### The grant of a member request (R48, R70, R85) -/

section

variable {s : State} {d : Dock} {b c : Bike} {e : CardEntry} {r : TripRecord} {i : Fin 3}

theorem find_insertTrip {p : TripRecord → Bool} (hr : p r = true) {l : List TripRecord} (hl : ∀ x ∈ l, p x = false) :
    (insertTrip r l).find? p = some r := by
  induction l with
  | nil => simp [insertTrip, hr]
  | cons x l ih =>
    obtain ⟨hx, hl⟩ := List.forall_mem_cons.1 hl
    unfold insertTrip
    split
    · simp [hr]
    · rw [List.find?_cons_of_neg (by simp [hx])]
      exact ih hl

theorem find_insertTrip_other {p : TripRecord → Bool} (hr : p r = false) (l : List TripRecord) :
    (insertTrip r l).find? p = l.find? p := by
  induction l with
  | nil => simp [insertTrip, hr]
  | cons x l ih =>
    unfold insertTrip
    split
    · rw [List.find?_cons_of_neg (by simp [hr])]
    · rw [List.find?_cons, List.find?_cons, ih]

theorem addTrip_eq (hroom : s.trips.length < 64) (hnew : s.findTrip r.bike = none) :
    s.addTrip r = { s with trips := insertTrip r s.trips }.noteTrips :=
  if_pos ⟨hroom, by rw [hnew]; rfl⟩

theorem cardLink_taken {card : CardNo} {start : Time} (he : s.findCard card = some e) (hidle : e.activity = .idle)
    (hdock : e.queuedDock = some d) : cardLink card d b start s = s.setCard card
      (fun e => { e with queuedDock := none, activity := .pending, link := some (b, start) }) := by
  simp only [cardLink, he, hidle, hdock, and_self, if_true]

theorem findCard_setCard_other {x y : CardNo} (hne : y ≠ x) (f : CardEntry → CardEntry) (s : State) :
    (s.setCard x f).findCard y = s.findCard y := by
  rw [State.findCard, State.setCard, List.find?_map]
  have hkeys : ((fun e : CardEntry => decide (e.card = y)) ∘ fun e : CardEntry =>
      if e.card = x then { f e with slot := e.slot, card := e.card } else e) = fun e => decide (e.card = y) := by
    funext e
    simp only [Function.comp_apply]
    split <;> rfl
  rw [hkeys]
  refine (Option.map_congr fun e he => if_neg ?_).trans Option.map_id'
  rw [(mem_of_findCard he).2]
  exact hne

/-- The record of a grant (R85). -/
def grantedTrip (d : Dock) (b : Bike) (e : CardEntry) (s : State) : TripRecord :=
  { bike := b, stamp := memberStamp e s, state := .releasing, releaseDock := some d, foreign := false,
    latePull := false, orphan := false, unstamped := false, unstampDock := none }

/-- The context of a granted member request, its STAMP in flight (R71). -/
def grantedRelease (b : Bike) (e : CardEntry) (s : State) : ReleaseContext :=
  { kind := .member, card := e.card, bike := b, start := s.clock.time, phase := .stamping, seenPresent := false }

/-- The entry of a granted request: PENDING on the trip (R48). -/
def grantedEntry (b : Bike) (start : Time) (e : CardEntry) : CardEntry :=
  { e with queuedDock := none, activity := .pending, link := some (b, start) }

/-- Steps 1 to 4 of R70, as a grant with a free token, a free record and a waiting entry takes them. -/
def State.lent (d : Dock) (b : Bike) (e : CardEntry) (i : Fin 3) (s : State) : State :=
  ({ s.setToken i (.lent d .stampPending) with trips := insertTrip (grantedTrip d b e s) s.trips }.noteTrips).setCard
    e.card (grantedEntry b s.clock.time)

variable (hi : s.tokenWith Token.isFree = some i) (hroom : s.trips.length < 64) (hnew : s.findTrip b = none)
  (he : s.findCard e.card = some e) (hidle : e.activity = .idle) (hdock : e.queuedDock = some d)
include hi hroom hnew he hidle hdock

theorem grantMember_eq : grantMember d b e s =
    (placeDock d .stamp (tripStampImage (memberStamp e s)) (.hireUnit b)
      ((setOccupancy d .releasing (s.lent d b e i)).setRelease d (some (grantedRelease b e s)))).setCancel d none := by
  have hadd : (s.setToken i (.lent d .stampPending)).addTrip (grantedTrip d b e s) =
      { s.setToken i (.lent d .stampPending) with trips := insertTrip (grantedTrip d b e s) s.trips }.noteTrips :=
    addTrip_eq (s := s.setToken i _) hroom hnew
  have hlink := cardLink_taken (s := ({ s.setToken i (.lent d .stampPending) with
    trips := insertTrip (grantedTrip d b e s) s.trips } : State).noteTrips) (b := b) (start := s.clock.time) he hidle hdock
  have hlent : cardLink e.card d b s.clock.time ((s.setToken i (.lent d .stampPending)).addTrip (grantedTrip d b e s)) =
      s.lent d b e i := by
    rw [hadd, hlink]
    rfl
  simp only [grantMember, startRelease, hi]
  exact congrArg (fun t => (placeDock d .stamp (tripStampImage (memberStamp e s)) (.hireUnit b)
    ((setOccupancy d .releasing t).setRelease d (some (grantedRelease b e s)))).setCancel d none) hlent

/-- A grant writes the token, the record, the entry and the contexts of its dock; the dock, lamps and calls change
besides. -/
theorem grantMember_writes : ∃ p q a, grantMember d b e s =
    { s with
      cards := (s.setCard e.card (grantedEntry b s.clock.time)).cards,
      trips := insertTrip (grantedTrip d b e s) s.trips,
      hire := { s.hire with
        tokens := s.hire.tokens.set i.val (.lent d .stampPending) i.isLt,
        releases := s.hire.releases.set d.val (some (grantedRelease b e s)) d.isLt,
        cancels := s.hire.cancels.set d.val none d.isLt },
      string := p, docks := q, agenda := a } := by
  obtain ⟨q, f, l, g, a, hocc⟩ := setOccupancy_selects (o := .releasing) (by decide) d (s.lent d b e i)
  rw [grantMember_eq hi hroom hnew he hidle hdock, placeDock_only, hocc]
  exact ⟨_, _, _, rfl⟩

theorem grantMember_hire : (grantMember d b e s).hire.tokens.get i = .lent d .stampPending ∧
    (∀ j, j ≠ i → (grantMember d b e s).hire.tokens.get j = s.hire.tokens.get j) ∧
    (grantMember d b e s).release d = some (grantedRelease b e s) ∧ (grantMember d b e s).cancel d = none ∧
    (grantMember d b e s).hire.queue = s.hire.queue := by
  obtain ⟨p, q, a, hwrites⟩ := grantMember_writes hi hroom hnew he hidle hdock
  rw [hwrites]
  exact ⟨(get_set ..).trans (if_pos rfl), fun j hj => (get_set ..).trans (if_neg hj.symm),
    (get_set ..).trans (if_pos rfl), (get_set ..).trans (if_pos rfl), rfl⟩

theorem grantMember_trips : (grantMember d b e s).findTrip b = some (grantedTrip d b e s) ∧
    ∀ c, c ≠ b → (grantMember d b e s).findTrip c = s.findTrip c := by
  obtain ⟨p, q, a, hwrites⟩ := grantMember_writes hi hroom hnew he hidle hdock
  rw [hwrites]
  refine ⟨find_insertTrip (decide_eq_true rfl) fun x hx => ?_, fun c hc =>
    find_insertTrip_other (decide_eq_false hc.symm) _⟩
  exact Bool.eq_false_iff.2 (List.find?_eq_none.1 hnew x hx)

theorem grantMember_cards : (grantMember d b e s).findCard e.card = some (grantedEntry b s.clock.time e) ∧
    ∀ c, c ≠ e.card → (grantMember d b e s).findCard c = s.findCard c := by
  obtain ⟨p, q, a, hwrites⟩ := grantMember_writes hi hroom hnew he hidle hdock
  rw [hwrites]
  exact ⟨findCard_setCard_own he _, fun c hc => findCard_setCard_other hc _ s⟩

theorem grantMember_known : ((grantMember d b e s).dock d).known =
    ({ s.dock d with occupancy := .releasing } : DockRecord).known := by
  have hlent : (s.lent d b e i).dock d = s.dock d := dock_of_docks rfl d
  have hknown := setOccupancy_known d .releasing (s.lent d b e i)
  rw [hlent, ← dock_of_docks (setRelease_docks (setOccupancy d .releasing (s.lent d b e i)) d
    (some (grantedRelease b e s)))] at hknown
  rw [grantMember_eq hi hroom hnew he hidle hdock, dock_of_docks (setCancel_docks _ d none)]
  exact closed_placeDock (known_closed d _) d .stamp _ _ _ hknown

theorem grantMember_dock : ((grantMember d b e s).dock d).occupancy = .releasing ∧
    ((grantMember d b e s).dock d).bike = (s.dock d).bike := by
  have hknown := grantMember_known hi hroom hnew he hidle hdock
  generalize (grantMember d b e s).dock d = u at hknown
  generalize s.dock d = v at hknown
  exact ⟨(congrArg DockRecord.occupancy hknown :), (congrArg DockRecord.bike hknown :)⟩

/-- The STAMP waits with the stamp's bytes. -/
theorem grantMember_stamps (hcalls : s.callsAtMost 39) : ∃ q ∈ (grantMember d b e s).string.queue,
    q.target = .node (dockNode d) ∧ q.verb = .stamp ∧ q.args = tripStampImage (memberStamp e s) := by
  have hlent : (s.lent d b e i).callsAtMost 39 := hcalls
  have hplaced := setOccupancy_kept (callsAtMost_stay d 39) .releasing hlent
  obtain ⟨-, q, hq, htarget, hverb, hargs, -⟩ := placeDock_call (d := d) (v := .stamp)
    (s := (setOccupancy d .releasing (s.lent d b e i)).setRelease d (some (grantedRelease b e s))) (by decide) hplaced
    (tripStampImage (memberStamp e s)) (.hireUnit b)
  rw [grantMember_eq hi hroom hnew he hidle hdock]
  exact ⟨q, hq, htarget, hverb, hargs⟩

theorem grantMember_outcome : ((grantMember d b e s).hire.tokens.get i = .lent d .stampPending ∧
      (∀ j, j ≠ i → (grantMember d b e s).hire.tokens.get j = s.hire.tokens.get j) ∧
      (grantMember d b e s).release d = some (grantedRelease b e s) ∧ (grantMember d b e s).cancel d = none ∧
      (grantMember d b e s).hire.queue = s.hire.queue) ∧
    ((grantMember d b e s).findTrip b = some (grantedTrip d b e s) ∧
      ∀ c, c ≠ b → (grantMember d b e s).findTrip c = s.findTrip c) ∧
    ((grantMember d b e s).findCard e.card = some (grantedEntry b s.clock.time e) ∧
      ∀ c, c ≠ e.card → (grantMember d b e s).findCard c = s.findCard c) ∧
    (((grantMember d b e s).dock d).occupancy = .releasing ∧
      ((grantMember d b e s).dock d).bike = (s.dock d).bike) ∧
    (s.callsAtMost 39 → ∃ q ∈ (grantMember d b e s).string.queue,
      q.target = .node (dockNode d) ∧ q.verb = .stamp ∧ q.args = tripStampImage (memberStamp e s)) :=
  ⟨grantMember_hire hi hroom hnew he hidle hdock, grantMember_trips hi hroom hnew he hidle hdock,
    grantMember_cards hi hroom hnew he hidle hdock, grantMember_dock hi hroom hnew he hidle hdock,
    grantMember_stamps hi hroom hnew he hidle hdock⟩

end

/-! ### The head of a grant pass (R67, R68) -/

section

variable {s : State} {q : HireRequest} {rest : List HireRequest} {e : CardEntry}

theorem grantPass_head (hq : s.hire.queue = q :: rest) (hroom : s.tokensInUse < s.budget) :
    grantPass s = grantLoop rest.length (grantHead q s.popHire) := by
  simp only [grantPass, hq, List.length_cons, grantLoop, if_pos hroom]

/-- Dropping a request at the head, with its refusal: the pass goes on with the rest. -/
theorem grantPass_drops (hq : s.hire.queue = q :: rest) (hk : q.kind = .member) (hroom : s.tokensInUse < s.budget)
    {n : Nat} (hcode : memberCode q s = n) (hn : n ≠ 0) : ∃ u, grantPass s = grantPass u ∧
    u.hire = { s.hire with queue := rest } ∧ u.trips = s.trips ∧
    u.cards = s.cards.map (fun e => if e.card = q.card then { e with queuedDock := none } else e) ∧
    (u.dock q.dock).flash = some { code := n, remaining := 3000 } ∧ ∀ e, (u.dock e).known = (s.dock e).known := by
  have hhead : grantHead q s.popHire = showRefusal n q.dock (cardWithdrawn q.card s.popHire) := by
    have hagain : memberCode q s.popHire = n := hcode
    simp only [grantHead, hk, hagain, if_neg hn, dropRequest]
  obtain ⟨l, f, m, g, a, hshown⟩ := selects_showRefusal (selects_refl (cardWithdrawn q.card s.popHire)) n q.dock
  have hhire : (showRefusal n q.dock (cardWithdrawn q.card s.popHire)).hire = { s.hire with queue := rest } := by
    rw [hshown]
    simp only [cardWithdrawn, State.setCard, State.popHire, hq, List.drop_one, List.tail_cons]
  refine ⟨showRefusal n q.dock (cardWithdrawn q.card s.popHire), ?_, hhire, by rw [hshown]; rfl, by rw [hshown]; rfl,
    showRefusal_flash .., fun e => closed_showRefusal (known_closed e _).toLampClosed n q.dock _ rfl⟩
  rw [grantPass_head hq hroom, hhead, grantPass, hhire]

theorem memberCode_found (he : s.findCard q.card = some e) : memberCode q s =
    if e.blocked = true ∨ s.passed e = true ∨ s.holdTooLow e = true then 1
    else if s.hireable q.dock = false then 3
    else
      match (s.dock q.dock).bike with
      | none => 3
      | some b => if s.trips.length < 64 ∧ (s.findTrip b).isNone then 0 else 4 := by
  simp only [memberCode, he] <;> rfl

theorem hireable_bike {d : Dock} (h : s.hireable d = true) : ∃ b, (s.dock d).bike = some b := by
  obtain ⟨-, -, ⟨b, hb, -⟩, -⟩ := (hireable_iff s d).1 h
  exact ⟨b, hb⟩

/-- No entry of the card passes check 1 of R68. -/
def barredRequest (q : HireRequest) (s : State) : Prop := ∀ e, s.findCard q.card = some e →
  e.blocked = true ∨ s.passed e = true ∨ ∃ g, e.guest = some g ∧ g.hold - g.captured < s.unlockFee e.plan

theorem memberCode_barred (h : barredRequest q s) : memberCode q s = 1 := by
  cases he : s.findCard q.card with
  | none => simp only [memberCode, he]
  | some e =>
    rw [memberCode_found he, if_pos]
    rw [holdTooLow_iff]
    exact h e he

theorem memberCode_open (h : ¬barredRequest q s) : memberCode q s =
    if s.hireable q.dock = false then 3
    else
      match (s.dock q.dock).bike with
      | none => 3
      | some b => if s.trips.length < 64 ∧ (s.findTrip b).isNone then 0 else 4 := by
  simp only [barredRequest, ← holdTooLow_iff] at h
  push Not at h
  obtain ⟨e, he, hblocked, hpassed, hhold⟩ := h
  rw [memberCode_found he, if_neg]
  simp [hblocked, hpassed, hhold]

theorem memberCode_full (h : ¬barredRequest q s) (hhireable : ¬s.hireable q.dock = false)
    (hfull : 64 ≤ s.trips.length ∨ ∃ b r, (s.dock q.dock).bike = some b ∧ s.findTrip b = some r) :
    memberCode q s = 4 := by
  obtain ⟨b, hb⟩ := hireable_bike (by simpa using hhireable)
  simp only [memberCode_open h, if_neg hhireable, hb]
  refine if_neg ?_
  rintro ⟨hroom, hnone⟩
  rcases hfull with hfull | ⟨c, r, hc, hr⟩
  · omega
  · rw [Option.some.inj (hb.symm.trans hc), hr] at hnone
    cases hnone

/-- A request that passes its check is granted. -/
theorem grantHead_grants {b : Bike} (hk : q.kind = .member) (he : s.findCard q.card = some e)
    (hopen : ¬(e.blocked = true ∨ s.passed e = true ∨ s.holdTooLow e = true)) (hhireable : s.hireable q.dock = true)
    (hb : (s.dock q.dock).bike = some b) (hroom : s.trips.length < 64) (hnew : s.findTrip b = none) :
    grantHead q s = grantMember q.dock b e s := by
  have hcode : memberCode q s = 0 := by
    rw [memberCode_found he, if_neg hopen, if_neg (by rw [hhireable]; decide)]
    simp only [hb, hnew, hroom, Option.isNone_none, and_self, if_true]
  simp only [grantHead, hk, hcode, if_true, he, hb]

end

/-! ### A request that joins an empty queue and is granted -/

section

variable {s : State} {d : Dock} {e : CardEntry}

theorem joinHire_joins {q : HireRequest} (hlen : s.hire.queue.length < 8)
    (hnew : s.hire.queue.any (fun p => decide (p.dock = q.dock)) = false) :
    s.joinHire q = { s with hire := { s.hire with queue := s.hire.queue ++ [q] } } := if_pos ⟨hlen, hnew⟩

/-- The request of a tap. -/
def memberRequest (d : Dock) (e : CardEntry) : HireRequest := { dock := d, kind := .member, card := e.card }

/-- A tap has joined the release queue, and its entry waits at the dock. -/
def State.joined (d : Dock) (e : CardEntry) (s : State) : State :=
  cardWaiting e.card d { s with hire := { s.hire with queue := s.hire.queue ++ [memberRequest d e] } }

theorem decideTap_joins (h : tapCode e d s = 0) : decideTap e d s = (grantPass (s.joined d e), 0) := by
  obtain ⟨-, -, -, hlen, hnew⟩ := tapCode_zero h
  rw [decideTap_queued h, joinHire_joins hlen hnew]
  rfl

/-- With the queue empty the pass grants the request that has just joined. -/
theorem joined_granted {b : Bike} (h : tapCode e d s = 0) (he : s.findCard e.card = some e)
    (hb : (s.dock d).bike = some b) (hqueue : s.hire.queue = []) (hbudget : s.tokensInUse < s.budget)
    (hroom : s.trips.length < 64) (hnew : s.findTrip b = none) : grantPass (s.joined d e) =
      grantMember d b { e with queuedDock := some d } (cardWaiting e.card d s) := by
  obtain ⟨⟨hblocked, hpassed, hhold⟩, -, hhireable, -, -⟩ := tapCode_zero h
  have hhead : (s.joined d e).hire.queue = [memberRequest d e] := by
    simp only [State.joined, cardWaiting, State.setCard, hqueue, List.nil_append]
  have hpopped : (s.joined d e).popHire = cardWaiting e.card d s := by
    simp only [State.joined, State.popHire, cardWaiting, State.setCard, hqueue, List.nil_append, List.drop_one,
      List.tail_cons]
    rw [← hqueue]
  have hfound : (cardWaiting e.card d s).findCard e.card = some { e with queuedDock := some d } :=
    findCard_setCard_own he _
  rw [grantPass_head hhead hbudget, hpopped, List.length_nil, grantLoop]
  refine grantHead_grants (q := memberRequest d e) rfl hfound ?_ hhireable hb hroom hnew
  have hpassed' : (cardWaiting e.card d s).passed { e with queuedDock := some d } = false := hpassed
  have hhold' : (cardWaiting e.card d s).holdTooLow { e with queuedDock := some d } = false := hhold
  rintro (h | h | h)
  · exact Bool.false_ne_true (hblocked.symm.trans h)
  · exact Bool.false_ne_true (hpassed'.symm.trans h)
  · exact Bool.false_ne_true (hhold'.symm.trans h)

/-- What the grant of the request leaves, in the terms of the statement. -/
theorem joined_granted_outcome {b : Bike} {i : Fin 3} (h : tapCode e d s = 0) (he : s.findCard e.card = some e)
    (hb : (s.dock d).bike = some b) (hqueue : s.hire.queue = []) (hbudget : s.tokensInUse < s.budget)
    (hi : s.tokenWith Token.isFree = some i) (hroom : s.trips.length < 64) (hnew : s.findTrip b = none)
    {u : State} (hu : grantPass (s.joined d e) = u) :
    (u.hire.tokens.get i = .lent d .stampPending ∧ ∀ j, j ≠ i → u.hire.tokens.get j = s.hire.tokens.get j) ∧
    (u.findTrip b = some (grantedTrip d b e s) ∧ ∀ c, c ≠ b → u.findTrip c = s.findTrip c) ∧
    (u.findCard e.card = some (grantedEntry b s.clock.time e) ∧ ∀ c, c ≠ e.card → u.findCard c = s.findCard c) ∧
    ((u.dock d).occupancy = .releasing ∧ (u.dock d).bike = some b) ∧
    (u.release d = some (grantedRelease b e s) ∧ u.cancel d = none ∧ u.hire.queue = []) ∧
    (s.callsAtMost 39 → ∃ q ∈ u.string.queue,
      q.target = .node (dockNode d) ∧ q.verb = .stamp ∧ q.args = tripStampImage (memberStamp e s)) := by
  have hidle : ({ e with queuedDock := some d } : CardEntry).activity = .idle := (tapCode_zero h).2.1.1
  have hwaiting : (cardWaiting e.card d s).findCard e.card = some { e with queuedDock := some d } :=
    findCard_setCard_own he _
  obtain ⟨⟨htaken, htokens, hrelease, hcancel, hrequests⟩, htrips, ⟨hcard, hcards⟩, ⟨hoccupancy, hkept⟩, hstamps⟩ :=
    grantMember_outcome (s := cardWaiting e.card d s) hi hroom hnew hwaiting hidle rfl
  rw [joined_granted h he hb hqueue hbudget hroom hnew] at hu
  generalize grantMember d b { e with queuedDock := some d } (cardWaiting e.card d s) = v at *
  subst hu
  exact ⟨⟨htaken, htokens⟩, htrips, ⟨hcard, fun c hc => (hcards c hc).trans (findCard_setCard_other hc _ s)⟩,
    ⟨hoccupancy, hkept.trans hb⟩, ⟨hrelease, hcancel, hrequests.trans hqueue⟩, hstamps⟩

end

/-- Settles O24: the command's refusals, the checks of a tap in order, the grant of a request that joins an empty queue
(`joined_granted`, `grantMember_writes`), and the requests that a pass drops (`grantPass_drops`). -/
theorem remoteHireDecided : Obligations.RemoteHireDecided := by
  unfold Obligations.RemoteHireDecided
  refine ⟨⟨fun s card n hb h => changes_remoteHire hb (remoteHire_badArg h), fun s card d hb hcard =>
      ⟨fun hnone => ?_, fun e he hcls => ?_, fun e he hcls hcode => ?_, fun e he hcls hcode => ?_⟩,
    fun e d s => ?_, fun s card d e b i hb hcard he hcls hcode hbike hqueue hbudget hfree hlow hroom hnew => ?_⟩,
    fun s q rest hq hk hroom => ⟨fun h1 => ?_, fun h1 h3 => ?_, fun h1 h3 h4 => ?_⟩, fun s => grantPass_idle⟩
  · refine changes_remoteHire hb ((remoteHire_at hcard d _).trans ?_)
    have hmissing : (s.taking 6).findCard card = none := hnone
    rw [hmissing]
    rfl
  · refine changes_remoteHire hb ((remoteHire_at hcard d _).trans ?_)
    have hfound : (s.taking 6).findCard card = some e := he
    simp only [hfound, if_pos hcls] <;> rfl
  · obtain ⟨hchanges, hrefer⟩ := changes_remoteHire_decided hb hcard he hcls d
    have hagain := retireRefer_tapCode e d card 6 s
    rw [decideTap_refused (by rw [hagain]; exact hcode), hagain] at hchanges hrefer
    obtain ⟨l, q, f, m, g, a, hretired, -⟩ := retireRefer_writes card (s.taking 6)
    obtain ⟨q', f', m', g', a', hshown⟩ := selects_showRefusal (selects_refl (retireRefer card (s.taking 6)))
      (tapCode e d s) d
    have hflash := showRefusal_flash (tapCode e d s) d (retireRefer card (s.taking 6))
    refine ⟨_, hchanges, hflash, ?_, ?_, ?_, hrefer⟩ <;> rw [hshown, hretired] <;> rfl
  · obtain ⟨hchanges, hrefer⟩ := changes_remoteHire_decided hb hcard he hcls d
    have hagain := (retireRefer_tapCode e d card 6 s).trans hcode
    rw [decideTap_joins hagain] at hchanges hrefer
    refine ⟨_, hchanges, hrefer, fun hbudget => ?_⟩
    obtain ⟨-, rfl⟩ := mem_of_findCard he
    obtain ⟨l, q, f, m, g, a, hretired, -⟩ := retireRefer_writes e.card (s.taking 6)
    rw [grantPass_idle (.inr (by rw [hretired]; exact hbudget)), hretired]
    exact ⟨rfl, rfl⟩
  · intro refused1 refused2 refused6 refused5 refused3 refused4
    have h1 : refused1 ↔ _ := barred_iff s e
    have h2 : refused2 ↔ e.activity ≠ .idle ∨ e.queuedDock.isSome = true := by
      simp only [refused2, ne_eq, ← Option.isSome_iff_ne_none]
    have h4 : refused4 ↔ 8 ≤ s.hire.queue.length ∨ s.hire.queue.any (fun q => decide (q.dock = d)) = true := by
      rw [waitsFor_iff]
    rw [h1, h2, h4]
    unfold tapCode
    refine ⟨fun h => ?_, fun n1 => ⟨fun h => ?_, fun n2 => ⟨fun h => ?_, fun n6 => ⟨fun h => ?_, fun n5 =>
      ⟨fun h => ?_, fun n3 => ⟨fun h => ?_, fun n4 => ?_⟩⟩⟩⟩⟩⟩
    · rcases h with h | h
      · rw [if_pos h]
      · rw [if_pos h, ite_self]
    all_goals
      obtain ⟨nbarred, nhold⟩ := not_or.1 n1
      rw [if_neg nbarred, if_neg nhold]
    · rw [if_pos h]
    · rw [if_neg n2, if_pos h]
    · rw [if_neg n2, if_neg n6, if_pos h]
    · rw [if_neg n2, if_neg n6, if_neg n5, if_pos h]
    · rw [if_neg n2, if_neg n6, if_neg n5, if_neg n3, if_pos h]
    · rw [if_neg n2, if_neg n6, if_neg n5, if_neg n3, if_neg n4]
  · intro stamp
    obtain ⟨hchanges, -⟩ := changes_remoteHire_decided hb hcard he hcls d
    have hagain := (retireRefer_tapCode e d card 6 s).trans hcode
    obtain ⟨-, ⟨hidle, -⟩, -⟩ := tapCode_zero hcode
    obtain ⟨-, rfl⟩ := mem_of_findCard he
    obtain ⟨l, q, f, m, g, a, hretired, hdark⟩ := retireRefer_writes e.card (s.taking 6)
    have hcalls : s.string.flight.isSome = true → s.string.queue.length ≤ 37 →
        (retireRefer e.card (s.taking 6)).callsAtMost 39 := fun hflight hlen =>
      retireRefer_calls e.card ⟨hflight, (List.countP_le_length.trans hlen).trans (by decide)⟩
    have hdock : ((retireRefer e.card (s.taking 6)).dock d).bike = some b :=
      (congrArg DockRecord.bike (hdark d) :).trans hbike
    rw [decideTap_joins hagain] at hchanges
    generalize retireRefer e.card (s.taking 6) = w at hchanges hagain hretired hcalls hdock
    have htoken : w.tokenWith Token.isFree = some i := by
      rw [tokenWith_of_hire (s := s) (by rw [hretired]; rfl)]
      exact tokenWith_lowest (decide_eq_true hfree) fun j hj => decide_eq_false (hlow j hj)
    generalize hgrant : grantPass (w.joined d e) = u at hchanges
    obtain ⟨⟨htaken, htokens⟩, ⟨htrip, htrips⟩, ⟨hcard, hcards⟩, ⟨hoccupancy, hkept⟩, hcontexts, hstamps⟩ :=
      joined_granted_outcome hagain (by rw [hretired]; exact he) hdock (by rw [hretired]; exact hqueue)
        (by rw [hretired]; exact hbudget) htoken (by rw [hretired]; exact hroom) (by rw [hretired]; exact hnew) hgrant
    have hstamp : memberStamp e w = stamp := by
      rw [hretired]
      rfl
    have hstart : w.clock.time = s.clock.time := by rw [hretired]; rfl
    rw [grantedTrip, hstamp] at htrip
    rw [grantedRelease, hstart] at hcontexts
    rw [grantedEntry, hstart] at hcard
    rw [hstamp] at hstamps
    obtain ⟨hrelease, hcancel, hrequests⟩ := hcontexts
    refine ⟨u, hchanges, htaken, fun j hj => (htokens j hj).trans ?_, htrip, fun c hc => (htrips c hc).trans ?_, hcard,
      fun c hc => (hcards c hc).trans ?_, hoccupancy, hkept, hrelease, hcancel, hrequests,
      fun hflight hlen => hstamps (hcalls hflight hlen)⟩ <;> rw [hretired] <;> rfl
  · exact grantPass_drops hq hk hroom (memberCode_barred h1) (by decide)
  · exact grantPass_drops hq hk hroom ((memberCode_open h1).trans (if_pos h3)) (by decide)
  · exact grantPass_drops hq hk hroom (memberCode_full h1 (by exact h3) h4) (by decide)

end Sys2Proof.Machine
end

section
/-! PROOFS. Reading the trip table: the record of a bicycle, the oldest PRICED record, and the trip record image (R96,
R97, section 12.5). -/

namespace Sys2Proof.Machine

open Sys2Proof

/-! ### Records by their bicycle (R83) -/

section

variable {s : State} {b : Bike} {r : TripRecord}

theorem findTrip_eq_none_iff : s.findTrip b = none ↔ ∀ r ∈ s.trips, r.bike ≠ b := by
  simp [State.findTrip]

theorem trip_eq_of_bike (h : s.tripsOk) {x y : TripRecord} (hx : x ∈ s.trips) (hy : y ∈ s.trips)
    (hbike : x.bike = y.bike) : x = y := by
  by_contra hne
  have hdiff : s.trips.Pairwise (fun x y => x.bike ≠ y.bike) :=
    h.2.imp fun hlt heq => Nat.ne_of_lt hlt (congrArg BitVec.toNat heq)
  have : Std.Symm (fun x y : TripRecord => x.bike ≠ y.bike) := ⟨fun _ _ => Ne.symm⟩
  exact hdiff.forall hx hy hne hbike

theorem findTrip_of_mem (h : s.tripsOk) (hr : r ∈ s.trips) : s.findTrip r.bike = some r := by
  cases hfound : s.findTrip r.bike with
  | none => exact absurd rfl (findTrip_eq_none_iff.1 hfound r hr)
  | some x =>
    obtain ⟨hx, hbike⟩ := bike_of_findTrip hfound
    rw [trip_eq_of_bike h hx hr hbike]

theorem ofNat_toNat_same {n : Nat} (x : BitVec n) : BitVec.ofNat n x.toNat = x :=
  BitVec.ofNat_toNat ..|>.trans (BitVec.setWidth_eq x)

theorem toNat_ne_zero_of_ne {n : Nat} {x : BitVec n} (h : x ≠ 0) : x.toNat ≠ 0 :=
  fun h0 => h (BitVec.eq_of_toNat_eq (h0.trans BitVec.toNat_zero.symm))

/-! ### READ_TRIP (R96) -/

theorem exec_readTrip_zero (s : State) :
    exec (.readTrip [0, 0]) s = .next (s.readAnswered 2 { code := .badArg, data := [] }) := by
  have hzero : field [0, 0] 0 2 = 0 := by decide
  exact (exec_readTrip _ s).trans (pureRead_taken 2 _ _ s _ rfl (by rw [hzero]; rfl))

theorem exec_readTrip_found (hb : b ≠ 0) (h : s.findTrip b = some r) :
    exec (.readTrip (beBytes 2 b.toNat)) s = .next (s.readAnswered 2 { code := .ok, data := tripImage r }) := by
  refine (exec_readTrip _ s).trans (pureRead_taken 2 _ _ s _ (beBytes_length 2 _) ?_)
  rw [field_beBytes 2 _ b.isLt, if_neg (toNat_ne_zero_of_ne hb), ofNat_toNat_same,
    show (s.asking 2).findTrip b = some r from h]
  rfl

theorem exec_readTrip_missing (hb : b ≠ 0) (h : s.findTrip b = none) :
    exec (.readTrip (beBytes 2 b.toNat)) s = .next (s.readAnswered 2 { code := .notFound, data := [] }) := by
  refine (exec_readTrip _ s).trans (pureRead_taken 2 _ _ s _ (beBytes_length 2 _) ?_)
  rw [field_beBytes 2 _ b.isLt, if_neg (toNat_ne_zero_of_ne hb), ofNat_toNat_same,
    show (s.asking 2).findTrip b = none from h]
  rfl

/-! ### NEXT_PRICED (R97) -/

theorem isPriced_iff : Trip.isPriced r = true ↔ ∃ p, r.state = .priced p := by
  unfold Trip.isPriced
  split
  next p hp => simp [hp]
  next hnot => simpa using hnot

theorem endAge_priced {p : Pricing} (h : r.state = .priced p) (now : Time) : endAge now r = timeAgo now p.endTime := by
  simp only [endAge, h]

/-- The choice of R97 between the best record so far and the next one. -/
def olderEnd (now : Time) (best : Option TripRecord) (x : TripRecord) : Option TripRecord :=
  match best with
  | none => some x
  | some y => if endAge now y < endAge now x then some x else some y

theorem oldestPriced_eq_foldl (s : State) :
    s.oldestPriced = (s.trips.filter Trip.isPriced).foldl (olderEnd s.clock.time) none := rfl

/-- Records that are no older leave the choice as it is. -/
theorem foldl_olderEnd_keeps {now : Time} : ∀ {l : List TripRecord}, (∀ x ∈ l, endAge now x ≤ endAge now r) →
    l.foldl (olderEnd now) (some r) = some r := by
  intro l
  induction l with
  | nil => exact fun _ => rfl
  | cons x l ih =>
    intro h
    obtain ⟨hx, hl⟩ := List.forall_mem_cons.1 h
    rw [List.foldl_cons, olderEnd, if_neg (Nat.not_lt.2 hx)]
    exact ih hl

/-- The choice is made among the records seen. -/
theorem foldl_olderEnd_mem {now : Time} : ∀ (l : List TripRecord) (best : Option TripRecord) {x : TripRecord},
    l.foldl (olderEnd now) best = some x → x ∈ l ∨ best = some x := by
  intro l
  induction l with
  | nil => exact fun _ _ h => .inr h
  | cons y l ih =>
    intro best x h
    rcases ih _ h with hmem | hbest
    · exact .inl (List.mem_cons_of_mem y hmem)
    · unfold olderEnd at hbest
      split at hbest
      · exact .inl (by simp_all)
      · split at hbest
        · exact .inl (by simp_all)
        · exact .inr hbest

/-- The first record in the list among those of the greatest age is chosen. -/
theorem foldl_olderEnd_first {now : Time} {pre post : List TripRecord}
    (hpre : ∀ x ∈ pre, endAge now x < endAge now r) (hpost : ∀ x ∈ post, endAge now x ≤ endAge now r) :
    (pre ++ r :: post).foldl (olderEnd now) none = some r := by
  rw [List.foldl_append, List.foldl_cons]
  have htaken : olderEnd now (pre.foldl (olderEnd now) none) r = some r := by
    cases hbest : pre.foldl (olderEnd now) none with
    | none => rfl
    | some y => exact if_pos (hpre y ((foldl_olderEnd_mem pre none hbest).resolve_right nofun))
  rw [htaken]
  exact foldl_olderEnd_keeps hpost

theorem oldestPriced_none (h : ∀ r ∈ s.trips, ∀ p, r.state ≠ .priced p) : s.oldestPriced = none := by
  have hnone : s.trips.filter Trip.isPriced = [] := List.filter_eq_nil_iff.2 fun r hr hp => by
    obtain ⟨p, hp⟩ := isPriced_iff.1 hp
    exact h r hr p hp
  rw [oldestPriced_eq_foldl, hnone]
  rfl

/-- With records of rising bike number, the PRICED record of oldest end_time, of lower bike number among equals. -/
theorem oldestPriced_of_oldest {p : Pricing} (hs : s.tripsOk) (hr : r ∈ s.trips) (hp : r.state = .priced p)
    (hold : ∀ x ∈ s.trips, ∀ q, x.state = .priced q →
      timeAgo s.clock.time q.endTime < timeAgo s.clock.time p.endTime ∨
      (q.endTime = p.endTime ∧ r.bike.toNat ≤ x.bike.toNat)) : s.oldestPriced = some r := by
  obtain ⟨pre, post, hl⟩ := List.append_of_mem (List.mem_filter.2 ⟨hr, isPriced_iff.2 ⟨p, hp⟩⟩)
  have horder : (pre ++ r :: post).Pairwise (fun a b => a.bike.toNat < b.bike.toNat) :=
    hl ▸ hs.2.sublist List.filter_sublist
  have hage : ∀ x ∈ pre ++ r :: post, endAge s.clock.time x < endAge s.clock.time r ∨
      (endAge s.clock.time x = endAge s.clock.time r ∧ r.bike.toNat ≤ x.bike.toNat) := fun x hx => by
    obtain ⟨hmem, hpriced⟩ := List.mem_filter.1 (hl ▸ hx)
    obtain ⟨q, hq⟩ := isPriced_iff.1 hpriced
    rw [endAge_priced hp, endAge_priced hq]
    exact (hold x hmem q hq).imp_right fun h => ⟨by rw [h.1], h.2⟩
  rw [oldestPriced_eq_foldl, hl]
  refine foldl_olderEnd_first (fun x hx => ?_) fun x hx => ?_
  · have hlt := (List.pairwise_append.1 horder).2.2 x hx r List.mem_cons_self
    exact (hage x (List.mem_append_left _ hx)).resolve_right fun h => absurd hlt (Nat.not_lt.2 h.2)
  · exact (hage x (List.mem_append_right _ (List.mem_cons_of_mem r hx))).elim Nat.le_of_lt fun h => Nat.le_of_eq h.1

theorem exec_nextPriced_found (h : s.oldestPriced = some r) : exec (.nextPriced []) s =
    .next (s.readAnswered 0 (.ok (tripImage r ++ [byte (s.trips.filter Trip.isPriced).length]))) :=
  (exec_nextPriced [] s).trans
    (pureRead_taken 0 [] _ s _ rfl (by rw [show (s.asking 0).oldestPriced = _ from h]; rfl))

theorem exec_nextPriced_missing (h : s.oldestPriced = none) :
    exec (.nextPriced []) s = .next (s.readAnswered 0 { code := .notFound, data := [] }) :=
  (exec_nextPriced [] s).trans
    (pureRead_taken 0 [] _ s _ rfl (by rw [show (s.asking 0).oldestPriced = _ from h]; rfl))

theorem pricedNotice_iff (s : State) : s.pricedNotice = true ↔ ∃ r ∈ s.trips, ∃ p, r.state = .priced p := by
  simp only [State.pricedNotice, List.any_eq_true, isPriced_iff]

end

/-! ### The trip record image (section 12.5) -/

/-- The image in its parts: the fields that every record has, those of its state, and its flags. -/
theorem tripImage_parts (r : TripRecord) : tripImage r =
    (beBytes 2 r.bike.toNat ++ beBytes 4 r.stamp.start.toNat ++ beBytes 5 r.stamp.card.toNat ++
      [byte r.stamp.plan.val, byte r.stamp.generation.val] ++ beBytes 2 r.stamp.ceiling ++
      beBytes 2 r.stamp.origin) ++
    ([byte r.state.code,
      bits [r.releaseDock.isSome, (pricing r).isSome, (pricing r).isSome, (pricing r).isSome, (pricing r).isSome,
        r.unstampDock.isSome],
      optDock r.releaseDock, optDock ((pricing r).map Pricing.returnDock)] ++
      optTime ((pricing r).map Pricing.endTime) ++ beBytes 2 (((pricing r).map Pricing.fare).getD 0) ++
      beBytes 2 (((pricing r).map (fun x => fareFlagBits x.flags)).getD 0)) ++
    [byte (tripFlagBits r), optDock r.unstampDock] := by
  simp only [tripImage, List.append_assoc]

/-- The byte that says which of the optional fields are present. -/
theorem presence_bits (dock priced unstamp : Bool) : bits [dock, priced, priced, priced, priced, unstamp] =
    byte ((if dock then 1 else 0) + (if unstamp then 32 else 0) + if priced then 30 else 0) := by
  cases dock <;> cases priced <;> cases unstamp <;> rfl

theorem fareFlagBits_eq (f : FareFlags) : fareFlagBits f =
    (if f.grace then 1 else 0) + (if f.capped then 2 else 0) + (if f.incentive then 4 else 0) +
      (if f.ceiling then 8 else 0) + (if f.saturated then 16 else 0) + (if f.skew then 32 else 0) +
      (if f.overlong then 64 else 0) + (if f.genFallback then 128 else 0) + (if f.planFallback then 256 else 0) := by
  simp only [fareFlagBits, bitsValue, Nat.mul_add, mul_ite, Nat.mul_zero, Nat.add_assoc, Nat.add_zero, Nat.reduceMul]

theorem tripFlagBits_eq (r : TripRecord) : tripFlagBits r =
    (if r.foreign then 1 else 0) + (if r.latePull then 2 else 0) + (if r.orphan then 4 else 0) +
      if r.unstamped then 8 else 0 := by
  simp only [tripFlagBits, bitsValue, Nat.mul_add, mul_ite, Nat.mul_zero, Nat.add_assoc, Nat.add_zero, Nat.reduceMul]

/-- Settles O12: READ_TRIP and NEXT_PRICED are reads that answer from the table (`findTrip_of_mem`,
`oldestPriced_of_oldest`), and the image is that of section 12.5, part by part. -/
theorem tripsRead : Obligations.TripsRead := by
  unfold Obligations.TripsRead
  refine ⟨⟨fun s => ?_, fun s r hs hr hb => ?_, fun s b hb hnone => ?_, fun s hnone => ?_,
    fun s r p hs hr hp hold => ?_, pricedNotice_iff⟩, fun r => ?_⟩
  · exact exec_readTrip_zero s
  · exact exec_readTrip_found hb (findTrip_of_mem hs hr)
  · exact exec_readTrip_missing hb (findTrip_eq_none_iff.2 hnone)
  · exact exec_nextPriced_missing (oldestPriced_none hnone)
  · exact exec_nextPriced_found (oldestPriced_of_oldest hs hr hp hold)
  · rw [tripImage_parts, presence_bits, tripFlagBits_eq]
    unfold pricing
    cases hstate : r.state with
    | releasing | out | cancelling =>
      simp only [TripState.code, Option.map_none, Option.getD_none, Option.isSome_none, Bool.false_eq_true, if_false,
        List.append_assoc]
      rfl
    | priced p =>
      simp only [TripState.code, Option.map_some, Option.getD_some, Option.isSome_some, if_true, fareFlagBits_eq,
        List.append_assoc]
      rfl

end Sys2Proof.Machine
end

section
/-! PROOFS. The host closes and collects trips: COLLECT_TRIP, and CLOSE_REMOTE with the free request and its fare (R49,
R98, R99, R128). -/

namespace Sys2Proof.Machine

open Sys2Proof

/-! ### COLLECT_TRIP (R98) -/

section

variable {s : State} {b : Bike} {r : TripRecord} {start : Time}

/-- COLLECT_TRIP as a change command of 6 argument bytes. -/
theorem changes_collectTrip {x : Result} {u : State} (hb : s.busy = false)
    (h : collectTrip b.toNat start (s.taking 6) = (x, { u with port := (s.taking 6).port })) :
    changes (.collectTrip (beBytes 2 b.toNat ++ beBytes 4 start.toNat)) 6 x u s := by
  refine changes_of _ 6 _ _ s u x (exec_collectTrip _ s) hb (by simp) ?_
  have hstart : field (beBytes 2 b.toNat ++ beBytes 4 start.toNat) 2 4 = start.toNat := by
    rw [field_beyond 2 _ 2 4 _ (Nat.le_refl 2)]
    exact field_beBytes 4 _ start.isLt
  rw [field_first 2 _ _ b.isLt, hstart, ofNat_toNat_same]
  exact h

theorem collectTrip_zero (start : Time) (s : State) : collectTrip 0 start s = (.plain .badArg, s) := if_pos rfl

theorem collectTrip_missing (hb : b ≠ 0) (h : ∀ r, s.findTrip b = some r → r.stamp.start ≠ start) :
    collectTrip b.toNat start s = (.plain .notFound, s) := by
  unfold collectTrip
  rw [if_neg (toNat_ne_zero_of_ne hb), ofNat_toNat_same]
  split
  next => rfl
  next r hr => exact if_pos (h r hr)

theorem collectTrip_found (hb : b ≠ 0) (hr : s.findTrip b = some r) (hstart : r.stamp.start = start) :
    collectTrip b.toNat start s =
      if s.collectable r then (.ok (tripImage r), s.dropTrip b) else (.plain .state, s) := by
  obtain ⟨-, hbike⟩ := bike_of_findTrip hr
  unfold collectTrip
  rw [if_neg (toNat_ne_zero_of_ne hb), ofNat_toNat_same, hr]
  simp only [hstart, ne_eq, not_true, if_false, hbike, refuse]

theorem collectTrip_stops (hb : b ≠ 0) (hr : s.findTrip b = some r) (hstart : r.stamp.start = start)
    (h : s.collectable r = false) : collectTrip b.toNat start s = (.plain .state, s) := by
  rw [collectTrip_found hb hr hstart, h]
  rfl

theorem collectTrip_retires (hb : b ≠ 0) (hr : s.findTrip b = some r) (hstart : r.stamp.start = start)
    (h : s.collectable r = true) : collectTrip b.toNat start s = (.ok (tripImage r), s.dropTrip b) := by
  rw [collectTrip_found hb hr hstart, if_pos h]

theorem collectable_iff : s.collectable r = true ↔ ∃ p, r.state = .priced p ∧ r.unstampDock = none ∧
    (r.unstamped = true ∨ (s.dock p.returnDock).bike ≠ some r.bike) := by
  unfold State.collectable
  split
  next p hp => simp [hp]
  all_goals simp [*]

end

/-! ### The free request with a fare (R49, R128) -/

section

variable {s : State} {c : CardNo} {b : Bike} {start : Time} {e : CardEntry} {fare : Option Nat}

/-- An entry of another trip, or of none, is not freed. -/
theorem cardFree_unlinked (h : ∀ e, s.findCard c = some e → linkedTo e b start = false) :
    cardFree c b start fare s = (s, 0) := by
  unfold cardFree
  split
  next e he => exact if_neg (by rw [h e he]; decide)
  next => rfl

theorem linkedTo_eq_false (h : e.link ≠ some (b, start) ∨ (e.activity ≠ .pending ∧ e.activity ≠ .riding)) :
    linkedTo e b start = false := by
  rcases h with h | ⟨hpending, hriding⟩
  · simp [linkedTo, h]
  · simp [linkedTo, hpending, hriding]

theorem cardFree_frees (he : s.findCard c = some e) (hlink : e.link = some (b, start))
    (h : e.activity = .pending ∨ e.activity = .riding) :
    cardFree c b start fare s = (s.setCard c (freedEntry s fare), captureOf e fare) := by
  simp only [cardFree, he, linkedTo_of hlink h, if_true]

/-- The entry that a free request leaves (R49, R128). -/
theorem freedEntry_some (s : State) (e : CardEntry) (f : Nat) : freedEntry s (some f) e =
    { e with
      link := none,
      activity := if e.cls = .guest ∧ s.passed e = true then .settling else .idle,
      guest := e.guest.map (fun g => { g with captured := g.captured + min f (g.hold - g.captured) }) } := by
  unfold freedEntry captureOf
  cases e.guest <;> rfl

theorem captureOf_some (e : CardEntry) (f : Nat) :
    captureOf e (some f) = match e.guest with | some g => min f (g.hold - g.captured) | none => 0 := by
  unfold captureOf
  cases e.guest <;> rfl

end

/-! ### CLOSE_REMOTE (R99) -/

section

variable {s : State} {c : CardNo} {b : Bike} {start : Time} {fare : Nat} {r : TripRecord} {e : CardEntry}

/-- CLOSE_REMOTE as a change command of 13 argument bytes. -/
theorem changes_closeRemote {x : Result} {u : State} (hb : s.busy = false) (hfare : fare < 65536)
    (h : closeRemote c.toNat b.toNat start fare (s.taking 13) = (x, { u with port := (s.taking 13).port })) :
    changes (.closeRemote (beBytes 5 c.toNat ++ beBytes 2 b.toNat ++ beBytes 4 start.toNat ++ beBytes 2 fare)) 13
      x u s := by
  refine changes_of _ 13 _ _ s u x (exec_closeRemote _ s) hb (by simp) ?_
  have hbike : field (beBytes 5 c.toNat ++ (beBytes 2 b.toNat ++ (beBytes 4 start.toNat ++ beBytes 2 fare))) 5 2 =
      b.toNat := by
    rw [field_beyond 5 _ 5 2 _ (by decide)]
    exact field_first 2 _ _ b.isLt
  have hstart : field (beBytes 5 c.toNat ++ (beBytes 2 b.toNat ++ (beBytes 4 start.toNat ++ beBytes 2 fare))) 7 4 =
      start.toNat := by
    rw [field_beyond 5 _ 7 4 _ (by decide), field_beyond 2 _ 2 4 _ (by decide)]
    exact field_first 4 _ _ start.isLt
  have hlast : field (beBytes 5 c.toNat ++ (beBytes 2 b.toNat ++ (beBytes 4 start.toNat ++ beBytes 2 fare))) 11 2 =
      fare := by
    rw [field_beyond 5 _ 11 2 _ (by decide), field_beyond 2 _ 6 2 _ (by decide), field_beyond 4 _ 4 2 _ (by decide)]
    exact field_beBytes 2 fare hfare
  simp only [List.append_assoc, hbike, hstart, hlast, field_first 5 _ _ c.isLt, ofNat_toNat_same]
  exact h

theorem closeRemote_badArg (h : c = 0 ∨ b = 0) :
    closeRemote c.toNat b.toNat start fare s = (.plain .badArg, s) := by
  refine if_pos (h.imp ?_ ?_) <;> rintro rfl <;> rfl

/-- With card and bike number in range, the record of the bicycle and start time decides. -/
theorem closeRemote_found (hc : c ≠ 0) (hb : b ≠ 0) (hr : s.findTrip b = some r) (hstart : r.stamp.start = start) :
    closeRemote c.toNat b.toNat start fare s =
      if closable r c then
        let x := if r.orphan then (s.dropTrip b, 0) else cardFree c b start (some fare) (s.dropTrip b)
        (.ok (beBytes 2 x.2 ++ [activityByte c x.1]), x.1)
      else (.plain .state, s) := by
  have hfilter : (some r).filter (fun r => decide (r.stamp.start = start)) = some r := by simp [hstart]
  unfold closeRemote
  simp only [ofNat_toNat_same, toNat_ne_zero_of_ne hc, toNat_ne_zero_of_ne hb, or_self, if_false, hr, hfilter,
    refuse]

theorem closeRemote_missing (hc : c ≠ 0) (hb : b ≠ 0) (h : ∀ r, s.findTrip b = some r → r.stamp.start ≠ start) :
    closeRemote c.toNat b.toNat start fare s = (.plain .notFound, (cardFree c b start none s).1) := by
  have hfilter : (s.findTrip b).filter (fun r => decide (r.stamp.start = start)) = none := by
    cases hr : s.findTrip b with
    | none => rfl
    | some r => simp [h r hr]
  unfold closeRemote
  simp only [ofNat_toNat_same, toNat_ne_zero_of_ne hc, toNat_ne_zero_of_ne hb, or_self, if_false, hfilter]

theorem closable_iff : closable r c = true ↔ r.state = .out ∧ r.foreign = false ∧ r.stamp.card = c := by
  simp [closable, and_assoc]

theorem closeRemote_stops (hc : c ≠ 0) (hb : b ≠ 0) (hr : s.findTrip b = some r) (hstart : r.stamp.start = start)
    (h : ¬(r.state = .out ∧ r.foreign = false ∧ r.stamp.card = c)) :
    closeRemote c.toNat b.toNat start fare s = (.plain .state, s) := by
  rw [closeRemote_found hc hb hr hstart, if_neg (by rwa [closable_iff])]

/-- The record is retired and the entry of its card freed with the fare. -/
theorem closeRemote_frees (hc : c ≠ 0) (hb : b ≠ 0) (hr : s.findTrip b = some r) (hstart : r.stamp.start = start)
    (hclosable : closable r c = true) (horphan : r.orphan = false) (he : s.findCard c = some e)
    (hlink : e.link = some (b, start)) (hactivity : e.activity = .pending ∨ e.activity = .riding) :
    closeRemote c.toNat b.toNat start fare s =
      (.ok (beBytes 2 (captureOf e (some fare)) ++ [byte (freedEntry s (some fare) e).activity.code]),
        (s.dropTrip b).setCard c (freedEntry s (some fare))) := by
  have hfound : (s.dropTrip b).findCard c = some e := he
  have hfree : cardFree c b start (some fare) (s.dropTrip b) =
      ((s.dropTrip b).setCard c (freedEntry s (some fare)), captureOf e (some fare)) :=
    cardFree_frees hfound hlink hactivity
  rw [closeRemote_found hc hb hr hstart, if_pos hclosable]
  simp only [horphan, Bool.false_eq_true, if_false, hfree, activityByte, findCard_setCard_own hfound]

/-- The record is retired, and no entry is freed. -/
theorem closeRemote_retires (hc : c ≠ 0) (hb : b ≠ 0) (hr : s.findTrip b = some r) (hstart : r.stamp.start = start)
    (hclosable : closable r c = true)
    (h : r.orphan = true ∨ ∀ e, s.findCard c = some e → e.link ≠ some (b, start)) :
    closeRemote c.toNat b.toNat start fare s = (.ok ([0, 0] ++ [activityByte c s]), s.dropTrip b) := by
  have hkept : (if r.orphan then (s.dropTrip b, 0) else cardFree c b start (some fare) (s.dropTrip b)) =
      (s.dropTrip b, 0) := by
    split
    · rfl
    next horphan =>
      exact cardFree_unlinked fun e he => linkedTo_eq_false (.inl (h.resolve_left horphan e he))
  have hzero : beBytes 2 0 = [0, 0] := by decide
  rw [closeRemote_found hc hb hr hstart, if_pos hclosable, hkept]
  simp only [hzero]
  rfl

end

/-- Settles O26: CLOSE_REMOTE by its record (`closeRemote_frees`, `closeRemote_retires`, `closeRemote_missing`), and
COLLECT_TRIP by the checks of R98 (`collectable_iff`). -/
theorem remoteTripClosed : Obligations.RemoteTripClosed := by
  unfold Obligations.RemoteTripClosed
  refine ⟨fun s c b start fare hbusy hfare => ⟨fun h => ?_, fun hc hb => ⟨fun r hr hstart hnot => ?_,
      fun r hr hstart hout hforeign hcard horphan e he hlink hactivity => ?_,
      fun r hr hstart hout hforeign hcard hkeep => ?_, fun hmissing => ?_⟩⟩,
    fun s start hbusy => ?_, fun s b start hbusy hb => ⟨fun hmissing => ?_, fun r hr hstart => ⟨fun hnot => ?_,
      fun p hp hdock hgone => ?_⟩⟩⟩
  · exact changes_closeRemote hbusy hfare (closeRemote_badArg h)
  · exact changes_closeRemote hbusy hfare (closeRemote_stops (s := s.taking 13) hc hb hr hstart hnot)
  · refine ⟨_, _, rfl, rfl, changes_closeRemote hbusy hfare ?_⟩
    rw [closeRemote_frees (s := s.taking 13) hc hb hr hstart (closable_iff.2 ⟨hout, hforeign, hcard⟩) horphan he hlink
      hactivity, captureOf_some, freedEntry_some]
    refine congrArg (Prod.mk _) ?_
    simp only [State.setCard, freedEntry_some]
    rfl
  · exact changes_closeRemote hbusy hfare
      (closeRemote_retires (s := s.taking 13) hc hb hr hstart (closable_iff.2 ⟨hout, hforeign, hcard⟩) hkeep)
  · have hport : (cardFree c b start none (s.taking 13)).1.port = (s.taking 13).port := by rw [cardFree_only]
    refine ⟨(cardFree c b start none (s.taking 13)).1, changes_closeRemote hbusy hfare ?_, ?_,
      fun e he hlink hactivity => ?_, fun hkeep => ?_⟩
    · exact (closeRemote_missing (s := s.taking 13) hc hb hmissing).trans (by rw [withPort_eq hport]; rfl)
    · rw [cardFree_only]
      rfl
    · exact ⟨_, cardFree_linked (s := s.taking 13) he hlink hactivity, rfl, rfl, rfl, rfl⟩
    · rw [cardFree_unlinked (s := s.taking 13) fun e he => linkedTo_eq_false (.inl (hkeep e he))]
      rfl
  · have hzero : (0 : Bike).toNat = 0 := rfl
    rw [← hzero]
    exact changes_collectTrip hbusy (collectTrip_zero start _)
  · exact changes_collectTrip hbusy (collectTrip_missing (s := s.taking 6) hb hmissing)
  · obtain ⟨-, hbike⟩ := bike_of_findTrip hr
    refine changes_collectTrip hbusy
      (collectTrip_stops (s := s.taking 6) hb hr hstart (Bool.eq_false_iff.2 fun h => ?_))
    obtain ⟨p, hp, hdock, hgone⟩ := collectable_iff.1 h
    rw [hbike] at hgone
    rcases hnot p hp with hasked | ⟨hunstamped, hheld⟩
    · rw [hdock] at hasked
      cases hasked
    · exact hgone.elim (fun h => Bool.false_ne_true (hunstamped.symm.trans h)) fun h => h hheld
  · obtain ⟨-, hbike⟩ := bike_of_findTrip hr
    exact changes_collectTrip hbusy (collectTrip_retires (s := s.taking 6) hb hr hstart
      (collectable_iff.2 ⟨p, hp, hdock, by rw [hbike]; exact hgone⟩))

end Sys2Proof.Machine
end

section
/-! PROOFS. What an arrival writes: the reports on a dock's bicycle, the UNSTAMP of the Trip Table, deferral and
pricing, and the rows of R87 (R34, R86 to R92, R95). -/

namespace Sys2Proof.Machine

open Sys2Proof

/-! ### Reports on the bicycle of a dock (R34) -/

section

variable {s : State} {d e : Dock} {b : Bike} {f : DockRecord → DockRecord}

/-- A report of another bicycle is discarded. -/
theorem reportDock_away (h : (s.dock d).bike ≠ some b) : reportDock d b f s = s := if_neg h

theorem reportDock_frame (d : Dock) (b : Bike) (f : DockRecord → DockRecord) (s : State) : reportDock d b f s =
    { s with docks := (reportDock d b f s).docks, string := (reportDock d b f s).string } := by
  unfold reportDock
  split
  · rw [(selectLamp_relights d _).frame]
    rfl
  · rfl

theorem reportDock_own_known (h : (s.dock d).bike = some b) :
    ((reportDock d b f s).dock d).known = (f (s.dock d)).known := by
  unfold reportDock
  rw [if_pos h]
  exact closed_selectLamp (known_closed d _).toLampClosed d _ (setDock_own_known f s d)

theorem reportDock_other_known (h : e ≠ d) : ((reportDock d b f s).dock e).known = (s.dock e).known := by
  unfold reportDock
  split
  · refine closed_selectLamp (known_closed e _).toLampClosed d _ ?_
    rw [setDock_dock, if_neg h.symm]
  · rfl

/-- A report keeps what selecting a lamp and its own write keep. -/
theorem reportDock_kept {P : State → Prop} (h : LampClosed P) (hset : ∀ s, P s → P (s.setDock d f)) (hs : P s) :
    P (reportDock d b f s) := by
  unfold reportDock
  split
  · exact closed_selectLamp h d _ (hset s hs)
  · exact hs

end

/-! ### The UNSTAMP of a trip record (R95) -/

section

variable {s : State} {d : Dock} {b c : Bike} {r : TripRecord}

/-- The string is in use, the queue has room, and no UNSTAMP waits for the dock. -/
def State.roomToUnstamp (s : State) (d : Dock) : Prop :=
  s.string.flight.isSome = true ∧ s.string.queue.length < 40 ∧
    ∀ q ∈ s.string.queue, q.target = .node (dockNode d) → q.verb ≠ .unstamp

/-- The UNSTAMP joins the queue behind the others, and the record waits for it. -/
theorem queueUnstamp_joins (h : s.roomToUnstamp d) (b : Bike) : queueUnstamp d b s = { s with
    trips := s.trips.map (fun y => if y.bike = b then { y with unstampDock := some d } else y),
    string := { s.string with queue := s.string.queue ++
      [{ target := .node (dockNode d), verb := .unstamp, args := [], cross := false,
         originators := [.tripTable b] }] } } := by
  obtain ⟨hflight, hroom, hnew⟩ := h
  let t := s.setTrip b (fun r => { r with unstampDock := some d })
  have hkeys : ∀ q ∈ t.string.queue, sameKey q (request (dockNode d) .unstamp [] (.tripTable b)) = false :=
    not_sameKey_of fun q hq hkey => hnew q hq hkey.1 hkey.2
  rw [queueUnstamp, placeDock, place, takeNext_in_use (by rw [enqueue_flight]; exact hflight),
    enqueue_append (s := t) hkeys hroom]
  rfl

theorem placeDock_trips (d : Dock) (v : Verb) (l : List Byte) (o : Originator) (s : State) :
    (placeDock d v l o s).trips = s.trips := by rw [placeDock_only]

theorem findTrip_queueUnstamp (d : Dock) (b c : Bike) (s : State) : (queueUnstamp d b s).findTrip c =
    (s.setTrip b (fun r => { r with unstampDock := some d })).findTrip c :=
  findTrip_of_trips (placeDock_trips ..) c

/-- Of the other bicycles' records none changes with one record. -/
theorem findTrip_setTrip_other (h : c ≠ b) (f : TripRecord → TripRecord) (s : State) :
    (s.setTrip b f).findTrip c = s.findTrip c := by
  rw [findTrip_setTrip]
  refine (Option.map_congr fun r hr => if_neg ?_).trans Option.map_id'
  rwa [(bike_of_findTrip hr).2]

theorem queueUnstamp_known (d e : Dock) (b : Bike) (s : State) :
    ((queueUnstamp d b s).dock e).known = (s.dock e).known :=
  closed_placeDock (known_closed e _) _ _ _ _ _ rfl

end

/-! ### Deferral (R92) -/

section

variable {s t : State} {d e : Dock} {b : Bike} {st : StampFields}

/-- The state `t` is `s` with the arrival deferred at the dock: the list holds it, the dock is unpriced where it shows
the bicycle, and of the rest only what selecting a lamp writes may have changed. -/
structure Defers (d : Dock) (b : Bike) (st : StampFields) (s t : State) : Prop where
  frame : t = { s with deferred := s.deferred.set d.val (some { bike := b, stamp := st }) d.isLt,
                       docks := t.docks, string := t.string, agenda := t.agenda }
  shown : (s.dock d).bike = some b → (t.dock d).known = ({ s.dock d with unpriced := true } : DockRecord).known
  away : (s.dock d).bike ≠ some b → t.docks = s.docks
  others : ∀ e, e ≠ d → (t.dock e).known = (s.dock e).known

theorem deferArrival_defers (d : Dock) (b : Bike) (st : StampFields) (s : State) :
    Defers d b st s (deferArrival d b st s) where
  frame := by
    rw [deferArrival, reportUnpriced, reportDock_frame]
    rfl
  shown h := reportDock_own_known (s := s.setDeferral d (some { bike := b, stamp := st })) h
  away h := by rw [deferArrival, reportUnpriced, reportDock_away (by exact h), setDeferral_docks]
  others _ he := reportDock_other_known he

end

/-! ### Pricing (R90, R91) -/

section

variable {s : State} {d e : Dock} {b c : Bike} {st : StampFields} {r : TripRecord} {x : FareResult}

theorem fareNow_eq_some (hset : s.clock.isSet = true)
    (hx : s.fare.price st s.clock.time (s.hireableOthers d) s.dropToDo = some x) : s.fareNow d st = some x :=
  (if_pos hset).trans hx

theorem fareNow_eq_none (h : s.clock.isSet = false ∨
    s.fare.price st s.clock.time (s.hireableOthers d) s.dropToDo = none) : s.fareNow d st = none := by
  unfold State.fareNow
  split
  next hset => exact h.resolve_left fun hunset => Bool.false_ne_true (hunset.symm.trans hset)
  next => rfl

/-- Before its UNSTAMP is queued, the deferral of a priced arrival is taken away. -/
def State.undeferred (d : Dock) (b : Bike) (s : State) : State := reportUnpriced d b false (s.setDeferral d none)

theorem undeferred_frame (d : Dock) (b : Bike) (s : State) : s.undeferred d b =
    { s with deferred := s.deferred.set d.val none d.isLt, docks := (s.undeferred d b).docks,
             string := (s.undeferred d b).string } := reportDock_frame ..

theorem undeferred_calls {n : Nat} (h : s.callsAtMost n) : (s.undeferred d b).callsAtMost n :=
  reportDock_kept (callsAtMost_faulted n).toLampClosed (fun _ h => h) (by exact h)

theorem findTrip_finishPricing (d : Dock) (b c : Bike) (s : State) : (finishPricing d b s).findTrip c =
    (s.setTrip b (fun r => { r with unstampDock := some d })).findTrip c := by
  have hframe : finishPricing d b s = queueUnstamp d b (s.undeferred d b) := rfl
  rw [hframe, findTrip_queueUnstamp]
  refine findTrip_of_trips ?_ c
  rw [undeferred_frame]
  rfl

theorem findTrip_finishPricing_own (h : s.findTrip b = some r) :
    (finishPricing d b s).findTrip b = some { r with unstampDock := some d } := by
  obtain ⟨-, hbike⟩ := bike_of_findTrip h
  rw [findTrip_finishPricing, findTrip_setTrip_own h, ← hbike]

theorem findTrip_finishPricing_other (h : c ≠ b) : (finishPricing d b s).findTrip c = s.findTrip c := by
  rw [findTrip_finishPricing, findTrip_setTrip_other h]

theorem finishPricing_cards (d : Dock) (b : Bike) (s : State) : (finishPricing d b s).cards = s.cards := by
  rw [finishPricing, queueUnstamp, placeDock_only, reportUnpriced, reportDock_frame]
  rfl

theorem finishPricing_deferred (d : Dock) (b : Bike) (s : State) :
    (finishPricing d b s).deferred = s.deferred.set d.val none d.isLt := by
  rw [finishPricing, queueUnstamp, placeDock_only, reportUnpriced, reportDock_frame]
  rfl

theorem notShown_agenda (x : Target) (s : State) : (notShown x s).agenda = s.agenda := by rw [notShown_only]

/-- Placing a request notes a refused one at most (R20). -/
theorem enqueue_notes_trips (r : QueueEntry) (s : State) : (enqueue r s).agenda.trips = s.agenda.trips := by
  unfold enqueue
  dsimp only
  split
  case isTrue => rfl
  split
  case isTrue => rfl
  split
  case isTrue => rfl
  split
  case isTrue => rw [notShown_agenda]
  split
  next v hv =>
    rw [setQueue_agenda]
    split
    case isTrue => rw [notShown_agenda]
    case isFalse => rfl
  next hv => rfl

theorem finishPricing_notes_trips (d : Dock) (b : Bike) (s : State) :
    (finishPricing d b s).agenda.trips = s.agenda.trips := by
  rw [finishPricing, queueUnstamp, placeDock, place, takeNext_agenda, enqueue_notes_trips, reportUnpriced,
    reportDock_frame]
  rfl

theorem finishPricing_own_known (h : (s.dock d).bike = some b) :
    ((finishPricing d b s).dock d).known = ({ s.dock d with unpriced := false } : DockRecord).known :=
  (queueUnstamp_known d d b _).trans (reportDock_own_known (s := s.setDeferral d none) h)

theorem finishPricing_awaits (h : s.callsAtMost 39) : (finishPricing d b s).awaits d .unstamp (.tripTable b) :=
  placeDock_awaits (by decide) (s := (s.undeferred d b).setTrip b (fun r => { r with unstampDock := some d }))
    (undeferred_calls h) _ _

/-- The OUT record is priced, and the entry of its card freed with the fare (R91, steps 3 to 5). -/
def State.priced (d : Dock) (b : Bike) (x : FareResult) (r : TripRecord) (s : State) : State :=
  let t := s.moveTrip b (fun r => { r with state := .priced (pricingOf d s.clock.time x) })
  if r.foreign = false ∧ r.orphan = false then (cardFree r.stamp.card b r.stamp.start (some x.fare) t).1 else t

theorem priceInPlace_prices (hx : s.fareNow d st = some x) (hr : s.findTrip b = some r) :
    priceInPlace d b st s = finishPricing d b (s.priced d b x r) := by
  simp only [priceInPlace, hx, hr]
  rfl

theorem priceInPlace_defers (hx : s.fareNow d st = none) : priceInPlace d b st s = deferArrival d b st s := by
  simp only [priceInPlace, hx]

theorem priced_frame (d : Dock) (b : Bike) (x : FareResult) (r : TripRecord) (s : State) : s.priced d b x r =
    { s.moveTrip b (fun r => { r with state := .priced (pricingOf d s.clock.time x) }) with
      cards := (s.priced d b x r).cards } := by
  unfold State.priced
  dsimp only
  split
  · rw [cardFree_only]
  · rfl

/-- The FOREIGN record of an arrival with no record for its bicycle (R90). -/
def foreignTrip (d : Dock) (b : Bike) (st : StampFields) (now : Time) (x : FareResult) : TripRecord :=
  { bike := b, stamp := st, state := .priced (pricingOf d now x), releaseDock := none, foreign := true,
    latePull := false, orphan := false, unstamped := false, unstampDock := none }

theorem priceForeign_prices (hroom : s.trips.length < 64) (hx : s.fareNow d st = some x) :
    priceForeign d b st s = finishPricing d b (s.addTrip (foreignTrip d b st s.clock.time x)) := by
  simp only [priceForeign, hx, if_pos hroom]
  rfl

theorem priceForeign_defers (h : 64 ≤ s.trips.length ∨ s.fareNow d st = none) :
    priceForeign d b st s = deferArrival d b st s := by
  unfold priceForeign
  split
  next hroom => rw [h.resolve_left (Nat.not_le.2 hroom)]
  next => rfl

end

/-! ### The rows of R87 -/

section

variable {s : State} {d : Dock} {b : Bike} {st : StampFields} {r : TripRecord}

theorem stampMatches_iff : stampMatches r st = true ↔ r.stamp.start = st.start ∧ r.stamp.origin = st.origin := by
  simp [stampMatches]

theorem arrivalCases_none (h : s.findTrip b = none) : arrivalCases d b st s = priceForeign d b st s := by
  simp only [arrivalCases, h]

theorem arrivalCases_duplicate {p : Pricing} (hr : s.findTrip b = some r) (hmatch : stampMatches r st = true)
    (hp : r.state = .priced p) : arrivalCases d b st s =
      if r.unstamped = false ∧ r.unstampDock = none then queueUnstamp d b s else s := by
  simp only [arrivalCases, hr, hmatch, hp, if_true]

/-- The bicycle never left its release dock. -/
theorem arrivalCases_never_left (hr : s.findTrip b = some r) (hmatch : stampMatches r st = true)
    (hstate : r.state = .cancelling) (hdock : r.releaseDock = some d) : arrivalCases d b st s =
      if s.cancelNames d b = false ∧ r.unstampDock = none then queueUnstamp d b s else s := by
  simp only [arrivalCases, hr, hmatch, hstate, hdock, if_true]

/-- The bicycle left its release dock unseen. -/
theorem arrivalCases_ended (hr : s.findTrip b = some r) (hmatch : stampMatches r st = true)
    (hstate : r.state = .releasing ∨ (r.state = .cancelling ∧ r.releaseDock ≠ some d)) :
    arrivalCases d b st s = priceInPlace d b st (endByArrival r s) := by
  rcases hstate with hstate | ⟨hstate, hdock⟩
  · simp only [arrivalCases, hr, hmatch, hstate, if_true]
  · simp only [arrivalCases, hr, hmatch, hstate, hdock, if_true, if_false]

theorem arrivalCases_out (hr : s.findTrip b = some r) (hmatch : stampMatches r st = true) (hstate : r.state = .out) :
    arrivalCases d b st s = priceInPlace d b st s := by
  simp only [arrivalCases, hr, hmatch, hstate, if_true]

theorem arrivalCases_superseded (hr : s.findTrip b = some r) (hmatch : stampMatches r st = false)
    (hstate : r.state = .out) : arrivalCases d b st s = priceForeign d b st (supersede r s) := by
  simp only [arrivalCases, hr, hmatch, hstate, Bool.false_eq_true, if_false]

theorem arrivalCases_other_trip (hr : s.findTrip b = some r) (hmatch : stampMatches r st = false)
    (hstate : r.state ≠ .out) : arrivalCases d b st s = deferArrival d b st s := by
  simp only [arrivalCases, hr, hmatch, Bool.false_eq_true, if_false]
  split
  next hout => exact absurd hout hstate
  all_goals rfl

theorem cancelNames_iff : s.cancelNames d b = true ↔ ∃ y, s.cancel d = some y ∧ y.bike = b := by
  unfold State.cancelNames
  split
  next y hy => simp [hy]
  next hnone => simp [hnone]

theorem cancelNames_eq_false_iff : s.cancelNames d b = false ↔ ∀ y, s.cancel d = some y → y.bike ≠ b := by
  rw [← Bool.not_eq_true, cancelNames_iff]
  push Not
  rfl

end

end Sys2Proof.Machine
end

section
/-! PROOFS. Arrivals judged by R87, and the retry pass: the deferred entries an arrival removes, the rows with a record
and without one, and the retry pass at the end of an event (R86 to R93). -/

namespace Sys2Proof.Machine

open Sys2Proof

/-! ### The deferred entries that an arrival removes (R86) -/

section

variable {s t u : State} {d x y : Dock} {b : Bike} {e : Deferral}

/-- An arrival of the bicycle at `d` withdraws the deferred entry of the dock `x`. -/
def State.reclaims (s : State) (d : Dock) (b : Bike) (x : Dock) : Prop :=
  x ≠ d ∧ ∃ e, s.deferred.get x = some e ∧ e.bike = b

/-- What an arrival does to the deferred entry of one dock. -/
def withdraw (d : Dock) (b : Bike) (s : State) (x : Dock) : State :=
  match s.deferred.get x with
  | some e => if x ≠ d ∧ e.bike = b then reportUnpriced x b false (s.setDeferral x none) else s
  | none => s

theorem clearDeferred_eq (d : Dock) (b : Bike) (s : State) :
    clearDeferred d b s = (allDocks.foldl (withdraw d b) s).setDeferral d none := rfl

theorem withdraw_reclaimed (h : s.reclaims d b x) :
    withdraw d b s x = reportUnpriced x b false (s.setDeferral x none) := by
  obtain ⟨hx, e, he, hb⟩ := h
  unfold withdraw
  rw [he]
  exact if_pos ⟨hx, hb⟩

theorem withdraw_kept (h : ¬s.reclaims d b x) : withdraw d b s x = s := by
  unfold withdraw
  split
  next e he => exact if_neg fun ⟨hx, hb⟩ => h ⟨hx, e, he, hb⟩
  next => rfl

theorem withdraw_frame (d : Dock) (b : Bike) (x : Dock) (s : State) : withdraw d b s x =
    { s with deferred := (withdraw d b s x).deferred, docks := (withdraw d b s x).docks,
             string := (withdraw d b s x).string } := by
  by_cases h : s.reclaims d b x
  · rw [withdraw_reclaimed h, reportUnpriced, reportDock_frame]
    rfl
  · rw [withdraw_kept h]

theorem clearDeferred_frame (d : Dock) (b : Bike) (s : State) : clearDeferred d b s =
    { s with deferred := (clearDeferred d b s).deferred, docks := (clearDeferred d b s).docks,
             string := (clearDeferred d b s).string, agenda := (clearDeferred d b s).agenda } := by
  have hfold : ∃ v g w, allDocks.foldl (withdraw d b) s = { s with deferred := v, docks := g, string := w } := by
    refine closed_foldl (P := fun t : State => ∃ v g w, t = { s with deferred := v, docks := g, string := w })
      (fun t x ht => ?_) _ s ⟨_, _, _, rfl⟩
    obtain ⟨v, g, w, rfl⟩ := ht
    exact ⟨_, _, _, withdraw_frame d b x _⟩
  obtain ⟨v, g, w, hfold⟩ := hfold
  rw [clearDeferred_eq, hfold]
  rfl

/-- The dock's deferred entry and what answers gave its record are the same in the two states. -/
def sameEntry (x : Dock) (s t : State) : Prop :=
  t.deferred.get x = s.deferred.get x ∧ (t.dock x).known = (s.dock x).known

theorem sameEntry_trans (h : sameEntry x s t) (h' : sameEntry x t u) : sameEntry x s u :=
  ⟨h'.1.trans h.1, h'.2.trans h.2⟩

theorem reclaims_congr (h : sameEntry x s t) : t.reclaims d b x ↔ s.reclaims d b x := by
  unfold State.reclaims
  rw [h.1]

/-- What an arrival does to another dock's entry does not touch this dock. -/
theorem withdraw_other (h : x ≠ y) : sameEntry x s (withdraw d b s y) := by
  by_cases hy : s.reclaims d b y
  · rw [withdraw_reclaimed hy]
    refine ⟨?_, reportDock_other_known h⟩
    rw [reportUnpriced, reportDock_frame, setDeferral_deferred, get_set, if_neg h.symm]
  · rw [withdraw_kept hy]
    exact ⟨rfl, rfl⟩

theorem withdraws_other {l : List Dock} (h : x ∉ l) : sameEntry x s (l.foldl (withdraw d b) s) := by
  induction l generalizing s with
  | nil => exact ⟨rfl, rfl⟩
  | cons y l ih =>
    obtain ⟨hxy, hl⟩ := not_or.1 (mt List.mem_cons.2 h)
    exact sameEntry_trans (withdraw_other hxy) (ih hl)


theorem withdraws_kept (h : ¬s.reclaims d b x) (l : List Dock) : sameEntry x s (l.foldl (withdraw d b) s) := by
  refine closed_foldl (P := sameEntry x s) (fun t y ht => ?_) l s ⟨rfl, rfl⟩
  by_cases hxy : x = y
  · rw [← hxy, withdraw_kept (mt (reclaims_congr ht).1 h)]
    exact ht
  · exact sameEntry_trans ht (withdraw_other hxy)

/-- A withdrawn entry is gone, and its dock is told where it shows the bicycle. -/
def withdrawnAt (x : Dock) (b : Bike) (s t : State) : Prop :=
  t.deferred.get x = none ∧ (t.dock x).known =
    (if (s.dock x).bike = some b then ({ s.dock x with unpriced := false } : DockRecord) else s.dock x).known

theorem withdraw_own (h : s.reclaims d b x) : withdrawnAt x b s (withdraw d b s x) := by
  rw [withdraw_reclaimed h]
  refine ⟨?_, ?_⟩
  · rw [reportUnpriced, reportDock_frame, setDeferral_deferred, get_set, if_pos rfl]
  · split
    next hshown => exact reportDock_own_known (s := s.setDeferral x none) hshown
    next haway => rw [reportUnpriced, reportDock_away (s := s.setDeferral x none) haway]; rfl

theorem withdrawnAt_congr (h : sameEntry x s t) (hu : withdrawnAt x b t u) : withdrawnAt x b s u := by
  have hbike : (t.dock x).bike = (s.dock x).bike := congrArg (·.bike) h.2
  refine ⟨hu.1, hu.2.trans ?_⟩
  rw [hbike]
  split
  · exact congrArg (fun r : DockRecord => { r with unpriced := false }) h.2
  · exact h.2

/-- The docks are taken in their order; before this one's turn and after it nothing about it changes. -/
theorem withdraws_own (h : s.reclaims d b x) : withdrawnAt x b s (allDocks.foldl (withdraw d b) s) := by
  obtain ⟨pre, post, hall, hpre⟩ := List.eq_append_cons_of_mem (List.mem_finRange x)
  let v := pre.foldl (withdraw d b) s
  have hv : sameEntry x s v := withdraws_other hpre
  have hown : withdrawnAt x b s (withdraw d b v x) := withdrawnAt_congr hv (withdraw_own ((reclaims_congr hv).2 h))
  have hpost : sameEntry x (withdraw d b v x) (post.foldl (withdraw d b) (withdraw d b v x)) :=
    withdraws_kept (fun ⟨_, e, he, _⟩ => nomatch he.symm.trans hown.1) post
  have hfold : allDocks.foldl (withdraw d b) s = post.foldl (withdraw d b) (withdraw d b v x) := by
    rw [allDocks, hall, List.foldl_append, List.foldl_cons]
  rw [hfold]
  exact ⟨hpost.1.trans hown.1, hpost.2.trans hown.2⟩

theorem setDeferral_dock (d x : Dock) (e : Option Deferral) (s : State) : (s.setDeferral d e).dock x = s.dock x := rfl

theorem clearDeferred_reclaimed (h : s.reclaims d b x) : withdrawnAt x b s (clearDeferred d b s) := by
  obtain ⟨hgone, hknown⟩ := withdraws_own h
  refine ⟨?_, ?_⟩
  · rw [clearDeferred_eq, setDeferral_deferred, get_set, if_neg h.1.symm, hgone]
  · rw [clearDeferred_eq, setDeferral_dock, hknown]

theorem clearDeferred_kept (h : ¬s.reclaims d b x) :
    ((clearDeferred d b s).dock x).known = (s.dock x).known ∧
    (x ≠ d → (clearDeferred d b s).deferred.get x = s.deferred.get x) := by
  obtain ⟨hentry, hknown⟩ := withdraws_kept h allDocks
  refine ⟨?_, fun hx => ?_⟩
  · rw [clearDeferred_eq, setDeferral_dock, hknown]
  · rw [clearDeferred_eq, setDeferral_deferred, get_set, if_neg hx.symm, hentry]

theorem clearDeferred_own (d : Dock) (b : Bike) (s : State) : (clearDeferred d b s).deferred.get d = none := by
  rw [clearDeferred_eq, setDeferral_deferred, get_set, if_pos rfl]

end

/-! ### The rows with a record (R87) -/

section

variable {s : State} {d : Dock} {b : Bike} {st : StampFields} {r : TripRecord} {e : CardEntry}

theorem supersede_eq (r : TripRecord) (s : State) : supersede r s =
    { s with trips := s.trips.filter (fun y => decide (y.bike ≠ r.bike)), cards := (supersede r s).cards,
             agenda := { s.agenda with trips := true } } := by
  unfold supersede
  dsimp only
  split
  · rfl
  · rw [cardFree_only]
    rfl

theorem findTrip_supersede (r : TripRecord) (s : State) : (supersede r s).findTrip r.bike = none := by
  unfold supersede
  exact findTrip_dropTrip ..

theorem supersede_orphan (h : r.orphan = true) : supersede r s = s.dropTrip r.bike := by
  unfold supersede
  rw [if_pos h]

theorem supersede_cards (h : r.orphan = false) :
    (supersede r s).cards = (cardFree r.stamp.card r.bike r.stamp.start none s).1.cards := by
  unfold supersede
  rw [h]
  rfl

theorem supersede_freed (h : r.orphan = false) (he : s.findCard r.stamp.card = some e)
    (hlink : e.link = some (r.bike, r.stamp.start)) (hactivity : e.activity = .pending ∨ e.activity = .riding) :
    (supersede r s).findCard r.stamp.card = some (s.freed e) := by
  have hcards := supersede_cards (s := s) h
  rw [State.findCard, hcards]
  exact cardFree_linked he hlink hactivity

theorem supersede_unlinked (h : r.orphan = false) (he : s.findCard r.stamp.card = some e)
    (hother : e.link ≠ some (r.bike, r.stamp.start) ∨ (e.activity ≠ .pending ∧ e.activity ≠ .riding)) :
    (supersede r s).cards = s.cards := by
  rw [supersede_cards h, cardFree_unlinked fun x hx => ?_]
  rw [Option.some.inj (hx.symm.trans he)]
  exact linkedTo_eq_false hother

end

/-! ### No record for the bicycle (R90) -/

section

variable {s : State} {d : Dock} {b c : Bike} {st : StampFields} {x : FareResult}

theorem findTrip_addTrip_own {r : TripRecord} (hroom : s.trips.length < 64) (hnew : s.findTrip r.bike = none) :
    (s.addTrip r).findTrip r.bike = some r := by
  rw [addTrip_eq hroom hnew]
  exact find_insertTrip (decide_eq_true rfl) fun y hy => decide_eq_false (findTrip_eq_none_iff.1 hnew y hy)

theorem findTrip_addTrip_other {r : TripRecord} (hroom : s.trips.length < 64) (hnew : s.findTrip r.bike = none)
    (h : c ≠ r.bike) : (s.addTrip r).findTrip c = s.findTrip c := by
  rw [addTrip_eq hroom hnew]
  exact find_insertTrip_other (decide_eq_false h.symm) _

theorem addTrip_notes_trips {r : TripRecord} (hroom : s.trips.length < 64) (hnew : s.findTrip r.bike = none) :
    (s.addTrip r).agenda.trips = true := by
  rw [addTrip_eq hroom hnew]
  rfl

/-- A FOREIGN record is created PRICED at the dock, its UNSTAMP asked for. -/
theorem priceForeign_found (hnew : s.findTrip b = none) (hroom : s.trips.length < 64) (hx : s.fareNow d st = some x) :
    (priceForeign d b st s).findTrip b =
      some { foreignTrip d b st s.clock.time x with unstampDock := some d } := by
  rw [priceForeign_prices hroom hx]
  exact findTrip_finishPricing_own (findTrip_addTrip_own (r := foreignTrip d b st s.clock.time x) hroom hnew)

theorem priceForeign_other (hnew : s.findTrip b = none) (hroom : s.trips.length < 64) (hx : s.fareNow d st = some x)
    (h : c ≠ b) : (priceForeign d b st s).findTrip c = s.findTrip c := by
  rw [priceForeign_prices hroom hx, findTrip_finishPricing_other h]
  exact findTrip_addTrip_other hroom hnew h

theorem priceForeign_cards (hroom : s.trips.length < 64) (hx : s.fareNow d st = some x) :
    (priceForeign d b st s).cards = s.cards := by
  rw [priceForeign_prices hroom hx, finishPricing_cards, addTrip_cards]

theorem priceForeign_deferred (hroom : s.trips.length < 64) (hx : s.fareNow d st = some x) :
    (priceForeign d b st s).deferred = s.deferred.set d.val none d.isLt := by
  rw [priceForeign_prices hroom hx, finishPricing_deferred, addTrip_deferred]

theorem priceForeign_notes_trips (hnew : s.findTrip b = none) (hroom : s.trips.length < 64)
    (hx : s.fareNow d st = some x) : (priceForeign d b st s).agenda.trips = true := by
  rw [priceForeign_prices hroom hx, finishPricing_notes_trips]
  exact addTrip_notes_trips hroom hnew

theorem priceForeign_own_known (hroom : s.trips.length < 64) (hx : s.fareNow d st = some x)
    (hshown : (s.dock d).bike = some b) :
    ((priceForeign d b st s).dock d).known = ({ s.dock d with unpriced := false } : DockRecord).known := by
  have hdock : (s.addTrip (foreignTrip d b st s.clock.time x)).dock d = s.dock d := dock_of_docks (addTrip_docks s _) d
  rw [priceForeign_prices hroom hx, finishPricing_own_known (by rw [hdock, hshown]), hdock]

theorem priceForeign_awaits (hroom : s.trips.length < 64) (hx : s.fareNow d st = some x) (h : s.callsAtMost 39) :
    (priceForeign d b st s).awaits d .unstamp (.tripTable b) := by
  rw [priceForeign_prices hroom hx]
  refine finishPricing_awaits ?_
  unfold State.callsAtMost State.calls
  rw [addTrip_string]
  exact h

end

/-! ### The retry pass (R93) -/

section

variable {s u : State} {d : Dock} {e : Deferral}

theorem retryDock_none (h : s.deferred.get d = none) : retryDock d s = s := by simp only [retryDock, h]

theorem retryDock_some (h : s.deferred.get d = some e)
    (hu : handleArrival d e.bike e.stamp (s.setDeferral d none) = u) : retryDock d s =
    if (u.deferred.get d).isNone = true ∧ (u.dock d).unpriced = true then reportUnpriced d e.bike false u else u := by
  simp only [retryDock, h, hu]

theorem retryDock_settled (h : s.deferred.get d = some e)
    (hu : handleArrival d e.bike e.stamp (s.setDeferral d none) = u)
    (hkeep : u.deferred.get d ≠ none ∨ (u.dock d).unpriced = false) : retryDock d s = u := by
  rw [retryDock_some h hu]
  refine if_neg fun ⟨hnone, hunpriced⟩ => ?_
  rcases hkeep with hkeep | hkeep
  · exact hkeep (Option.isNone_iff_eq_none.1 hnone)
  · exact Bool.false_ne_true (hkeep.symm.trans hunpriced)

theorem retryDock_unpriced (h : s.deferred.get d = some e)
    (hu : handleArrival d e.bike e.stamp (s.setDeferral d none) = u) (hnone : u.deferred.get d = none)
    (hshown : (u.dock d).bike = some e.bike) : ((retryDock d s).dock d).unpriced = false := by
  rw [retryDock_some h hu, hnone]
  split
  · exact congrArg DockRecord.unpriced (reportDock_own_known (f := fun r => { r with unpriced := false }) hshown)
  next hfree => simpa using hfree

/-- Of the trip records and the deferred arrivals, the report on the dock changes none. -/
theorem retryDock_tables (h : s.deferred.get d = some e)
    (hu : handleArrival d e.bike e.stamp (s.setDeferral d none) = u) :
    (retryDock d s).trips = u.trips ∧ (retryDock d s).deferred = u.deferred := by
  rw [retryDock_some h hu]
  split
  · rw [reportUnpriced, reportDock_frame]
    exact ⟨rfl, rfl⟩
  · exact ⟨rfl, rfl⟩

theorem anyDeferred_iff : s.anyDeferred = true ↔ ∃ d e, s.deferred.get d = some e := by
  unfold State.anyDeferred
  rw [List.any_eq_true]
  constructor
  · rintro ⟨o, ho, hsome⟩
    obtain ⟨i, hi, rfl⟩ := List.mem_iff_getElem.1 ho
    obtain ⟨e, he⟩ := Option.isSome_iff_exists.1 hsome
    exact ⟨⟨i, by simpa using hi⟩, e, by simpa [Vector.get_eq_getElem] using he⟩
  · rintro ⟨d, e, he⟩
    exact ⟨some e, by rw [← he, Vector.get_eq_getElem]; simp, rfl⟩

/-- With failures, step 4 of R171 and the manifest done, a round runs the retry pass that is due. -/
theorem settle_trips (n : Nat) (hfailures : s.agenda.failures = []) (hfollow : s.agenda.followOn = false)
    (hmanifest : s.agenda.manifest = false) (htrips : s.agenda.trips = true) :
    settle (n + 1) s = settle n (if s.anyDeferred then retryPass s.clearTrips else s.clearTrips) := by
  have hbusy : s.agenda.isEmpty = false := by simp [Agenda.isEmpty, htrips]
  have hstep : settleStep s = if s.anyDeferred then retryPass s.clearTrips else s.clearTrips := by
    simp only [settleStep, hfailures, hfollow, hmanifest, htrips, Bool.false_eq_true, if_false, if_true]
    rfl
  rw [settle, hbusy, hstep]
  rfl

end

/-! ### O25 -/

section

variable {s : State} {d : Dock} {b : Bike} {st : StampFields}

/-- What an arrival removes of the deferred entries, dock by dock. -/
theorem clearDeferred_others (d x : Dock) (b : Bike) (s : State) (hx : x ≠ d) :
    (∀ e, s.deferred.get x = some e → e.bike = b → (clearDeferred d b s).deferred.get x = none ∧
      ((s.dock x).bike = some b →
        ((clearDeferred d b s).dock x).known = ({ s.dock x with unpriced := false } : DockRecord).known)) ∧
    ((∀ e, s.deferred.get x = some e → e.bike ≠ b) → (clearDeferred d b s).deferred.get x = s.deferred.get x) := by
  refine ⟨fun e he hb => ?_, fun hother => ?_⟩
  · obtain ⟨hgone, hknown⟩ := clearDeferred_reclaimed ⟨hx, e, he, hb⟩
    exact ⟨hgone, fun hshown => hknown.trans (by rw [if_pos hshown])⟩
  · exact (clearDeferred_kept fun ⟨_, e, he, hb⟩ => hother e he hb).2 hx

/-- Only a dock that shows the bicycle is told of its withdrawn entry. -/
theorem clearDeferred_known {x : Dock}
    (h : x = d ∨ (s.dock x).bike ≠ some b ∨ ∀ e, s.deferred.get x = some e → e.bike ≠ b) :
    ((clearDeferred d b s).dock x).known = (s.dock x).known := by
  by_cases hreclaimed : s.reclaims d b x
  · have haway : (s.dock x).bike ≠ some b := by
      obtain ⟨hx, e, he, hb⟩ := hreclaimed
      exact (h.resolve_left hx).resolve_right fun hother => hother e he hb
    exact (clearDeferred_reclaimed hreclaimed).2.trans (by rw [if_neg haway])
  · exact (clearDeferred_kept hreclaimed).1

end

/-- Settles O25: the entries removed (`clearDeferred_others`), the rows of R87 for a record (`arrivalCases_duplicate`,
`arrivalCases_never_left`, `arrivalCases_other_trip`, `arrivalCases_superseded`) and for none
(`priceForeign_found`), and the retry pass (`settle_trips`). -/
theorem arrivalsJudged : Obligations.ArrivalsJudged := by
  unfold Obligations.ArrivalsJudged
  refine ⟨fun s d b st => ⟨clearDeferred d b s, rfl, clearDeferred_frame d b s, clearDeferred_own d b s,
      fun x hx => clearDeferred_others d x b s hx, fun x => clearDeferred_known⟩,
    fun s d b st r hr => ?_, fun s d b st hnone => ?_,
    fun s => ⟨rfl, fun d => retryDock_none, fun d e he => ?_, fun n hfailures hfollow hmanifest htrips => ?_⟩⟩
  · refine ⟨?_, ?_, ?_, ?_⟩
    · intro p hmatch hp
      rw [arrivalCases_duplicate hr (stampMatches_iff.2 hmatch) hp]
      refine ⟨fun hdone => if_neg ?_, fun hun hask hroom => ?_⟩
      · rintro ⟨hun, hask⟩
        exact hdone.elim (fun h => Bool.false_ne_true (hun.symm.trans h)) fun h => h hask
      · rw [if_pos ⟨hun, hask⟩]
        exact queueUnstamp_joins hroom b
    · intro hmatch hstate hdock
      rw [arrivalCases_never_left hr (stampMatches_iff.2 hmatch) hstate hdock]
      refine ⟨fun hdone => if_neg ?_, fun hcancel hask hroom => ?_⟩
      · rintro ⟨hnames, hask⟩
        exact hdone.elim (fun ⟨y, hy, hb⟩ => cancelNames_eq_false_iff.1 hnames y hy hb) fun h => h hask
      · rw [if_pos ⟨cancelNames_eq_false_iff.2 hcancel, hask⟩]
        exact queueUnstamp_joins hroom b
    · intro hother hstate
      have hout : r.state ≠ .out := by
        intro h
        simp [h] at hstate
      obtain ⟨hframe, hshown, haway, hothers⟩ := deferArrival_defers d b st s
      rw [arrivalCases_other_trip hr (Bool.eq_false_iff.2 (mt stampMatches_iff.1 hother)) hout]
      exact ⟨hframe, hshown, haway, hothers⟩
    · intro hother hstate
      obtain ⟨-, rfl⟩ := bike_of_findTrip hr
      refine ⟨supersede r s, ?_, findTrip_supersede r s, supersede_eq r s,
        fun horphan => by rw [supersede_orphan horphan]; rfl, fun horphan e he => ⟨fun hlink hactivity =>
          supersede_freed horphan he hlink hactivity, fun hfree => supersede_unlinked horphan he hfree⟩⟩
      rw [arrivalCases_superseded hr (Bool.eq_false_iff.2 (mt stampMatches_iff.1 hother)) hstate,
        arrivalCases_none (findTrip_supersede r s)]
  · refine ⟨?_, ?_⟩
    · intro x hset hroom hx
      have hx := fareNow_eq_some hset hx
      rw [arrivalCases_none hnone]
      refine ⟨priceForeign_found hnone hroom hx, fun c hc => priceForeign_other hnone hroom hx hc,
        priceForeign_cards hroom hx, priceForeign_deferred hroom hx, priceForeign_notes_trips hnone hroom hx,
        priceForeign_own_known hroom hx, fun hflight hqueue => ?_⟩
      exact (priceForeign_awaits hroom hx (callsAtMost_of_filter hflight hqueue)).2
    · intro hno
      have hno := hno.elim (fun h => Or.inr (fareNow_eq_none (.inl h)))
        fun h => h.imp_right fun h => fareNow_eq_none (.inr h)
      obtain ⟨hframe, hshown, haway, hothers⟩ := deferArrival_defers d b st s
      rw [arrivalCases_none hnone, priceForeign_defers hno]
      exact ⟨hframe, hshown, haway, hothers⟩
  · intro u
    have hu : handleArrival d e.bike e.stamp (s.setDeferral d none) = u := rfl
    exact ⟨retryDock_settled he hu, retryDock_unpriced he hu, retryDock_tables he hu⟩
  · rw [settle_trips n hfailures hfollow hmanifest htrips]
    refine ⟨fun hany => by rw [if_pos (anyDeferred_iff.2 hany)]; rfl, fun hnone => ?_⟩
    rw [if_neg fun hany => ?_]
    · rfl
    · obtain ⟨d, e, he⟩ := anyDeferred_iff.1 hany
      exact nomatch he.symm.trans (hnone d)

end Sys2Proof.Machine
end

section
/-! PROOFS. An arrival prices the trip, and the UNSTAMP that follows: pricing in place, the trip that ends with its
bicycle's arrival elsewhere, the per-second look, and the end of the UNSTAMP (R86, R88, R91, R95). -/

namespace Sys2Proof.Machine

open Sys2Proof

/-! ### Pricing in place (R91) -/

section

variable {s : State} {d : Dock} {b c : Bike} {st : StampFields} {r : TripRecord} {x : FareResult} {e : CardEntry}

theorem priced_trips (d : Dock) (b : Bike) (x : FareResult) (r : TripRecord) (s : State) : (s.priced d b x r).trips =
    (s.setTrip b (fun r => { r with state := .priced (pricingOf d s.clock.time x) })).trips := by
  rw [priced_frame]
  rfl

theorem priced_calls {n : Nat} (h : s.callsAtMost n) : (s.priced d b x r).callsAtMost n := by
  rw [priced_frame]
  exact h

theorem priceInPlace_found (hx : s.fareNow d st = some x) (hr : s.findTrip b = some r) :
    (priceInPlace d b st s).findTrip b =
      some { r with state := .priced (pricingOf d s.clock.time x), unstampDock := some d } := by
  obtain ⟨-, rfl⟩ := bike_of_findTrip hr
  rw [priceInPlace_prices hx hr]
  exact findTrip_finishPricing_own ((findTrip_of_trips (priced_trips ..) r.bike).trans (findTrip_setTrip_own hr _))

theorem priceInPlace_other (hx : s.fareNow d st = some x) (hr : s.findTrip b = some r) (h : c ≠ b) :
    (priceInPlace d b st s).findTrip c = s.findTrip c := by
  rw [priceInPlace_prices hx hr, findTrip_finishPricing_other h, findTrip_of_trips (priced_trips ..),
    findTrip_setTrip_other h]

theorem priceInPlace_awaits (hx : s.fareNow d st = some x) (hr : s.findTrip b = some r) (h : s.callsAtMost 39) :
    (priceInPlace d b st s).awaits d .unstamp (.tripTable b) := by
  rw [priceInPlace_prices hx hr]
  exact finishPricing_awaits (priced_calls h)

theorem priced_frees (hforeign : r.foreign = false) (horphan : r.orphan = false) (he : s.findCard r.stamp.card = some e)
    (hlink : e.link = some (b, r.stamp.start)) (hactivity : e.activity = .pending ∨ e.activity = .riding) :
    (s.priced d b x r).findCard r.stamp.card = some (freedEntry s (some x.fare) e) := by
  let t := s.moveTrip b (fun r => { r with state := .priced (pricingOf d s.clock.time x) })
  have hfound : t.findCard r.stamp.card = some e := he
  have hpriced : s.priced d b x r = (cardFree r.stamp.card b r.stamp.start (some x.fare) t).1 :=
    if_pos ⟨hforeign, horphan⟩
  rw [hpriced, cardFree_frees hfound hlink hactivity]
  exact findCard_setCard_own hfound _

theorem priceInPlace_frees (hx : s.fareNow d st = some x) (hr : s.findTrip b = some r) (hforeign : r.foreign = false)
    (horphan : r.orphan = false) (he : s.findCard r.stamp.card = some e) (hlink : e.link = some (b, r.stamp.start))
    (hactivity : e.activity = .pending ∨ e.activity = .riding) :
    (priceInPlace d b st s).findCard r.stamp.card = some (freedEntry s (some x.fare) e) := by
  rw [priceInPlace_prices hx hr]
  exact (findCard_of_cards (finishPricing_cards ..) _).trans (priced_frees hforeign horphan he hlink hactivity)

theorem deferArrival_trips (d : Dock) (b : Bike) (st : StampFields) (s : State) :
    (deferArrival d b st s).trips = s.trips := by
  rw [(deferArrival_defers d b st s).frame]

theorem deferArrival_own (d : Dock) (b : Bike) (st : StampFields) (s : State) :
    (deferArrival d b st s).deferred.get d = some { bike := b, stamp := st } := by
  rw [(deferArrival_defers d b st s).frame]
  exact (get_set ..).trans (if_pos rfl)

end

/-! ### The trip that ends with its bicycle's arrival (R88) -/

section

variable {s : State} {d x : Dock} {b : Bike} {st : StampFields} {r : TripRecord} {y : ReleaseContext}

/-- What becomes of the record and its contexts when its bicycle arrives elsewhere. -/
def endTrip (r : TripRecord) (s : State) : State :=
  if r.state = .cancelling then latePullTrip r s
  else
    match r.releaseDock with
    | some x =>
      match s.releaseOf x r.bike (fun _ => true) with
      | some ctx => pullRelease x ctx s
      | none => tripOut r.bike false s
    | none => tripOut r.bike false s

theorem endByArrival_eq (r : TripRecord) (s : State) :
    endByArrival r s = emptyReleaseDock r.releaseDock r.bike (endTrip r s) := rfl

/-- The release context of the record's bicycle at the record's release dock. -/
def State.releaseFor (s : State) (r : TripRecord) (x : Dock) (y : ReleaseContext) : Prop :=
  r.releaseDock = some x ∧ s.release x = some y ∧ y.bike = r.bike

theorem endTrip_cancelling (h : r.state = .cancelling) : endTrip r s = latePullTrip r s := if_pos h

theorem endTrip_released (hstate : r.state = .releasing) (h : s.releaseFor r x y) :
    endTrip r s = pullRelease x y s := by
  obtain ⟨hx, hy, hb⟩ := h
  have hof : s.releaseOf x r.bike (fun _ => true) = some y := hb ▸ releaseOf_found hy rfl
  simp only [endTrip, hstate, reduceCtorEq, if_false, hx, hof]

theorem endTrip_unreleased (hstate : r.state = .releasing) (h : ∀ x y, ¬s.releaseFor r x y) :
    endTrip r s = tripOut r.bike false s := by
  unfold endTrip
  rw [if_neg (by rw [hstate]; decide)]
  split
  next x hx =>
    rw [releaseOf_none fun y hy => .inl fun hb => h x y ⟨hx, hy, hb⟩]
  next => rfl

/-- A release of the bicycle at the record's release dock is OVERDUE. -/
def State.lateAt (s : State) (rd : Option Dock) (b : Bike) : Bool :=
  match rd with
  | some x => (match s.release x with
    | some y => decide (y.bike = b ∧ y.phase = .overdue)
    | none => false)
  | none => false

theorem lateAt_released (h : s.releaseFor r x y) : s.lateAt r.releaseDock r.bike = decide (y.phase = .overdue) := by
  obtain ⟨hx, hy, hb⟩ := h
  simp only [State.lateAt, hx, hy, hb, true_and]

theorem lateAt_unreleased (h : ∀ x y, ¬s.releaseFor r x y) : s.lateAt r.releaseDock r.bike = false := by
  unfold State.lateAt
  split
  next x hx =>
    split
    next y hy => exact decide_eq_false fun ⟨hb, _⟩ => h x y ⟨hx, hy, hb⟩
    next => rfl
  next => rfl

/-- A RELEASING record becomes OUT, LATE_PULL where its release was OVERDUE, and its release context goes. -/
theorem endTrip_releasing (hr : s.findTrip r.bike = some r) (hstate : r.state = .releasing)
    (hmember : ∀ x y, s.releaseFor r x y → y.kind = .member ∧ y.start = r.stamp.start) :
    (endTrip r s).findTrip r.bike =
      some { r with state := .out, latePull := r.latePull || s.lateAt r.releaseDock r.bike } ∧
    ∀ x y, ¬(endTrip r s).releaseFor r x y := by
  by_cases h : ∃ x y, s.releaseFor r x y
  · obtain ⟨x, y, h⟩ := h
    obtain ⟨hkind, hstart⟩ := hmember x y h
    rw [endTrip_released hstate h, lateAt_released h]
    obtain ⟨hx, hy, hb⟩ := h
    obtain ⟨hfound, -⟩ := pullRelease_trip (d := x) hkind (hb.symm ▸ hr) hstate hstart.symm
    refine ⟨hb ▸ hfound, fun x' z ⟨hx', hz, _⟩ => ?_⟩
    rw [← Option.some.inj (hx.symm.trans hx'),
      pullRelease_member hkind (hb.symm ▸ hr) hstate hstart.symm, setRelease_release, if_pos rfl] at hz
    cases hz
  · have hnone : ∀ x y, ¬s.releaseFor r x y := fun x y hy => h ⟨x, y, hy⟩
    rw [endTrip_unreleased hstate hnone, lateAt_unreleased hnone]
    exact ⟨findTrip_setTrip_own hr _, hnone⟩

/-- A CANCELLING record becomes OUT with LATE_PULL, ORPHAN where its card has moved on, and no cancel context names the
bicycle. -/
theorem endTrip_cancelled (hr : s.findTrip r.bike = some r) (hstate : r.state = .cancelling) :
    (∃ o, (endTrip r s).findTrip r.bike = some { r with state := .out, latePull := true, orphan := o } ∧
      (o = r.orphan ∨ o = true) ∧
      ((∀ e, s.findCard r.stamp.card = some e → ¬(e.activity = .idle ∧ e.link = none ∧ e.queuedDock = none)) →
        o = true)) ∧
    ∀ e y, (endTrip r s).cancel e = some y → y.bike ≠ r.bike := by
  rw [endTrip_cancelling hstate]
  refine ⟨?_, dropCancelOf_gone _ _⟩
  by_cases h : ∀ e, s.findCard r.stamp.card = some e → ¬(e.activity = .idle ∧ e.link = none ∧ e.queuedDock = none)
  · obtain ⟨v, hdrop⟩ := dropCancelOf_writes r.bike
      ((tripOut r.bike true s).setTrip r.bike (fun r => { r with orphan := true }))
    rw [latePullTrip_orphans h, hdrop]
    exact ⟨true, findTrip_setTrip_own (tripOut_found hr) _, .inr rfl, fun _ => rfl⟩
  · push Not at h
    obtain ⟨e, he, hidle, hlink, hdock⟩ := h
    obtain ⟨v, hdrop⟩ := dropCancelOf_writes r.bike ((tripOut r.bike true s).setCard r.stamp.card
      (fun e => { e with activity := .riding, link := some (r.bike, r.stamp.start) }))
    rw [latePullTrip_relinks he hidle hlink hdock, hdrop]
    exact ⟨r.orphan, tripOut_found hr, .inl rfl, fun hmoved => absurd ⟨hidle, hlink, hdock⟩ (hmoved e he)⟩

end

/-! ### The release dock becomes EMPTY (R88) -/

section

variable {P : State → Prop} {s : State} {d x : Dock} {b : Bike} {st : StampFields} {r : TripRecord}

theorem managed_emptyReleaseDock (h : ManifestClosed P) (hset : ∀ d f s, P s → P (s.setDock d f))
    (hleave : ∀ d s, P s → P (s.setDeferral d none)) (rd : Option Dock) (b : Bike) (hs : P s) :
    P (emptyReleaseDock rd b s) := by
  unfold emptyReleaseDock
  split
  · dsimp only
    split
    · exact managed_tellOccupancy h _ _ (closed_selectLamp h.toLampClosed _ _ (hleave _ _ (hset _ _ s hs)))
    · exact hs
  · exact hs

/-- The manifest's work, lamps and docks leave the trips and the contexts of the Hire Unit. -/
theorem contexts_managed (l : List TripRecord) (v : Vector (Option ReleaseContext) 30)
    (w : Vector (Option CancelContext) 30) :
    ManifestClosed (fun t => t.trips = l ∧ t.hire.releases = v ∧ t.hire.cancels = w) where
  lampDock _ _ _ _ h := h
  show_ _ _ s h := by rwa [enqueue_trips, enqueue_hire]
  takeNext s h := by rwa [takeNext_trips, takeNext_hire]
  setManifest _ _ _ h := h
  noteManifest _ h := h
  noteFollowOn _ h := h
  filterHire _ _ h := h

theorem emptyReleaseDock_contexts (rd : Option Dock) (b : Bike) (s : State) :
    (emptyReleaseDock rd b s).trips = s.trips ∧ (emptyReleaseDock rd b s).hire.releases = s.hire.releases ∧
    (emptyReleaseDock rd b s).hire.cancels = s.hire.cancels :=
  managed_emptyReleaseDock (contexts_managed _ _ _) (fun _ _ _ h => h) (fun _ _ h => h) rd b ⟨rfl, rfl, rfl⟩

theorem emptyDock_known (d : Dock) (s : State) : ((emptyDock d s).dock d).known = (s.dock d).left.known := by
  unfold emptyDock
  exact closed_tellOccupancy (known_closed d _) d _ (closed_selectLamp (known_closed d _).toLampClosed d _
    (setDock_own_known (s := s) DockRecord.left d))

/-- The dock still shows the bicycle, in RELEASING or OCCUPIED. -/
def DockRecord.holdsStill (k : DockRecord) (b : Bike) : Prop :=
  (k.occupancy = .releasing ∨ k.occupancy = .occupied) ∧ k.bike = some b

theorem emptyReleaseDock_empties (h : (s.dock x).holdsStill b) :
    ((emptyReleaseDock (some x) b s).dock x).occupancy = .empty ∧
    ((emptyReleaseDock (some x) b s).dock x).bike = none := by
  have hdock : emptyReleaseDock (some x) b s = emptyDock x s := if_pos h
  have hknown := emptyDock_known x s
  rw [hdock]
  exact ⟨congrArg DockRecord.occupancy hknown, congrArg DockRecord.bike hknown⟩

theorem endTrip_known (r : TripRecord) (x : Dock) (s : State) : ((endTrip r s).dock x).known = (s.dock x).known := by
  have htripped := known_tripped x (s.dock x).known
  have hout : ((tripOut r.bike false s).dock x).known = (s.dock x).known := rfl
  unfold endTrip
  split
  · exact tripped_latePullTrip htripped r s rfl
  split
  · split
    · exact tripped_pullRelease htripped _ _ s rfl
    · exact hout
  · exact hout

theorem holdsStill_of_known {k k' : DockRecord} (h : k.known = k'.known) (hk : k'.holdsStill b) : k.holdsStill b := by
  have hocc : k.occupancy = k'.occupancy := congrArg (·.occupancy) h
  have hbike : k.bike = k'.bike := congrArg (·.bike) h
  unfold DockRecord.holdsStill
  rwa [hocc, hbike]

theorem endByArrival_empties (hx : r.releaseDock = some x) (h : (s.dock x).holdsStill r.bike) :
    ((endByArrival r s).dock x).occupancy = .empty ∧ ((endByArrival r s).dock x).bike = none := by
  rw [endByArrival_eq, hx]
  exact emptyReleaseDock_empties (holdsStill_of_known (endTrip_known r x s) h)

theorem endByArrival_findTrip (r : TripRecord) (b : Bike) (s : State) :
    (endByArrival r s).findTrip b = (endTrip r s).findTrip b :=
  findTrip_of_trips (emptyReleaseDock_contexts ..).1 b

theorem endByArrival_release (r : TripRecord) (x : Dock) (s : State) :
    (endByArrival r s).release x = (endTrip r s).release x :=
  congrArg (fun v : Vector (Option ReleaseContext) 30 => v.get x) (emptyReleaseDock_contexts ..).2.1

theorem endByArrival_cancel (r : TripRecord) (x : Dock) (s : State) :
    (endByArrival r s).cancel x = (endTrip r s).cancel x :=
  congrArg (fun v : Vector (Option CancelContext) 30 => v.get x) (emptyReleaseDock_contexts ..).2.2

/-- Once the trip is OUT the arrival is the one of R91. -/
theorem arrivalCases_end {r' : TripRecord} (hr : s.findTrip b = some r) (hmatch : stampMatches r st = true)
    (hstate : r.state = .releasing ∨ (r.state = .cancelling ∧ r.releaseDock ≠ some d))
    (hout : (endByArrival r s).findTrip b = some r') (hr' : r'.state = .out) (hstamp : r'.stamp = r.stamp) :
    arrivalCases d b st s = arrivalCases d b st (endByArrival r s) := by
  have hmatch' : stampMatches r' st = true := by rwa [stampMatches, hstamp]
  rw [arrivalCases_ended hr hmatch hstate, arrivalCases_out hout hmatch' hr']

end

/-! ### The per-second look, and the end of the UNSTAMP (R95) -/

section

variable {s : State} {d : Dock} {b : Bike} {r : TripRecord}

/-- The record's stamp at the dock is to be cleared. -/
def State.unstampDue (s : State) (r : TripRecord) (d : Dock) : Prop :=
  ((∃ p, r.state = .priced p ∧ r.unstamped = false ∧ p.returnDock = d) ∨
    (r.state = .cancelling ∧ r.releaseDock = some d ∧ ∀ y, s.cancel d = some y → y.bike ≠ r.bike)) ∧
  r.unstampDock = none ∧ (s.dock d).bike = some r.bike ∧ (s.link (dockNode d)).contact ≠ .lost

theorem unstampAt_iff : unstampAt r = some d ↔
    (∃ p, r.state = .priced p ∧ r.unstamped = false ∧ p.returnDock = d) ∨
    (r.state = .cancelling ∧ r.releaseDock = some d) := by
  unfold unstampAt
  split
  next p hp => cases hun : r.unstamped <;> simp [hp]
  next hcancelling => simp [hcancelling]
  next hstate => simp [hstate]
  next hstate => simp [hstate]

/-- What the look asks of the dock and of the Hire Unit before it queues the UNSTAMP. -/
def State.mayUnstamp (s : State) (r : TripRecord) (d : Dock) : Prop :=
  r.unstampDock = none ∧ (s.dock d).bike = some r.bike ∧ s.contact d ≠ .lost ∧
    ¬(r.state = .cancelling ∧ s.cancelNames d r.bike = true)

theorem unstampDue_iff : s.unstampDue r d ↔ unstampAt r = some d ∧ s.mayUnstamp r d := by
  rw [unstampAt_iff]
  unfold State.unstampDue State.mayUnstamp
  constructor
  · rintro ⟨⟨p, hp, hun, hd⟩ | ⟨hstate, hdock, hnames⟩, hask, hheld, hcontact⟩
    · exact ⟨.inl ⟨p, hp, hun, hd⟩, hask, hheld, hcontact, fun ⟨hstate, _⟩ => nomatch hp.symm.trans hstate⟩
    · exact ⟨.inr ⟨hstate, hdock⟩, hask, hheld, hcontact,
        fun ⟨_, h⟩ => Bool.false_ne_true ((cancelNames_eq_false_iff.2 hnames).symm.trans h)⟩
  · rintro ⟨hpriced | ⟨hstate, hdock⟩, hask, hheld, hcontact, hnames⟩
    · exact ⟨.inl hpriced, hask, hheld, hcontact⟩
    · refine ⟨.inr ⟨hstate, hdock, cancelNames_eq_false_iff.1 (Bool.eq_false_iff.2 fun h => hnames ⟨hstate, h⟩)⟩,
        hask, hheld, hcontact⟩

theorem tripTickOne_due (h : s.unstampDue r d) : tripTickOne r s = queueUnstamp d r.bike s := by
  obtain ⟨hat, hmay⟩ := unstampDue_iff.1 h
  unfold tripTickOne
  rw [hat]
  exact if_pos hmay

theorem tripTickOne_quiet (h : ∀ d, ¬s.unstampDue r d) : tripTickOne r s = s := by
  unfold tripTickOne
  split
  next d hd => exact if_neg fun hmay => h d (unstampDue_iff.2 ⟨hd, hmay⟩)
  next => rfl

/-- The UNSTAMP that the record awaited at the dock has ended. -/
def State.unawaited (s : State) (d : Dock) (b : Bike) : State :=
  s.setTrip b (fun r => if r.unstampDock = some d then { r with unstampDock := none } else r)

theorem tripUnstampEnd_failed (d : Dock) (b : Bike) (s : State) : tripUnstampEnd d b false s = s.unawaited d b := rfl

theorem findTrip_unawaited (hr : s.findTrip b = some r) (hask : r.unstampDock = some d) :
    (s.unawaited d b).findTrip b = some { r with unstampDock := none } := by
  obtain ⟨-, hbike⟩ := bike_of_findTrip hr
  refine (findTrip_setTrip_own hr _).trans ?_
  rw [if_pos hask, ← hbike]

theorem tripUnstampEnd_away (h : (s.dock d).bike ≠ some b) : tripUnstampEnd d b true s = s.unawaited d b := by
  have haway : ((s.unawaited d b).dock d).bike ≠ some b := h
  have hreport : reportUnstamped d b (s.unawaited d b) = s.unawaited d b := reportDock_away haway
  unfold tripUnstampEnd
  rw [if_pos rfl]
  dsimp only
  exact (if_neg (mt of_decide_eq_true haway)).trans hreport

/-- What a GOOD end of the UNSTAMP makes of the bicycle's record. -/
def State.tripUnstamped (s : State) (b : Bike) : State :=
  match s.findTrip b with
  | some r =>
    match r.state with
    | .priced _ => s.setTrip b (fun r => { r with unstamped := true })
    | .cancelling => s.dropTrip b
    | .releasing | .out => s
  | none => s

theorem tripUnstamped_docks (s : State) (b : Bike) : (s.tripUnstamped b).docks = s.docks := by
  unfold State.tripUnstamped
  repeat' split
  all_goals rfl

theorem findTrip_tripUnstamped_priced {p : Pricing} (hr : s.findTrip b = some r) (hp : r.state = .priced p) :
    (s.tripUnstamped b).findTrip b = some { r with unstamped := true } := by
  obtain ⟨-, hbike⟩ := bike_of_findTrip hr
  simp only [State.tripUnstamped, hr, hp]
  refine (findTrip_setTrip_own hr _).trans ?_
  rw [hp, ← hbike]

theorem findTrip_tripUnstamped_cancelling (hr : s.findTrip b = some r) (hstate : r.state = .cancelling) :
    (s.tripUnstamped b).findTrip b = none := by
  simp only [State.tripUnstamped, hr, hstate]
  exact findTrip_dropTrip ..

/-- The dock's record of the stamp is cleared, and the trip's told. -/
theorem tripUnstampEnd_held (h : (s.dock d).bike = some b) :
    tripUnstampEnd d b true s = (reportUnstamped d b (s.unawaited d b)).tripUnstamped b := by
  have hheld : ((s.unawaited d b).dock d).bike = some b := h
  unfold tripUnstampEnd
  rw [if_pos rfl]
  dsimp only
  exact if_pos (decide_eq_true hheld)

theorem reportUnstamped_found (hr : s.findTrip b = some r) (hask : r.unstampDock = some d) :
    (reportUnstamped d b (s.unawaited d b)).findTrip b = some { r with unstampDock := none } := by
  refine (findTrip_of_trips ?_ b).trans (findTrip_unawaited hr hask)
  rw [reportUnstamped, reportStamped, reportDock_frame]

theorem tripUnstampEnd_stampSeen (h : (s.dock d).bike = some b) :
    ((tripUnstampEnd d b true s).dock d).stampSeen = .none := by
  rw [tripUnstampEnd_held h, dock_of_docks (tripUnstamped_docks ..)]
  exact congrArg DockRecord.stampSeen (reportStamped_own_known (s := s.unawaited d b) (k := .none) h)

theorem tripUnstampEnd_priced {p : Pricing} (h : (s.dock d).bike = some b) (hr : s.findTrip b = some r)
    (hask : r.unstampDock = some d) (hp : r.state = .priced p) :
    (tripUnstampEnd d b true s).findTrip b = some { r with unstampDock := none, unstamped := true } := by
  rw [tripUnstampEnd_held h]
  exact findTrip_tripUnstamped_priced (reportUnstamped_found hr hask) hp

theorem tripUnstampEnd_cancelling (h : (s.dock d).bike = some b) (hr : s.findTrip b = some r)
    (hask : r.unstampDock = some d) (hstate : r.state = .cancelling) :
    (tripUnstampEnd d b true s).findTrip b = none := by
  rw [tripUnstampEnd_held h]
  exact findTrip_tripUnstamped_cancelling (reportUnstamped_found hr hask) hstate

end

/-! ### An UNSTAMP handed to each block that asked (R17, R18) -/

section

variable {s : State} {c : Call} {d : Dock}

/-- The end of an UNSTAMP, for each of its originators in their order. -/
def unstampEnds (d : Dock) (e : QueueEntry) (good : Bool) (s : State) : State :=
  e.originators.foldl (fun w o => unstampOutcome d good o w) s

theorem dockOutcome_unstamp {e : QueueEntry} (h : e.verb = .unstamp) (d : Dock) (answer : Option Answer) (mark : Bool)
    (o : Originator) (s : State) : dockOutcome d e answer mark o s = unstampOutcome d answer.isSome o s := by
  simp only [dockOutcome, h]

theorem handOutcome_unstamp_good {e : QueueEntry} (h : e.verb = .unstamp) (a : Answer) (mark : Bool) (s : State) :
    handOutcome (dockNode d) e (some a) mark s = unstampEnds d e true (noteButton d a.condition s) := by
  simp only [handOutcome, nodeDock_dockNode, dockOutcome_unstamp h, h, reduceCtorEq, if_false]
  rfl

theorem handOutcome_unstamp_failed {e : QueueEntry} (h : e.verb = .unstamp) (mark : Bool) (s : State) :
    handOutcome (dockNode d) e none mark s = unstampEnds d e false s := by
  simp only [handOutcome, nodeDock_dockNode, dockOutcome_unstamp h]
  rfl

/-- The state in which the end of a call is handed over: of the rest only what the answer itself tells has changed. -/
structure HandedIn (s v : State) : Prop where
  frame : v = { s with string := v.string, docks := v.docks, faults := v.faults, agenda := v.agenda }
  flight : v.string.flight.isSome = true
  told : ∀ e, (v.dock e).told = (s.dock e).told

variable (hflight : s.string.flight = some (.call c)) (hcross : c.crossOf = none) (hd : c.node = dockNode d)
  (hverb : c.entry.verb = .unstamp)

include hflight hcross hd hverb

theorem exec_unstamp_good {got : List Byte} {data : Byte} (hphase : c.phase = .answering got) (hlen : got.length = 2)
    (hsum : sum8 (got ++ [data]) = 0) : ∃ v, exec (.stringCharacterReceived c.on data false) s =
      .next (finishEvent (freeString (unstampEnds d c.entry true v))) ∧ HandedIn s v := by
  have hgot : got ≠ [] := List.ne_nil_of_length_pos (by omega)
  have hdata : got.length + 1 = c.entry.verb.answerData + 3 := by rw [hlen, hverb]; rfl
  obtain ⟨v, hend, hover⟩ := good_call_hands_over hflight hcross (.inl (by rw [hverb]; decide)) hd (c.answer got data)
  obtain ⟨hframe, hfree, htold, -⟩ := handsOver_noteButton hover d _
  rw [handOutcome_unstamp_good hverb] at hend
  exact ⟨_, hend ▸ exec_good_answer hflight hphase (.inl hgot) hdata hsum, frame_of_tells hframe, hfree, htold⟩

theorem exec_unstamp_failed (hlast : 1 + c.retries ≤ c.ended + 1) : ∃ v, exec .answerWindowExpiry s =
      .next (finishEvent (freeString (unstampEnds d c.entry false v))) ∧ HandedIn s v := by
  obtain ⟨v, hend, hover⟩ := failed_call_hands_over hflight hcross hlast (by rw [hverb]; decide)
    (expired_failed c.phase)
  rw [hd, handOutcome_unstamp_failed hverb] at hend
  exact ⟨v, hend ▸ exec_window_call hflight, frame_of_tells hover.frame, hover.flight,
    fun e => told_of_unresynced (hover.unresynced e)⟩

end

theorem deliverFailure_unstamp {e : QueueEntry} {d : Dock} (ht : e.target = .node (dockNode d))
    (hverb : e.verb = .unstamp) (s : State) : deliverFailure e s = unstampEnds d e false s := by
  simp only [deliverFailure, ht]
  exact handOutcome_unstamp_failed hverb false s

/-! ### O53 -/

section

variable {s : State} {d : Dock} {b : Bike} {st : StampFields} {r : TripRecord}

/-- What ends with the arrival leaves the clock, the tariff and the settings. -/
theorem endByArrival_outside (r : TripRecord) (s : State) : (endByArrival r s).clock = s.clock ∧
    (endByArrival r s).fare = s.fare ∧ (endByArrival r s).settings = s.settings := by
  obtain ⟨hsettings, hclock, -, hfare, -⟩ := closed_endByArrival (outside_closed s).toClosed r s
    ⟨rfl, rfl, rfl, rfl, rfl, rfl, rfl⟩
  exact ⟨hclock, hfare, hsettings⟩

end

/-- Settles O53: the arrival priced in place (`priceInPlace_found`, `priceInPlace_frees`), the trip that ends with it
(`endTrip_releasing`, `endTrip_cancelled`, `endByArrival_empties`), the look (`unstampDue_iff`) and the end of the
UNSTAMP (`tripUnstampEnd_held`), handed to each block that asked (`exec_unstamp_good`, `exec_unstamp_failed`). -/
theorem arrivalPriced : Obligations.ArrivalPriced := by
  unfold Obligations.ArrivalPriced
  refine ⟨⟨?_, ?_, ?_, ?_⟩, ?_⟩
  · intro s d b st r hr hout hstart horigin
    rw [arrivalCases_out hr (stampMatches_iff.2 ⟨hstart, horigin⟩) hout]
    refine ⟨fun x hset hx => ?_, fun hno => ?_, ?_⟩
    · have hx := fareNow_eq_some hset hx
      refine ⟨priceInPlace_found hx hr, fun c hc => priceInPlace_other hx hr hc, fun hflight hroom =>
        (priceInPlace_awaits hx hr (callsAtMost_of_filter hflight hroom)).2, fun hforeign horphan e he hlink hact => ?_⟩
      refine ⟨_, priceInPlace_frees hx hr hforeign horphan he hlink hact, ?_⟩
      rw [freedEntry_some]
      exact ⟨rfl, rfl, rfl⟩
    · rw [priceInPlace_defers (fareNow_eq_none hno)]
      exact ⟨(findTrip_of_trips (deferArrival_trips ..) b).trans hr, deferArrival_own ..⟩
    · obtain ⟨hsettings, hclock, hsupply, hfare, hport, -⟩ := closed_priceInPlace (outside_closed s).toClosed d b st s
        ⟨rfl, rfl, rfl, rfl, rfl, rfl, rfl⟩
      exact ⟨hsettings, hclock, hsupply, hfare, hport⟩
  · intro s d b st r hr hstart horigin hstate hmember
    obtain ⟨-, rfl⟩ := bike_of_findTrip hr
    have hmatch := stampMatches_iff.2 ⟨hstart, horigin⟩
    obtain ⟨hclock, hfare, hsettings⟩ := endByArrival_outside r s
    have hempties : ∀ x, r.releaseDock = some x → (s.dock x).bike = some r.bike →
        ((s.dock x).occupancy = .releasing ∨ (s.dock x).occupancy = .occupied) →
        ((endByArrival r s).dock x).occupancy = .empty ∧ ((endByArrival r s).dock x).bike = none :=
      fun x hx hbike hocc => endByArrival_empties hx ⟨hocc, hbike⟩
    rcases hstate with hstate | ⟨hstate, hdock⟩
    · obtain ⟨hfound, hgone⟩ := endTrip_releasing hr hstate fun x y ⟨hx, hy, hb⟩ =>
        (hmember x y hx hy hb).imp_right (·.trans hstart.symm)
      rw [← endByArrival_findTrip] at hfound
      refine ⟨endByArrival r s, arrivalCases_end hr hmatch (.inl hstate) hfound rfl rfl, hclock, hfare, hsettings,
        fun _ => ⟨hfound, fun x y hx hy hb => hgone x y ⟨hx, ?_, hb⟩⟩, fun h => (nomatch hstate.symm.trans h), hempties⟩
      rwa [← endByArrival_release]
    · obtain ⟨⟨o, hfound, ho, hmoved⟩, hgone⟩ := endTrip_cancelled hr hstate
      rw [← endByArrival_findTrip] at hfound
      refine ⟨endByArrival r s, arrivalCases_end hr hmatch (.inr ⟨hstate, hdock⟩) hfound rfl rfl, hclock, hfare,
        hsettings, fun h => (nomatch hstate.symm.trans h), fun _ => ⟨⟨o, hfound, ho, hmoved⟩, fun e y hy => ?_⟩,
        hempties⟩
      rw [endByArrival_cancel] at hy
      exact hgone e y hy
  · intro s r
    refine ⟨tripTickOne_quiet, fun d hdue hflight hroom hnew => ?_⟩
    rw [tripTickOne_due hdue]
    exact queueUnstamp_joins ⟨hflight, hroom, hnew⟩ r.bike
  · intro s d b r hs hr hask
    refine ⟨?_, fun haway => ?_, fun hheld => ⟨tripUnstampEnd_stampSeen hheld,
      fun p hp => tripUnstampEnd_priced hheld hr hask hp, tripUnstampEnd_cancelling hheld hr hask⟩⟩
    · rw [tripUnstampEnd_failed, findTrip_unawaited hr hask]
    · rw [tripUnstampEnd_away haway]
      exact ⟨findTrip_unawaited hr hask, rfl⟩
  · intro s c d hflight hcross hd ht hverb ended
    have hended : ∀ good v, ended good v = unstampEnds d c.entry good v := fun good v =>
      congrArg (fun f => c.entry.originators.foldl f v) (funext₂ fun w o => by cases o <;> rfl)
    refine ⟨fun got data hphase hlen hsum => ?_, fun hlast => ?_, ?_⟩
    · obtain ⟨v, hexec, hframe, hfree, htold⟩ := exec_unstamp_good hflight hcross hd hverb hphase hlen hsum
      refine ⟨v, ?_, hframe, hfree, htold⟩
      rw [hexec, hended]
    · obtain ⟨v, hexec, hframe, hfree, htold⟩ := exec_unstamp_failed hflight hcross hd hverb hlast
      refine ⟨v, ?_, hframe, hfree, htold⟩
      rw [hexec, hended]
    · rw [deliverFailure_unstamp ht hverb, hended]

end Sys2Proof.Machine
end

section
/-! PROOFS. The stages of a fare, and the bank, the plan, the duration and the incentive that it is computed from
(R109, R111 to R117). -/

namespace Sys2Proof.Machine

open Sys2Proof

/-! ### Duration (R111) -/

theorem clampDuration_eq (d : Nat) : clampDuration d =
    (if 2 ^ 31 ≤ d then 0 else min d 604800, decide (2 ^ 31 ≤ d), decide (604800 < d ∧ d < 2 ^ 31)) := by
  unfold clampDuration
  split
  next hskew => rw [decide_eq_true hskew, decide_eq_false (by omega)]
  next hskew =>
    rw [decide_eq_false hskew]
    split
    next hlong => rw [decide_eq_true (by omega), Nat.min_eq_right (by omega)]
    next hlong => rw [decide_eq_false (by omega), Nat.min_eq_left (by omega)]

theorem clampDuration_le (d : Nat) : (clampDuration d).1 ≤ 604800 := by
  rw [clampDuration_eq]
  dsimp only
  split
  · exact Nat.zero_le _
  · exact Nat.min_le_right ..

/-! ### The walk of the bands (R113) -/

theorem ceilDiv_le {a b : Nat} (hb : 1 ≤ b) : ceilDiv a b ≤ a := by
  have hlt : a + b - 1 < (a + 1) * b := by
    have : a * 1 ≤ a * b := Nat.mul_le_mul_left a hb
    rw [Nat.add_mul]
    omega
  exact Nat.le_of_lt_succ ((Nat.div_lt_iff_lt_mul hb).2 hlt)

/-- The blocks of all bands together never exceed the minutes, since a block is at least one minute. -/
theorem walkBands_le {r : Nat} : ∀ (l : List Band) (left raw : Nat), (∀ b ∈ l, 1 ≤ b.block ∧ b.rate ≤ r) →
    walkBands l left raw ≤ raw + left * r
  | [], _, _, _ => Nat.le_add_right ..
  | [b], left, raw, h => by
    obtain ⟨hblock, hrate⟩ := h b List.mem_cons_self
    exact Nat.add_le_add_left (Nat.mul_le_mul (ceilDiv_le hblock) hrate) raw
  | b :: c :: l, left, raw, h => by
    obtain ⟨⟨hblock, hrate⟩, hrest⟩ := List.forall_mem_cons.1 h
    have hband : ceilDiv (min left b.length) b.block * b.rate ≤ min left b.length * r :=
      Nat.mul_le_mul (ceilDiv_le hblock) hrate
    have hsplit : min left b.length * r + (left - min left b.length) * r = left * r := by
      rw [← Nat.add_mul, Nat.add_sub_cancel' (Nat.min_le_left ..)]
    have hwalk := walkBands_le (c :: l) (left - min left b.length)
      (raw + ceilDiv (min left b.length) b.block * b.rate) hrest
    rw [walkBands]
    · omega
    · exact List.cons_ne_nil c l

/-! ### The result, field by field (R112 to R117) -/

/-- The scaled charge with the unlock fee, less the incentive, before the saturation (R115, R116). -/
def fareSum (p : Plan) (k raw : Nat) (inc : Bool) : Nat :=
  if inc then (raw * p.factor + 64) / 128 + p.unlock - k else (raw * p.factor + 64) / 128 + p.unlock

section

variable (p : Plan) (k duration ceiling : Nat) (inc gf pf : Bool)

theorem computeFare_minutes : (computeFare p k duration ceiling inc gf pf).minutes =
    ceilDiv (chargeable (clampDuration duration).1 p.grace) 60 := rfl

theorem computeFare_days : (computeFare p k duration ceiling inc gf pf).days =
    if p.cap = 0 then 0 else startedDays (clampDuration duration).1 := rfl

theorem computeFare_grace : (computeFare p k duration ceiling inc gf pf).flags.grace =
    decide (chargeable (clampDuration duration).1 p.grace = 0) := rfl

theorem computeFare_capped_iff : (computeFare p k duration ceiling inc gf pf).flags.capped = true ↔
    p.cap ≠ 0 ∧ p.cap * (computeFare p k duration ceiling inc gf pf).days <
      walkBands p.bands (computeFare p k duration ceiling inc gf pf).minutes 0 := by
  rw [← decide_eq_true_iff (p := p.cap ≠ 0), ← decide_eq_true_iff (p := _ < _), ← Bool.and_eq_true]
  exact Iff.rfl

theorem computeFare_raw : (computeFare p k duration ceiling inc gf pf).raw =
    if (computeFare p k duration ceiling inc gf pf).flags.capped = true then
      p.cap * (computeFare p k duration ceiling inc gf pf).days
    else walkBands p.bands (computeFare p k duration ceiling inc gf pf).minutes 0 := rfl

theorem computeFare_saturated : (computeFare p k duration ceiling inc gf pf).flags.saturated =
    decide (65535 < fareSum p k (computeFare p k duration ceiling inc gf pf).raw inc) := rfl

/-- Both limits of R117 have this form: the saturation first, then the ceiling. -/
theorem limit_eq_min (n limit : Nat) : (if decide (limit < n) = true then limit else n) = min n limit := by
  simp only [decide_eq_true_eq]
  split <;> omega

theorem computeFare_ceiling : (computeFare p k duration ceiling inc gf pf).flags.ceiling =
    decide (ceiling < min (fareSum p k (computeFare p k duration ceiling inc gf pf).raw inc) 65535) := by
  rw [← limit_eq_min]
  rfl

theorem computeFare_fare : (computeFare p k duration ceiling inc gf pf).fare =
    min (min (fareSum p k (computeFare p k duration ceiling inc gf pf).raw inc) 65535) ceiling := by
  have hheld : (computeFare p k duration ceiling inc gf pf).fare =
      if (computeFare p k duration ceiling inc gf pf).flags.ceiling = true then ceiling
      else if decide (65535 < fareSum p k (computeFare p k duration ceiling inc gf pf).raw inc) = true then 65535
      else fareSum p k (computeFare p k duration ceiling inc gf pf).raw inc := rfl
  rw [hheld, computeFare_ceiling, limit_eq_min, limit_eq_min]

theorem chargeable_le (d g : Nat) : chargeable d g ≤ d := by
  unfold chargeable
  split <;> omega

theorem computeFare_minutes_le : (computeFare p k duration ceiling inc gf pf).minutes ≤ 10080 := by
  have hc : chargeable (clampDuration duration).1 p.grace ≤ 604800 :=
    (chargeable_le ..).trans (clampDuration_le duration)
  rw [computeFare_minutes, ceilDiv]
  omega

theorem computeFare_days_le (h : p.cap ≠ 0) : (computeFare p k duration ceiling inc gf pf).days ≤ 7 := by
  have hd := clampDuration_le duration
  rw [computeFare_days, if_neg h, startedDays, ceilDiv]
  omega

/-- The cap only lowers the charge of the bands. -/
theorem computeFare_raw_le : (computeFare p k duration ceiling inc gf pf).raw ≤
    walkBands p.bands (computeFare p k duration ceiling inc gf pf).minutes 0 := by
  rw [computeFare_raw]
  split
  next hcapped => exact Nat.le_of_lt ((computeFare_capped_iff ..).1 hcapped).2
  next => exact Nat.le_refl _

/-- 10,080 minutes at the highest rate (R113). -/
theorem computeFare_raw_bound (h : ∀ b ∈ p.bands, 1 ≤ b.block ∧ b.rate ≤ 65535) :
    (computeFare p k duration ceiling inc gf pf).raw ≤ 660592800 := by
  have hraw := computeFare_raw_le p k duration ceiling inc gf pf
  have hwalk := walkBands_le p.bands (computeFare p k duration ceiling inc gf pf).minutes 0 h
  have hm := computeFare_minutes_le p k duration ceiling inc gf pf
  omega

end

/-- Settles O30: each stage is a field of the result (`computeFare_raw`, `computeFare_fare`), and the charge is bounded
along the walk of the bands (`walkBands_le`). -/
theorem fareStages : Obligations.FareStages := by
  unfold Obligations.FareStages
  refine ⟨fun p k duration ceiling inc gf pf => ?_, fun b left raw => rfl, fun b c rest left raw => rfl,
    fun left raw => rfl, fun raw => by omega, fun p => rfl, fun p k duration ceiling inc gf pf _ hfactor hbands => ?_⟩
  · intro x d c m days raw scaled sum
    have hgrace : x.flags.grace = true ↔ c = 0 := by
      rw [computeFare_grace, decide_eq_true_iff]
      exact Iff.rfl
    have hcapped : x.flags.capped = true ↔ p.cap ≠ 0 ∧ p.cap * days < walkBands p.bands m 0 :=
      computeFare_capped_iff p k duration ceiling inc gf pf
    have hraw : x.raw = raw := (computeFare_raw ..).trans (if_congr hcapped rfl rfl)
    have hsum : fareSum p k x.raw inc = sum := by rw [hraw]; rfl
    have hsaturated : x.flags.saturated = true ↔ 65535 < sum := by
      rw [computeFare_saturated, decide_eq_true_iff, hsum]
    have hceiling : x.flags.ceiling = true ↔ ceiling < min sum 65535 := by
      rw [computeFare_ceiling, decide_eq_true_iff, hsum]
    have hfare : x.fare = min (min sum 65535) ceiling := by rw [computeFare_fare, hsum]
    refine ⟨hgrace, rfl, hraw, fun hcap => if_neg hcap, hcapped, hsaturated, hceiling, hfare, ?_, ?_,
      clampDuration_le duration, computeFare_minutes_le p k duration ceiling inc gf pf,
      computeFare_days_le p k duration ceiling inc gf pf, fun h => ?_, fun h => ?_⟩
    · omega
    · omega
    · rw [Bool.eq_false_iff, ne_eq, hceiling]
      omega
    · rw [hceiling]
      have := hsaturated.1 h
      omega
  · have hbound := computeFare_raw_bound p k duration ceiling inc gf pf hbands
    have hproduct := Nat.mul_le_mul hbound hfactor
    exact ⟨hbound, by omega, by omega⟩

/-! ### Selection (R109) -/

section

variable {f : FareUnit} {b : Bank} {g : Fin 16} {p q : Fin 8} {gf pf : Bool}

theorem selectBank_current (h : f.current.valid = true ∧ f.current.generation = g) :
    f.selectBank g = some (f.current, false) := if_pos h

theorem selectBank_previous (hcurrent : ¬(f.current.valid = true ∧ f.current.generation = g))
    (h : f.previous.valid = true ∧ f.previous.generation = g) : f.selectBank g = some (f.previous, false) :=
  (if_neg hcurrent).trans (if_pos h)

theorem selectBank_fallback (hcurrent : f.current.generation ≠ g)
    (hprevious : ¬(f.previous.valid = true ∧ f.previous.generation = g)) (h : f.current.valid = true) :
    f.selectBank g = some (f.current, true) :=
  (if_neg fun hsame => hcurrent hsame.2).trans ((if_neg hprevious).trans (if_pos h))

theorem selectBank_none (hcurrent : f.current.valid = false)
    (hprevious : ¬(f.previous.valid = true ∧ f.previous.generation = g)) : f.selectBank g = none := by
  simp only [FareUnit.selectBank, hcurrent, hprevious, Bool.false_eq_true, false_and, if_false]

theorem defined_iff {x : Plan} : x.defined = true ↔ x.count ≠ 0 := decide_eq_true_iff

theorem selectPlan_own (h : (b.plans.get p).count ≠ 0) : b.selectPlan p = some (p, false) :=
  if_pos (defined_iff.2 h)

theorem selectPlan_fallback (h : (b.plans.get p).count = 0) (hzero : (b.plans.get 0).count ≠ 0) :
    b.selectPlan p = some (0, true) :=
  (if_neg fun hp => defined_iff.1 hp h).trans (if_pos (defined_iff.2 hzero))

theorem selectPlan_none (h : (b.plans.get p).count = 0) (hzero : (b.plans.get 0).count = 0) :
    b.selectPlan p = none :=
  (if_neg fun hp => defined_iff.1 hp h).trans (if_neg fun hp => defined_iff.1 hp hzero)

variable {st : StampFields} {e : Time} {h : Nat} {drop : Bool}

theorem price_of_no_bank (hbank : f.selectBank st.generation = none) : f.price st e h drop = none := by
  simp only [FareUnit.price, hbank]

/-- Only the bank that is selected is tried. -/
theorem price_of_no_plan (hbank : f.selectBank st.generation = some (b, gf)) (hplan : b.selectPlan st.plan = none) :
    f.price st e h drop = none := by
  simp only [FareUnit.price, hbank, hplan]

theorem incentiveApplies_eq (b : Bank) (h : Nat) (drop : Bool) :
    incentiveApplies b h drop = decide (0 < b.k ∧ h < b.w ∧ drop = false) := by
  cases drop <;> simp [incentiveApplies]

theorem price_of_selected (hbank : f.selectBank st.generation = some (b, gf))
    (hplan : b.selectPlan st.plan = some (p, pf)) : f.price st e h drop =
      some (computeFare (b.plans.get p) b.k (e - st.start).toNat st.ceiling
        (decide (0 < b.k ∧ h < b.w ∧ drop = false)) gf pf) := by
  simp only [FareUnit.price, hbank, hplan, incentiveApplies_eq]
  rfl

end

/-! ### The inputs of the incentive (R91, R173) -/

theorem hireableOthers_eq (s : State) (d : Dock) : s.hireableOthers d =
    (List.finRange 30).countP (fun e => decide (e ≠ d ∧ s.hireable e = true)) := by
  simp only [State.hireableOthers, allDocks, List.countP_eq_length_filter, Bool.decide_and, Bool.decide_eq_true]

theorem hireableCount_eq (s : State) : s.hireableCount = (List.finRange 30).countP s.hireable :=
  List.countP_eq_length_filter.symm

theorem dropToDo_iff (s : State) : s.dropToDo = true ↔
    ∃ a, s.manifest.active = some a ∧ (a.phase = .active ∨ a.phase = .suspended) ∧
      ∃ m ∈ a.moves, m.kind = .drop ∧ (m.state = .opened ∨ m.state = .reserved ∨ m.state = .short) := by
  unfold State.dropToDo State.manifestLive State.moves
  cases s.manifest.active with
  | none => simp
  | some a => simp [or_assoc]

/-- Settles O31: the bank (`selectBank_current`, `selectBank_previous`, `selectBank_fallback`), the plan in it, and
what the stages take from the clock, the docks and the manifest. -/
theorem fareSelection : Obligations.FareSelection := by
  unfold Obligations.FareSelection
  refine ⟨fun f st e h drop => ⟨fun b gf hcases => ?_, fun hcurrent hprevious => ?_, fun p k d ceiling inc gf pf => ?_⟩,
    fun s d => ⟨hireableOthers_eq s d, hireableCount_eq s, dropToDo_iff s⟩⟩
  · have hbank : f.selectBank st.generation = some (b, gf) := by
      rcases hcases with ⟨hvalid, hgen, rfl, rfl⟩ | ⟨hcurrent, hvalid, hgen, rfl, rfl⟩ |
        ⟨hgen, hprevious, hvalid, rfl, rfl⟩
      · exact selectBank_current ⟨hvalid, hgen⟩
      · exact selectBank_previous hcurrent ⟨hvalid, hgen⟩
      · exact selectBank_fallback hgen hprevious hvalid
    refine ⟨fun hplan hzero => price_of_no_plan hbank (selectPlan_none hplan hzero), fun p pf hplan => ?_⟩
    rcases hplan with ⟨hown, rfl, rfl⟩ | ⟨hown, hzero, rfl, rfl⟩
    · exact price_of_selected hbank (selectPlan_own hown)
    · exact price_of_selected hbank (selectPlan_fallback hown hzero)
  · exact price_of_no_bank (selectBank_none hcurrent hprevious)
  · have hclamp := clampDuration_eq d
    exact ⟨congrArg (fun x => x.2.1) hclamp, congrArg (fun x => x.2.2) hclamp, rfl, rfl, rfl,
      congrArg Prod.fst hclamp⟩

end Sys2Proof.Machine
end

section
/-! PROOFS. The staged bank is written, and its activation is tested: WRITE_PLAN, WRITE_STATION_TERMS,
ACTIVATE_TARIFF and the rotation of the banks (R104, R105, R107, R108). -/

namespace Sys2Proof.Machine

open Sys2Proof

/-! ### WRITE_PLAN (R104) -/

section

variable {s : State} {a : List Byte} {n i : Nat}

theorem bandArgOk_iff : bandArgOk a n i = true ↔
    (i + 1 < n → 1 ≤ field a (9 + 5 * i) 2 ∧ field a (9 + 5 * i) 2 ≤ 1440) ∧
    (i < n → 1 ≤ field a (11 + 5 * i) 1 ∧ field a (11 + 5 * i) 1 ≤ 60) := by
  simp only [bandArgOk, bandArg, Bool.and_eq_true, Bool.or_eq_true, decide_eq_true_eq, ← Nat.not_lt, ← imp_iff_not_or]

theorem planArgOk_iff : planArgOk a = true ↔ field a 0 1 ≤ 7 ∧ field a 3 2 ≤ 3600 ∧ field a 8 1 ≤ 4 ∧
    bandArgOk a (field a 8 1) 0 = true ∧ bandArgOk a (field a 8 1) 1 = true ∧
    bandArgOk a (field a 8 1) 2 = true ∧ bandArgOk a (field a 8 1) 3 = true := by
  simp only [planArgOk, Bool.and_eq_true, decide_eq_true_eq, and_assoc, List.all_eq_true, List.mem_range,
    Nat.forall_lt_succ_left]
  simp

theorem storedBand_eq : storedBand a n i =
    if i < n then
      { length := if i + 1 < n then field a (9 + 5 * i) 2 else 0, block := field a (11 + 5 * i) 1,
        rate := field a (12 + 5 * i) 2 }
    else { length := 0, block := 0, rate := 0 } := by
  unfold storedBand bandArg
  dsimp only
  split
  next hbeyond => exact (if_neg (Nat.not_lt.2 hbeyond)).symm
  next hused =>
    rw [if_pos (Nat.lt_of_not_le hused)]
    split
    next hlast => rw [if_neg (by omega)]
    next hlast => rw [if_pos (by omega)]

theorem writePlan_refused (h : ¬planArgOk a = true) : writePlan a s = (.plain .badArg, s) := if_neg h

theorem writePlan_taken {p : Fin 8} (h : planArgOk a = true) (hp : field a 0 1 = p.val) : writePlan a s =
    (.ok [], setStaged (fun b => { b with plans := b.plans.set p.val (planArg a) p.isLt }) s) := by
  have hindex : field a 0 1 % 8 = p.val := by rw [hp, Nat.mod_eq_of_lt p.isLt]
  simp only [writePlan, h, if_true, hindex]

end

/-- Settles O27: the checks are those of R104 (`planArgOk_iff`), and one plan of STAGED is set. -/
theorem planWritten : Obligations.PlanWritten := by
  unfold Obligations.PlanWritten
  intro s args hlength hbusy n bandOk band plan
  have hok : ∀ i, bandArgOk args n i = true ↔ bandOk i := fun i => bandArgOk_iff
  have hbands : ∀ i, storedBand args n i = band i := fun i => storedBand_eq
  have hplan : planArg args = plan := by
    simp only [planArg, ← hbands, plan]
    rfl
  refine ⟨fun hbad => ?_, fun p hp hgrace hn h0 h1 h2 h3 => ?_⟩
  · have hrefused : ¬planArgOk args = true := fun h => hbad (by simpa only [planArgOk_iff, ← hok] using h)
    exact changes_of _ 29 args writePlan s s _ (exec_writePlan args s) hbusy hlength (writePlan_refused hrefused)
  · have htaken : planArgOk args = true := planArgOk_iff.2
      ⟨by omega, hgrace, hn, (hok 0).2 h0, (hok 1).2 h1, (hok 2).2 h2, (hok 3).2 h3⟩
    refine ⟨setStaged (fun b => { b with plans := b.plans.set p.val (planArg args) p.isLt }) s,
      changes_of _ 29 args writePlan s _ _ (exec_writePlan args s) hbusy hlength (writePlan_taken htaken hp),
      ?_, fun q hq => ?_, rfl, rfl⟩
    · simp [setStaged, hplan]
    · simp [setStaged, hq.symm]

/-! ### The test of the pending activation (R108) -/

section

variable {s : State} {g : Fin 16} {t : Time}

theorem anyDefined_iff {b : Bank} : b.anyDefined = true ↔ ∃ p : Fin 8, (b.plans.get p).count ≠ 0 := by
  simp only [Bank.anyDefined, List.any_eq_true, defined_iff, Vector.mem_toList_iff]
  constructor
  · rintro ⟨x, hx, hcount⟩
    obtain ⟨i, hi, rfl⟩ := Vector.mem_iff_getElem.1 hx
    exact ⟨⟨i, hi⟩, hcount⟩
  · rintro ⟨p, hp⟩
    exact ⟨_, Vector.getElem_mem p.isLt, hp⟩

theorem anyDefined_eq_false_iff {b : Bank} : b.anyDefined = false ↔ ∀ p : Fin 8, (b.plans.get p).count = 0 := by
  rw [← Bool.not_eq_true, anyDefined_iff]
  simp only [ne_eq, not_exists, not_not]

theorem activationReached_iff : s.activationReached t = true ↔
    s.clock.isSet = true ∧ (s.clock.time - t).toNat < 2 ^ 31 := by
  unfold State.activationReached
  rw [Bool.and_eq_true, decide_eq_true_iff]
  exact Iff.rfl

theorem testActivation_none (h : s.fare.activation = none) : testActivation s = s := by
  simp only [testActivation, h]

theorem testActivation_waits (h : s.fare.activation = some (g, t))
    (hwait : s.clock.isSet = false ∨ 2 ^ 31 ≤ (s.clock.time - t).toNat) : testActivation s = s := by
  have hnot : ¬s.activationReached t = true := fun hreached => by
    obtain ⟨hset, hpast⟩ := activationReached_iff.1 hreached
    rcases hwait with hunset | hfuture
    · exact Bool.false_ne_true (hunset.symm.trans hset)
    · omega
  simp only [testActivation, h, hnot, Bool.false_eq_true, if_false]

theorem testActivation_rotates (h : s.fare.activation = some (g, t)) (hset : s.clock.isSet = true)
    (hpast : (s.clock.time - t).toNat < 2 ^ 31) (hdefined : ∃ p : Fin 8, (s.fare.staged.plans.get p).count ≠ 0) :
    testActivation s = (s.setFare (fun f => f.rotate g)).noteTrips := by
  simp only [testActivation, h, activationReached_iff.2 ⟨hset, hpast⟩, anyDefined_iff.2 hdefined, if_true]

theorem testActivation_withdraws (h : s.fare.activation = some (g, t)) (hset : s.clock.isSet = true)
    (hpast : (s.clock.time - t).toNat < 2 ^ 31) (hdefined : ∀ p : Fin 8, (s.fare.staged.plans.get p).count = 0) :
    testActivation s = s.setFare (fun f => { f with activation := none, lastOutcome := .withdrawn }) := by
  simp only [testActivation, h, activationReached_iff.2 ⟨hset, hpast⟩, anyDefined_eq_false_iff.2 hdefined, if_true,
    Bool.false_eq_true, if_false]

theorem exec_activationReached_eq {u : State} (h : testActivation s = u) :
    exec .activationReached s = .next (finishEvent u) := h ▸ exec_activationReached s

end

/-! ### WRITE_STATION_TERMS (R105) -/

/-- WRITE_STATION_TERMS as a change command of 3 argument bytes. -/
theorem changes_writeStationTerms {s u : State} {x : Result} {k : Nat} {w : Byte} (hb : s.busy = false)
    (hk : k < 65536) (h : writeTerms k w.toNat (s.taking 3) = (x, { u with port := (s.taking 3).port })) :
    changes (.writeStationTerms (beBytes 2 k ++ [w])) 3 x u s := by
  refine changes_of _ 3 _ _ s u x (exec_writeStationTerms _ s) hb (by simp) ?_
  rw [field_first 2 k [w] hk, field_beyond 2 k 2 1 [w] (Nat.le_refl 2), Nat.sub_self, field_zero]
  exact h

/-- Settles O28: the write, the gates of a change command, and the terms that a rotation puts in force
(`testActivation_rotates`). -/
theorem stationTermsWritten : Obligations.StationTermsWritten := by
  unfold Obligations.StationTermsWritten
  refine ⟨fun s k w hk hbusy => ⟨fun hw => ?_, fun hw => ?_⟩, fun s args => ⟨fun hbusy => ?_, fun hbusy hlength => ?_⟩,
    fun s g t hpending hset hpast hdefined => ?_⟩
  · exact changes_writeStationTerms hbusy hk (if_pos hw)
  · exact changes_writeStationTerms hbusy hk (if_neg (Nat.not_lt.2 hw))
  · exact (exec_writeStationTerms args s).trans (changeCommand_busy 3 args _ s hbusy)
  · exact (exec_writeStationTerms args s).trans (changeCommand_length 3 args _ s hbusy hlength)
  · exact ⟨_, exec_activationReached_eq (testActivation_rotates hpending hset hpast hdefined), rfl, rfl, rfl⟩

/-! ### ACTIVATE_TARIFF (R107) -/

section

variable {s : State} {g : Byte} {gen : Fin 16} {at_ : Time}

/-- ACTIVATE_TARIFF as a change command of 5 argument bytes. -/
theorem changes_activateTariff {u : State} {x : Result} (hb : s.busy = false)
    (h : activateTariff g.toNat at_ (s.taking 5) = (x, { u with port := (s.taking 5).port })) :
    changes (.activateTariff (g :: beBytes 4 at_.toNat)) 5 x u s := by
  refine changes_of _ 5 _ _ s u x (exec_activateTariff _ s) hb (by simp) ?_
  rw [field_zero, field_succ, field_beBytes 4 _ at_.isLt, ofNat_toNat_same]
  exact h

theorem activateTariff_outside (h : 15 < g.toNat) : activateTariff g.toNat at_ s = (.plain .badArg, s) :=
  dif_neg (by omega)

/-- With the generation in its range, the other two checks and the test of the activation made pending. -/
theorem activateTariff_inside (h : g.toNat = gen.val) : activateTariff g.toNat at_ s =
    if s.fare.staged.anyDefined = false then (.plain .state, s)
    else if s.fare.current.valid = true ∧ s.fare.current.generation = gen then (.plain .badArg, s)
    else (.ok [], testActivation (s.setFare (fun f => { f with activation := some (gen, at_) }))) := by
  simp only [activateTariff, h, gen.isLt, dif_pos, Fin.ext_iff, refuse]

theorem activateTariff_undefined (h : g.toNat = gen.val)
    (hstaged : ∀ p : Fin 8, (s.fare.staged.plans.get p).count = 0) :
    activateTariff g.toNat at_ s = (.plain .state, s) :=
  (activateTariff_inside h).trans (if_pos (anyDefined_eq_false_iff.2 hstaged))

variable {p : Fin 8}

theorem activateTariff_same (h : g.toNat = gen.val) (hp : (s.fare.staged.plans.get p).count ≠ 0)
    (hvalid : s.fare.current.valid = true) (hsame : s.fare.current.generation = gen) :
    activateTariff g.toNat at_ s = (.plain .badArg, s) :=
  (activateTariff_inside h).trans ((if_neg fun hnone => hp (anyDefined_eq_false_iff.1 hnone p)).trans
    (if_pos ⟨hvalid, hsame⟩))

theorem activateTariff_taken (h : g.toNat = gen.val) (hp : (s.fare.staged.plans.get p).count ≠ 0)
    (hother : s.fare.current.valid = true → s.fare.current.generation ≠ gen) : activateTariff g.toNat at_ s =
      (.ok [], testActivation (s.setFare (fun f => { f with activation := some (gen, at_) }))) :=
  (activateTariff_inside h).trans ((if_neg fun hnone => hp (anyDefined_eq_false_iff.1 hnone p)).trans
    (if_neg fun hsame => hother hsame.1 hsame.2))

/-- A command that passes leaves what the test makes of the new pending activation. -/
theorem changes_activateTariff_taken {u : State} (hb : s.busy = false) (h : g.toNat = gen.val)
    (hp : (s.fare.staged.plans.get p).count ≠ 0)
    (hother : s.fare.current.valid = true → s.fare.current.generation ≠ gen)
    (hu : testActivation ((s.taking 5).setFare (fun f => { f with activation := some (gen, at_) })) =
      { u with port := (s.taking 5).port }) :
    changes (.activateTariff (g :: beBytes 4 at_.toNat)) 5 (.ok []) u s :=
  changes_activateTariff hb ((activateTariff_taken (s := s.taking 5) h hp hother).trans
    (congrArg (Prod.mk (Result.ok [])) hu))

end

/-- Settles O29: the checks of R107 in their order, and the test of R108 in its four outcomes
(`testActivation_none`, `testActivation_waits`, `testActivation_rotates`, `testActivation_withdraws`). -/
theorem activationsTested : Obligations.ActivationsTested := by
  unfold Obligations.ActivationsTested
  refine ⟨fun s g at_ hbusy => ⟨fun hg => ?_, fun gen hg => ⟨fun hstaged => ?_, fun p hp =>
      ⟨fun hvalid hsame => ?_, fun hother => ⟨fun hwait => ?_, fun hset hpast => ?_⟩⟩⟩⟩,
    fun s => ⟨fun g t hpending hset hpast => ⟨fun hdefined => ?_, fun hdefined => ?_⟩, fun hwait => ?_⟩⟩
  · exact changes_activateTariff hbusy (activateTariff_outside hg)
  · exact changes_activateTariff hbusy (activateTariff_undefined hg hstaged)
  · exact changes_activateTariff hbusy (activateTariff_same hg hp hvalid hsame)
  · refine changes_activateTariff_taken hbusy hg hp hother ((testActivation_waits rfl ?_).trans rfl)
    exact hwait
  · refine changes_activateTariff_taken hbusy hg hp hother ((testActivation_rotates rfl ?_ ?_ ?_).trans rfl)
    · exact hset
    · exact hpast
    · exact ⟨p, hp⟩
  · exact exec_activationReached_eq (testActivation_rotates hpending hset hpast hdefined)
  · exact exec_activationReached_eq (testActivation_withdraws hpending hset hpast hdefined)
  · refine exec_activationReached_eq ?_
    cases hpending : s.fare.activation with
    | none => exact testActivation_none hpending
    | some x =>
      refine testActivation_waits hpending ?_
      rcases hwait with hnone | hunset | hfuture
      · cases hpending.symm.trans hnone
      · exact .inl hunset
      · exact .inr (hfuture _ _ hpending)

end Sys2Proof.Machine
end

section
/-! PROOFS. What the host reads of the tariffs and the manifests: READ_PLAN, READ_MANIFEST and their images, and
QUOTE_FARE (R106, R119, R172, section 12.5). -/

namespace Sys2Proof.Machine

open Sys2Proof

/-! ### READ_PLAN (R106) -/

section

variable {s : State} {bank : Bank} {role n : Nat}

theorem bankOf_outside {f : FareUnit} (h : 2 < n) : f.bankOf n = none := by
  match n, h with
  | _ + 3, _ => rfl

theorem readPlan_found (h : s.fare.bankOf role = some bank) (p : Fin 8) :
    readPlan role p.val s = .ok (planImage role bank (bank.plans.get p) s.fare) := by
  simp only [readPlan, h, p.isLt, dif_pos]
  rfl

theorem readPlan_refused (h : 2 < role ∨ 7 < n) : readPlan role n s = .plain .badArg := by
  unfold readPlan
  split
  next => rfl
  next b hbank =>
    refine dif_neg fun hn => ?_
    rcases h with hrole | hplan
    · cases hbank.symm.trans (bankOf_outside hrole)
    · omega

theorem exec_readPlan_eq (b p : Byte) (s : State) :
    exec (.readPlan [b, p]) s = .next (s.readAnswered 2 (readPlan b.toNat p.toNat s)) := by
  refine (exec_readPlan _ s).trans (pureRead_taken 2 _ _ s _ rfl ?_)
  rw [field_succ, field_zero, field_zero]
  rfl

theorem exec_readPlan_found {b : Byte} (h : s.fare.bankOf b.toNat = some bank) (p : Fin 8) :
    exec (.readPlan [b, byte p.val]) s =
      .next (s.readAnswered 2 (.ok (planImage b.toNat bank (bank.plans.get p) s.fare))) := by
  rw [exec_readPlan_eq, toNat_byte p.val (by omega), readPlan_found h]

end

theorem planImage_length (role : Nat) (b : Bank) (p : Plan) (f : FareUnit) : (planImage role b p f).length = 32 := by
  simp [planImage, optTime]

/-- The band shape field, with each weight before its number. -/
theorem bandShape_eq (p : Plan) : bandShape p =
    p.band0.length + 2 ^ 11 * p.band1.length + 2 ^ 22 * p.band2.length + 2 ^ 33 * p.band0.block +
      2 ^ 39 * p.band1.block + 2 ^ 45 * p.band2.block + 2 ^ 51 * p.band3.block := by
  unfold bandShape
  omega

/-! ### READ_MANIFEST (R172) -/

section

variable {s : State} {b i : Byte}

theorem exec_readManifest_eq (b i : Byte) (s : State) :
    exec (.readManifest [b, i]) s = .next (s.readAnswered 2 (readManifest b.toNat i.toNat s)) := by
  refine (exec_readManifest _ s).trans (pureRead_taken 2 _ _ s _ rfl ?_)
  rw [field_succ, field_zero, field_zero]
  rfl

theorem exec_readManifest_active (h : i.toNat ≤ 15) :
    exec (.readManifest [0, i]) s = .next (s.readAnswered 2 (.ok (activeImage s.manifest i.toNat))) := by
  have hread : readManifest (0 : Byte).toNat i.toNat s = .ok (activeImage s.manifest i.toNat) :=
    if_neg fun hout => hout.elim (by decide) (Nat.not_lt.2 h)
  rw [exec_readManifest_eq, hread]

theorem exec_readManifest_staged (h : i.toNat ≤ 15) :
    exec (.readManifest [1, i]) s = .next (s.readAnswered 2 (.ok (stagedImage s.manifest i.toNat))) := by
  have hread : readManifest (1 : Byte).toNat i.toNat s = .ok (stagedImage s.manifest i.toNat) :=
    if_neg fun hout => hout.elim (by decide) (Nat.not_lt.2 h)
  rw [exec_readManifest_eq, hread]

theorem exec_readManifest_refused (h : 1 < b.toNat ∨ 15 < i.toNat) :
    exec (.readManifest [b, i]) s = .next (s.readAnswered 2 (.plain .badArg)) := by
  rw [exec_readManifest_eq, readManifest, if_pos h]

end

theorem headerImage_length (h : Option ManifestHeader) : (headerImage h).length = 10 := by
  cases h <;> simp [headerImage]

theorem previousImage_length (e : Option PreviousEnd) : (previousImage e).length = 4 := by
  cases e <;> simp [previousImage]

theorem moveImage_length (m : Option Move) : (moveImage m).length = 12 := by
  cases m <;> simp [moveImage, optBike]

theorem activeImage_length (m : ManifestUnit) (i : Nat) : (activeImage m i).length = 32 := by
  unfold activeImage
  cases m.active <;> simp [headerImage_length, previousImage_length, moveImage_length]

theorem stagedImage_length (m : ManifestUnit) (i : Nat) : (stagedImage m i).length = 32 := by
  unfold stagedImage
  cases m.staged <;> simp [headerImage_length, previousImage_length, moveImage_length]

/-- A byte of one flag. -/
theorem bits_one (b : Bool) : bits [b] = if b then 1 else 0 := by
  cases b <;> rfl

/-- Settles O13: both commands are reads over their range checks, and the images are those of section 12.5, part by
part: the header, the previous end and the move. -/
theorem tariffsAndManifestsRead : Obligations.TariffsAndManifestsRead := by
  unfold Obligations.TariffsAndManifestsRead
  refine ⟨⟨⟨fun s p => ⟨exec_readPlan_found rfl p, exec_readPlan_found rfl p, exec_readPlan_found rfl p⟩,
      fun s b p hout => ?_, planImage_length⟩,
    fun s i hi => ⟨exec_readManifest_active hi, exec_readManifest_staged hi⟩,
    fun s b i hout => exec_readManifest_refused hout, fun m i => ⟨activeImage_length m i, stagedImage_length m i⟩⟩,
    fun role b p f => ?_, fun m i => ?_⟩
  · rw [exec_readPlan_eq, readPlan_refused hout]
    rfl
  · unfold planImage
    rw [bandShape_eq]
    cases f.activation <;> cases f.lastOutcome <;> rfl
  · intro head before dock bike move
    have hhead : ∀ h, headerImage (some h) = head h := fun h => by simp only [headerImage, bits_one, head]
    have hbefore : previousImage m.previousEnd = before := by
      simp only [before]
      rcases m.previousEnd with _ | ⟨number, outcome, count⟩
      · rfl
      · cases outcome <;> rfl
    have hdock : ∀ x, optDock x = dock x := fun x => by cases x <;> rfl
    have hbike : ∀ x, optBike x = bike x := fun x => by cases x <;> rfl
    have hmove : ∀ x, moveImage x = move x := by
      rintro (_ | ⟨kind, d, b, state, held, landed, doneDock, doneBike, late⟩)
      · rfl
      · simp only [moveImage, hdock, hbike, bits_one, move]
        cases kind <;> cases state <;> rfl
    constructor
    · rw [activeImage, hbefore, hmove]
      rcases m.active with _ | ⟨phase, header, moves⟩
      · rfl
      · dsimp only
        rw [hhead]
        rcases phase with _ | _ | outcome
        · rfl
        · rfl
        · cases outcome <;> rfl
    · rw [stagedImage, hbefore, hmove]
      rcases m.staged with _ | ⟨header, moves, held⟩
      · rfl
      · simp only [hhead, bits_one]
        rfl

/-! ### QUOTE_FARE (R119) -/

section

variable {s : State} {d plan ceiling mode : Nat} {p q : Fin 8} {pf : Bool}

theorem exec_quoteFare_eq {d : Time} (hplan : plan < 256) (hceiling : ceiling < 65536) (hmode : mode < 256)
    (s : State) :
    exec (.quoteFare (beBytes 4 d.toNat ++ [byte plan] ++ beBytes 2 ceiling ++ [byte mode])) s =
      .next (s.readAnswered 8 (quoteFare d.toNat plan ceiling mode s)) := by
  refine (exec_quoteFare _ s).trans (pureRead_taken 8 _ _ s _ (by simp) ?_)
  have hp : field (beBytes 4 d.toNat ++ ([byte plan] ++ (beBytes 2 ceiling ++ [byte mode]))) 4 1 = plan := by
    rw [field_beyond 4 _ 4 1 _ (Nat.le_refl 4), Nat.sub_self, List.singleton_append, field_zero, toNat_byte plan hplan]
  have hc : field (beBytes 4 d.toNat ++ ([byte plan] ++ (beBytes 2 ceiling ++ [byte mode]))) 5 2 = ceiling := by
    rw [field_beyond 4 _ 5 2 _ (by decide), List.singleton_append, field_succ, field_first 2 _ _ hceiling]
  have hm : field (beBytes 4 d.toNat ++ ([byte plan] ++ (beBytes 2 ceiling ++ [byte mode]))) 7 1 = mode := by
    rw [field_beyond 4 _ 7 1 _ (by decide), List.singleton_append, field_succ, field_beyond 2 _ 2 1 _ (Nat.le_refl 2),
      Nat.sub_self, field_zero, toNat_byte mode hmode]
  simp only [List.append_assoc, hp, hc, hm, field_first 4 _ _ d.isLt]
  rfl

theorem quoteFare_badArg (h : 7 < plan ∨ 2 < mode) : quoteFare d plan ceiling mode s = .plain .badArg := by
  unfold quoteFare
  split
  next hplan => exact if_pos (h.resolve_left (by omega))
  next => rfl

/-- With plan and mode in range, CURRENT and the selection in it decide. -/
theorem quoteFare_inside (hmode : mode ≤ 2) : quoteFare d p.val ceiling mode s =
    if s.fare.current.valid = false then .plain .state
    else
      match s.fare.current.selectPlan p with
      | none => .plain .notFound
      | some (q, pf) =>
        .ok (quoteImage (computeFare (s.fare.current.plan q) s.fare.current.k d ceiling (quoteIncentive mode s) false pf)
          s.fare.current.generation.val q.val) :=
  (dif_pos p.isLt).trans (if_neg (Nat.not_lt.2 hmode))

theorem quoteFare_invalid (hplan : plan ≤ 7) (hmode : mode ≤ 2) (h : s.fare.current.valid = false) :
    quoteFare d plan ceiling mode s = .plain .state :=
  (quoteFare_inside (p := ⟨plan, Nat.lt_succ_of_le hplan⟩) hmode).trans (if_pos h)

theorem quoteFare_notFound (hmode : mode ≤ 2) (hvalid : s.fare.current.valid = true)
    (h : s.fare.current.selectPlan p = none) : quoteFare d p.val ceiling mode s = .plain .notFound := by
  simp only [quoteFare_inside hmode, hvalid, h, Bool.true_eq_false, if_false]

theorem quoteFare_quoted (hmode : mode ≤ 2) (hvalid : s.fare.current.valid = true)
    (h : s.fare.current.selectPlan p = some (q, pf)) : quoteFare d p.val ceiling mode s =
      .ok (quoteImage (computeFare (s.fare.current.plan q) s.fare.current.k d ceiling (quoteIncentive mode s) false pf)
        s.fare.current.generation.val q.val) := by
  simp only [quoteFare_inside hmode, hvalid, h, Bool.true_eq_false, if_false]

theorem quoteIncentive_eq (hmode : mode ≤ 2) : quoteIncentive mode s =
    if mode = 0 then false
    else if mode = 1 then
      decide (0 < s.fare.current.k ∧ s.hireableCount < s.fare.current.w ∧ s.dropToDo = false)
    else decide (0 < s.fare.current.k) := by
  match mode, hmode with
  | 0, _ => rfl
  | 1, _ => exact incentiveApplies_eq ..
  | 2, _ => rfl

end

/-- Settles O14: the refusals in their order, and the plan that the selection finds (`selectPlan_own`,
`selectPlan_fallback`) under the stages. -/
theorem fareQuoted : Obligations.FareQuoted := by
  unfold Obligations.FareQuoted
  intro s d plan ceiling mode hplan hceiling hmode
  rw [exec_quoteFare_eq hplan hceiling hmode]
  refine ⟨fun hout => ?_, fun hinside hknown hvalid => ?_, fun p hp hknown hvalid => ?_⟩
  · rw [quoteFare_badArg hout]
    rfl
  · rw [quoteFare_invalid hinside hknown hvalid]
    rfl
  · subst hp
    rw [← quoteIncentive_eq hknown]
    by_cases hown : (s.fare.current.plan p).count = 0
    · by_cases hzero : (s.fare.current.plan 0).count = 0
      · rw [quoteFare_notFound hknown hvalid (selectPlan_none hown hzero), if_pos ⟨hown, hzero⟩]
        rfl
      · rw [quoteFare_quoted hknown hvalid (selectPlan_fallback hown hzero), if_neg fun h => hzero h.2]
        simp only [hown, ne_eq, not_true, if_false, decide_true]
        rfl
    · rw [quoteFare_quoted hknown hvalid (selectPlan_own hown), if_neg fun h => hown h.1]
      simp only [hown, ne_eq, not_false_eq_true, if_true, decide_false]
      rfl

end Sys2Proof.Machine
end

section
/-! PROOFS. The exchange with the pay terminal: sales, the settlement step, the end of a SETTLE, and the calls to node 0
that are handed to the Card Table (R123 to R130). -/

namespace Sys2Proof.Machine

open Sys2Proof

/-! ### Requests to the terminal (R18, R19) -/

section

variable {s : State} {v : Verb}

/-- The string is in use, the queue has room, and no call of this verb waits for the terminal. -/
structure State.roomAtTerminal (s : State) (v : Verb) : Prop where
  flight : s.string.flight.isSome = true
  room : s.string.queue.length < 40
  fresh : ∀ q ∈ s.string.queue, q.target = .node 0 → q.verb ≠ v

/-- A request to the terminal joins the queue behind the others. -/
theorem placeTerminal_joins (h : s.roomAtTerminal v) (args : List Byte) : placeTerminal v args s =
    s.setQueue (s.string.queue ++ [request terminalNode v args .cardTable]) := by
  have hkeys : ∀ q ∈ s.string.queue, sameKey q (request terminalNode v args .cardTable) = false :=
    not_sameKey_of fun q hq hkey => h.fresh q hq hkey.1 hkey.2
  rw [placeTerminal, place, takeNext_in_use (by rw [enqueue_flight]; exact h.flight), enqueue_append hkeys h.room]

theorem placeTerminal_terminal (v : Verb) (args : List Byte) (s : State) :
    (placeTerminal v args s).terminal = s.terminal := by
  rw [placeTerminal, place, takeNext_terminal, enqueue_terminal]

theorem placeTerminal_cards (v : Verb) (args : List Byte) (s : State) :
    (placeTerminal v args s).cards = s.cards := by
  rw [placeTerminal, place, takeNext_cards, enqueue_cards]

end

/-! ### A sale is judged and answered (R124 to R126) -/

section

variable {s : State} {x : Sale}

theorem findCard_isSome_iff (s : State) (c : CardNo) :
    (s.findCard c).isSome = true ↔ ∃ e ∈ s.cards, e.card = c := by
  simp [State.findCard]

/-- The checks of R125, each on the state itself. -/
theorem decideSale_eq (x : Sale) (s : State) : decideSale x s =
    if 7 < x.plan ∨ x.minutes < 1 ∨ 10080 < x.minutes then .invalid
    else if s.clock.isSet = false ∨ s.fare.current.valid = false then .notReady
    else if ∃ e ∈ s.cards, e.card = x.card then .exists
    else if s.freeCardSlot = none then .full
    else if (s.fare.current.plans.get (Fin.ofNat 8 x.plan)).count = 0 then .plan
    else if x.hold < (s.fare.current.plans.get (Fin.ofNat 8 x.plan)).unlock then .hold
    else .accepted := by
  have hdefined : ∀ p : Plan, p.defined = false ↔ p.count = 0 := fun p => by simp [Plan.defined]
  exact if_congr .rfl rfl (if_congr .rfl rfl (if_congr (findCard_isSome_iff s x.card) rfl
    (if_congr Option.isNone_iff_eq_none rfl (if_congr (hdefined _) rfl rfl))))

/-- A sale that is accepted has a free slot for its card, which is not held (R125). -/
theorem decideSale_accepted (h : decideSale x s = .accepted) :
    ∃ i, s.freeCardSlot = some i ∧ s.findCard x.card = none := by
  unfold decideSale at h
  split_ifs at h with _ _ hheld hfull
  obtain ⟨i, hi⟩ := Option.ne_none_iff_exists'.1 (mt Option.isNone_iff_eq_none.2 hfull)
  exact ⟨i, hi, Option.not_isSome_iff_eq_none.1 hheld⟩

theorem saleRead_nobody (x : Sale) (s : State) (h : x.card = 0) : saleRead x s = s := if_pos h

/-- A sale already decided is answered with its outcome again (R124). -/
theorem saleRead_repeated (hcard : x.card ≠ 0) (hseen : s.terminal.lastSaleSequence = some x.sequence) :
    saleRead x s = replySale x.sequence s.terminal.lastSaleOutcome s := by
  rw [saleRead, if_neg hcard, if_pos hseen]

/-- The state in which a new sale is answered: its outcome is kept, and an accepted one has its entry (R125, R126). -/
def State.sold (x : Sale) (s : State) : State :=
  (if decideSale x s = .accepted then s.addCard (guestEntry x s.clock.time) else s).setTerminal (fun t =>
    { t with lastSaleSequence := some x.sequence, lastSaleOutcome := decideSale x s })

theorem saleRead_new (hcard : x.card ≠ 0) (hnew : s.terminal.lastSaleSequence ≠ some x.sequence) :
    saleRead x s = replySale x.sequence (decideSale x s) (s.sold x) := by
  rw [saleRead, if_neg hcard, if_neg hnew]
  rfl

theorem sold_terminal (x : Sale) (s : State) : (s.sold x).terminal =
    { s.terminal with lastSaleSequence := some x.sequence, lastSaleOutcome := decideSale x s } := by
  rw [State.sold, setTerminal_terminal]
  split
  · rw [addCard_terminal]
  · rfl

theorem sold_string (x : Sale) (s : State) : (s.sold x).string = s.string := by
  rw [State.sold, setTerminal_string]
  split
  · rw [addCard_string]
  · rfl

theorem sold_cards_refused (h : decideSale x s ≠ .accepted) : (s.sold x).cards = s.cards := by
  rw [State.sold, setTerminal_cards, if_neg h]

theorem sold_cards_accepted (h : decideSale x s = .accepted) : ∃ i, s.freeCardSlot = some i ∧
    (s.sold x).cards = insertCard { guestEntry x s.clock.time with slot := i } s.cards := by
  obtain ⟨i, hi, hnone⟩ := decideSale_accepted h
  refine ⟨i, hi, ?_⟩
  rw [State.sold, setTerminal_cards, if_pos h, addCard_eq hi hnone]

theorem replySale_terminal (n : Nat) (o : SaleOutcome) (s : State) : (replySale n o s).terminal = s.terminal :=
  placeTerminal_terminal ..

theorem replySale_cards (n : Nat) (o : SaleOutcome) (s : State) : (replySale n o s).cards = s.cards :=
  placeTerminal_cards ..

/-- A SALEREPLY joins the queue with the sequence and the outcome (R125). -/
theorem replySale_joins (h : s.roomAtTerminal .salereply) (n : Nat) (o : SaleOutcome) :
    (replySale n o s).string = { s.string with queue := s.string.queue ++
      [request terminalNode .salereply (beBytes 2 n ++ [byte o.code]) .cardTable] } := by
  rw [replySale, placeTerminal_joins h]
  rfl

/-- Whether it is new or already decided, a sale is answered with the outcome that is kept then (R124, R125). -/
theorem saleRead_replies (hcard : x.card ≠ 0) (h : s.roomAtTerminal .salereply) :
    (saleRead x s).string = { s.string with queue := s.string.queue ++
      [request terminalNode .salereply
        (beBytes 2 x.sequence ++ [byte (saleRead x s).terminal.lastSaleOutcome.code]) .cardTable] } := by
  by_cases hseen : s.terminal.lastSaleSequence = some x.sequence
  · rw [saleRead_repeated hcard hseen, replySale_terminal, replySale_joins h]
  · have hroom : (s.sold x).roomAtTerminal .salereply := by
      obtain ⟨hflight, hlen, hfresh⟩ := h
      constructor <;> rwa [sold_string]
    rw [saleRead_new hcard hseen, replySale_terminal, replySale_joins hroom, sold_string, sold_terminal]

end

/-- The data bytes of a SALEREAD's answer spell its sale (section 12.2). -/
theorem readSale_beBytes {x : Sale} (hsequence : x.sequence < 65536) (hplan : x.plan < 256)
    (hminutes : x.minutes < 65536) (hhold : x.hold < 65536) :
    readSale (beBytes 2 x.sequence ++ beBytes 5 x.card.toNat ++ [byte x.plan] ++ beBytes 2 x.minutes ++
      beBytes 2 x.hold) = x := by
  have hcard : x.card.toNat < 256 ^ 5 := x.card.isLt
  simp [readSale, field_first, field_first 5 _ _ hcard, field_beyond, field_beBytes, toNat_byte, hsequence, hplan,
    hminutes, hhold]

/-! ### The settlement step (R129) -/

section

variable {s : State} {e : CardEntry}

/-- In a table ordered by slot the first entry with a property is the one of the lowest slot (R45). -/
theorem find_cards_lowest (hs : s.cardsOk) {p : CardEntry → Bool} (he : e ∈ s.cards) (hp : p e = true)
    (hlow : ∀ x ∈ s.cards, p x = true → e.slot ≤ x.slot) : s.cards.find? p = some e := by
  obtain ⟨pre, post, hl⟩ := List.append_of_mem he
  have horder : (pre ++ e :: post).Pairwise (fun a b => a.slot.val < b.slot.val) := hl ▸ hs.1.imp fun h => h.1
  refine List.find?_eq_some_iff_append.2 ⟨hp, pre, post, hl, fun a ha => ?_⟩
  have hlt : a.slot < e.slot := (List.pairwise_append.1 horder).2.2 a ha e List.mem_cons_self
  rw [Bool.not_eq_true', ← Bool.not_eq_true]
  exact fun hpa => absurd (hlow a (hl ▸ List.mem_append_left _ ha) hpa) (not_le.2 hlt)

/-- The search of R129 in two looks: from the cursor on, and then from slot 0. -/
theorem nextSettling_eq (s : State) : s.nextSettling =
    (s.cards.find? (fun e => decide (e.activity = .settling) &&
      decide (s.terminal.settleCursor.val ≤ e.slot.val))).or
    (s.cards.find? (fun e => decide (e.activity = .settling))) := by
  simp only [State.nextSettling, List.find?_filter, List.head?_filter, Bool.decide_and, Bool.decide_eq_true]

theorem nextSettling_none (h : ∀ e ∈ s.cards, e.activity ≠ .settling) : s.nextSettling = none := by
  have hnone : ∀ q : CardEntry → Bool, s.cards.find? (fun e => decide (e.activity = .settling) && q e) = none :=
    fun q => List.find?_eq_none.2 fun e he => by simp [h e he]
  have hany := hnone fun _ => true
  simp only [Bool.and_true] at hany
  rw [nextSettling_eq, hnone, hany]
  rfl

/-- The SETTLING entry of the lowest slot from the cursor on is found first. -/
theorem nextSettling_from_cursor (hs : s.cardsOk) (he : e ∈ s.cards) (hact : e.activity = .settling)
    (hfrom : s.terminal.settleCursor ≤ e.slot)
    (hlow : ∀ x ∈ s.cards, x.activity = .settling → s.terminal.settleCursor ≤ x.slot → e.slot ≤ x.slot) :
    s.nextSettling = some e := by
  rw [nextSettling_eq, find_cards_lowest hs he (by simpa [hact] using hfrom) fun x hx hp => ?_]
  · rfl
  · obtain ⟨hsettling, hcursor⟩ : x.activity = .settling ∧ s.terminal.settleCursor.val ≤ x.slot.val := by
      simpa using hp
    exact hlow x hx hsettling hcursor

/-- With none from the cursor on, the search wraps to the SETTLING entry of the lowest slot. -/
theorem nextSettling_wrapped (hs : s.cardsOk) (he : e ∈ s.cards) (hact : e.activity = .settling)
    (hlow : ∀ x ∈ s.cards, x.activity = .settling → x.slot < s.terminal.settleCursor ∧ e.slot ≤ x.slot) :
    s.nextSettling = some e := by
  rw [nextSettling_eq, List.find?_eq_none.2 fun x hx hp => ?_,
    find_cards_lowest hs he (decide_eq_true hact) fun x hx hp => (hlow x hx (of_decide_eq_true hp)).2]
  · rfl
  · obtain ⟨hsettling, hcursor⟩ : x.activity = .settling ∧ s.terminal.settleCursor.val ≤ x.slot.val := by
      simpa using hp
    exact absurd hcursor (not_le.2 (hlow x hx hsettling).1)

theorem settlementStep_busy (h : s.terminal.settleContext ≠ none) : settlementStep s = s :=
  if_pos (Option.isSome_iff_ne_none.2 h)

theorem settlementStep_idle (h : ∀ e ∈ s.cards, e.activity ≠ .settling) : settlementStep s = s := by
  rw [settlementStep, nextSettling_none h]
  exact ite_self s

/-- The step places the SETTLE of the entry that the search finds. -/
theorem settlementStep_places {g : GuestPart} (hfree : s.terminal.settleContext = none)
    (hnext : s.nextSettling = some e) (hg : e.guest = some g) (h : s.roomAtTerminal .settle) :
    settlementStep s = { s with
      terminal := { s.terminal with
        settleContext := some { card := e.card, slot := e.slot, saleSequence := g.saleSequence },
        settleCursor := e.slot + 1 },
      string := { s.string with queue := s.string.queue ++
        [request terminalNode .settle
          (beBytes 5 e.card.toNat ++ beBytes 2 g.captured ++ beBytes 2 g.hold) .cardTable] } } := by
  have hroom : ∀ f, (s.setTerminal f).roomAtTerminal .settle := fun _ => ⟨h.flight, h.room, h.fresh⟩
  simp only [settlementStep, hfree, hnext, Option.isSome_none, Bool.false_eq_true, if_false, guestCaptured, guestHold,
    guestSale, hg, placeTerminal_joins (hroom _)]
  rfl

/-- The cursor after slot 255 is slot 0. -/
theorem slot_succ (i : Fin 256) : i + 1 = if i = 255 then 0 else i + 1 := by
  split
  · subst_vars; rfl
  · rfl

/-- A GOOD SURVEY of the terminal: SALE queues the SALEREAD, and READY is followed by the settlement step (R123). -/
theorem terminalSurvey_eq (h : s.roomAtTerminal .saleread) (x : Byte) :
    let u := s.setQueue (s.string.queue ++
      (if x.getLsbD 1 then [request terminalNode .saleread [] .cardTable] else []))
    terminalSurvey x s = if x.getLsbD 0 then settlementStep u else u := by
  have hstay : s.setQueue (s.string.queue ++ []) = s := by rw [List.append_nil]; rfl
  simp only [terminalSurvey, terminalSale, terminalReady, conditionBit]
  by_cases hsale : x.getLsbD 1 = true
  · simp only [hsale, if_true, placeTerminal_joins h]
  · simp only [hsale, Bool.false_eq_true, if_false, hstay]

end

/-! ### The end of a SETTLE (R130) -/

section

variable {s : State} {x : SettleContext}

theorem settledEntry_iff (x : SettleContext) (e : CardEntry) : settledEntry x e = true ↔
    e.slot = x.slot ∧ e.card = x.card ∧ e.activity = .settling ∧
      ∃ g, e.guest = some g ∧ g.saleSequence = x.saleSequence := by
  unfold settledEntry
  cases e.guest <;> simp [and_assoc]

theorem settleEnd_failed (s : State) :
    settleEnd false s = s.setTerminal (fun t => { t with settleContext := none }) := by
  unfold settleEnd
  split
  next h => rw [State.setTerminal, ← h]
  next => exact if_neg (by simp)

theorem settleEnd_good (hx : s.terminal.settleContext = some x) : settleEnd true s =
    if s.cards.any (settledEntry x) = true then
      (s.setTerminal (fun t => { t with settleContext := none })).dropCard x.card
    else s.setTerminal (fun t => { t with settleContext := none }) := by
  simp only [settleEnd, hx, true_and, setTerminal_cards]

theorem settleEnd_terminal (hx : s.terminal.settleContext = some x) :
    (settleEnd true s).terminal = { s.terminal with settleContext := none } := by
  rw [settleEnd_good hx]
  split <;> rfl

/-- A GOOD end removes the entry that was settled. -/
theorem settleEnd_removes (hx : s.terminal.settleContext = some x)
    (h : ∃ e ∈ s.cards, e.slot = x.slot ∧ e.card = x.card ∧ e.activity = .settling ∧
      ∃ g, e.guest = some g ∧ g.saleSequence = x.saleSequence) :
    (settleEnd true s).cards = s.cards.filter (fun e => decide (e.card ≠ x.card)) := by
  obtain ⟨e, he, hsettled⟩ := h
  rw [settleEnd_good hx, if_pos (List.any_eq_true.2 ⟨e, he, (settledEntry_iff x e).2 hsettled⟩)]
  rfl

/-- A GOOD end of a SETTLE whose entry has gone removes none. -/
theorem settleEnd_keeps (hx : s.terminal.settleContext = some x)
    (h : ∀ e ∈ s.cards, e.slot = x.slot → e.card = x.card → e.activity = .settling →
      ∀ g, e.guest = some g → g.saleSequence ≠ x.saleSequence) : (settleEnd true s).cards = s.cards := by
  rw [settleEnd_good hx, if_neg]
  · rfl
  · intro hany
    obtain ⟨e, he, hsettled⟩ := List.any_eq_true.1 hany
    obtain ⟨hslot, hcard, hact, g, hg, hsale⟩ := (settledEntry_iff x e).1 hsettled
    exact h e he hslot hcard hact g hg hsale

end

/-! ### The end of a call to the terminal is handed to the Card Table (R17) -/

section

variable {s u : State} {c c' : Call} {r : Reach} {got : List Byte} {data : Byte}

/-- The state in which the end of a call to the terminal is handed over: of the rest only what the end of the call
itself tells has changed, and of the dock records nothing that answers gave. -/
structure HandedTerminal (s v : State) : Prop where
  frame : v = { s with string := v.string, docks := v.docks, faults := v.faults, agenda := v.agenda }
  flight : v.string.flight.isSome = true
  known : ∀ e, (v.dock e).known = (s.dock e).known

theorem nodeDock_terminal : nodeDock terminalNode = none := rfl

/-- The terminal is no dock, so the end of its call tells no dock of its contact. -/
theorem handed_terminal_known (hnode : c.node = terminalNode) (result : Option Answer) (s : State) (e : Dock) :
    ((handed c result s).dock e).known = (s.dock e).known := by
  obtain ⟨-, -, hbutton, -⟩ := releaseButton_keeps c result (sendReports c s)
  have hdock : ∀ next t, reportDockContact c next t = t := fun next t => by
    simp only [reportDockContact, hnode, nodeDock_terminal]
  rw [handed, dock_of_docks hbutton, sendReports_reported, hdock, reported_known]

/-- The outcome of a call to the terminal is handed over as it is: no button, no mask (R14, R15). -/
theorem completeCall_terminal (hnode : c.node = terminalNode) (result : Option Answer) (s : State) :
    completeCall c result s = freeString (terminalOutcome c.entry result (handed c result s)) := by
  have hdock : nodeDock c.node = none := by rw [hnode, nodeDock_terminal]
  have hbutton : handed c result s = sendReports c s := by simp [handed, releaseButton, hdock]
  rw [hbutton]
  cases result <;> simp [completeCall, handOn, handOutcome, hdock]

theorem handedTerminal_of_completes (result : Option Answer) (hnode : c.node = terminalNode)
    (hflight : s.string.flight = some (.call c)) (h : Completes s c r u c') :
    HandedTerminal s (handed c' result u) := by
  obtain ⟨hframe, hfree, -⟩ := handsOver_of_completes result h hflight rfl
  obtain ⟨-, -, hdocks, -⟩ := judged_tells h.judged
  refine ⟨frame_of_tells hframe, hfree, fun e => ?_⟩
  rw [handed_terminal_known (h.node.trans hnode), dock_of_docks hdocks]

/-- The last character of a GOOD answer of the terminal. -/
theorem exec_terminal_good (hflight : s.string.flight = some (.call c)) (hcross : c.crossOf = none)
    (hnode : c.node = terminalNode) (hmark : c.entry.verb ≠ .survey ∨ c.entry.cross = false)
    (hphase : c.phase = .answering got) (hlen : got.length = c.entry.verb.answerData + 2)
    (hsum : sum8 (got ++ [data]) = 0) : ∃ v, exec (.stringCharacterReceived c.on data false) s =
      .next (finishEvent (freeString (terminalOutcome c.entry (some (c.answer got data)) v))) ∧
      HandedTerminal s v := by
  have hgot : got ≠ [] := List.ne_nil_of_length_pos (by omega)
  refine ⟨_, ?_, handedTerminal_of_completes (some (c.answer got data)) hnode hflight
    (c' := c.noting .yes s) ⟨ended_judged c .yes (c.linkAfter true) s, rfl, rfl, rfl⟩⟩
  rw [exec_good_answer hflight hphase (.inl hgot) (by omega) hsum, good_ordinary_ends hcross hmark,
    completeCall_terminal (c := c.noting .yes s) hnode]
  rfl

/-- The window of the last attempt of a call to the terminal other than SURVEY. -/
theorem exec_terminal_failed (hflight : s.string.flight = some (.call c)) (hcross : c.crossOf = none)
    (hnode : c.node = terminalNode) (hverb : c.entry.verb ≠ .survey) (hlast : 1 + c.retries ≤ c.ended + 1) :
    ∃ v, exec .answerWindowExpiry s = .next (finishEvent (freeString (terminalOutcome c.entry none v))) ∧
      HandedTerminal s v := by
  refine ⟨_, ?_, handedTerminal_of_completes none hnode hflight
    (c' := { c.noting c.phase.expired.reach s with ended := c.ended + 1 })
    ⟨ended_judged c c.phase.expired.reach (c.linkAfter false) s, rfl, rfl, rfl⟩⟩
  rw [exec_window_call hflight, failed_ordinary_ends hcross hlast (.inl hverb) (expired_failed c.phase),
    completeCall_terminal (c := { c.noting c.phase.expired.reach s with ended := c.ended + 1 }) hnode]
  rfl

/-- The data of an answer are its characters after address and condition (R4). -/
theorem answer_data (c : Call) (hlen : got.length = c.entry.verb.answerData + 2) (data : Byte) :
    (c.answer got data).data = got.drop 2 := by
  rw [Call.answer, List.drop_append_of_le_length (by omega), List.take_append_of_le_length (by simp; omega),
    List.take_of_length_le (by simp; omega)]

/-- What the Card Table does at the end of a call to the terminal other than SURVEY, by the data of its answer. -/
def terminalEnded (verb : Verb) (answer : Option (List Byte)) (s : State) : State :=
  if verb = .settle then settleEnd answer.isSome s
  else match answer with
    | some bs => if verb = .saleread then saleRead (readSale bs) s else s
    | none => s

theorem terminalOutcome_eq {e : QueueEntry}
    (hverb : e.verb = .saleread ∨ e.verb = .salereply ∨ e.verb = .settle) (answer : Option Answer) (s : State) :
    terminalOutcome e answer s = terminalEnded e.verb (answer.map Answer.data) s := by
  rcases hverb with h | h | h <;> cases answer <;> simp [terminalOutcome, terminalEnded, h]

theorem deliverFailure_terminal {e : QueueEntry} (ht : e.target = .node terminalNode)
    (hverb : e.verb = .saleread ∨ e.verb = .salereply ∨ e.verb = .settle) (s : State) :
    deliverFailure e s = terminalEnded e.verb none s := by
  simp only [deliverFailure, ht, handOutcome, nodeDock_terminal]
  exact terminalOutcome_eq hverb none s

end

/-! ### O52 -/

/-- Settles O52: a sale is judged by `decideSale_eq` and kept by `State.sold`, the settlement step places the entry that
the search finds (`nextSettling_from_cursor`, `nextSettling_wrapped`), and the end of a call to the terminal is handed
over (`exec_terminal_good`, `exec_terminal_failed`). -/
theorem salesAndSettlements : Obligations.SalesAndSettlements := by
  unfold Obligations.SalesAndSettlements
  refine ⟨⟨⟨⟨?_, saleRead_nobody, ?_, settleEnd_failed, ?_⟩, ?_, ?_, ?_⟩, ?_⟩, ?_, ?_⟩
  · intro x s hcard hnew plan outcome
    have hout : outcome = decideSale x s := (decideSale_eq x s).symm
    rw [saleRead_new hcard hnew, replySale_terminal, replySale_cards, hout]
    exact ⟨sold_terminal x s, sold_cards_refused, sold_cards_accepted⟩
  · intro x s hcard hseen
    rw [saleRead_repeated hcard hseen]
    exact ⟨replySale_terminal .., replySale_cards ..⟩
  · intro s c hc
    exact ⟨settleEnd_terminal hc, settleEnd_removes hc, settleEnd_keeps hc⟩
  · intro s
    refine ⟨settlementStep_busy, settlementStep_idle,
      fun e g hs hfree he hact hg hlow hflight hroom hfresh => ?_⟩
    have hnext : s.nextSettling = some e := by
      by_cases hfrom : s.terminal.settleCursor ≤ e.slot
      · simp only [if_pos hfrom] at hlow
        exact nextSettling_from_cursor hs he hact hfrom hlow
      · simp only [if_neg hfrom] at hlow
        exact nextSettling_wrapped hs he hact hlow
    rw [← slot_succ]
    exact settlementStep_places hfree hnext hg ⟨hflight, hroom, hfresh⟩
  · exact fun s c hflight hroom hfresh => terminalSurvey_eq ⟨hflight, hroom, hfresh⟩ c
  · intro s c got data hflight hcross hnode hverb hmark hphase hlen hsum
    obtain ⟨v, hexec, hframe, hfree, -⟩ := exec_terminal_good hflight hcross hnode (.inr hmark) hphase
      (by rw [hlen, hverb]; rfl) hsum
    refine ⟨v, ?_, hframe, hfree⟩
    rw [hexec, answer_survey hverb hlen]
    simp only [terminalOutcome, hverb]
  · intro x s hcard hflight hroom hfresh
    refine ⟨_, rfl, ?_, fun hseen => ?_⟩
    · rw [saleRead_replies hcard ⟨hflight, hroom, hfresh⟩]
      cases (saleRead x s).terminal.lastSaleOutcome <;> rfl
    · rw [saleRead_repeated hcard hseen, replySale_terminal]
  · intro s c hflight hcross hnode ht hverb ended
    have hended : ∀ answer v, ended answer v = terminalEnded c.entry.verb answer v := fun _ _ => rfl
    have hsurvey : c.entry.verb ≠ .survey := by rcases hverb with h | h | h <;> rw [h] <;> decide
    refine ⟨fun got data hphase hlen hsum => ?_, fun hlast => ?_, ?_⟩
    · have hdata : got.length = c.entry.verb.answerData + 2 := by
        rw [hlen]
        rcases hverb with h | h | h <;> rw [h] <;> rfl
      obtain ⟨v, hexec, hframe, hfree, hknown⟩ := exec_terminal_good hflight hcross hnode (.inl hsurvey) hphase
        hdata hsum
      refine ⟨v, ?_, hframe, hfree, hknown⟩
      rw [hexec, terminalOutcome_eq hverb, Option.map_some, answer_data c hdata, hended]
    · obtain ⟨v, hexec, hframe, hfree, hknown⟩ := exec_terminal_failed hflight hcross hnode hsurvey hlast
      refine ⟨v, ?_, hframe, hfree, hknown⟩
      rw [hexec, terminalOutcome_eq hverb, Option.map_none, hended]
    · rw [deliverFailure_terminal ht hverb, hended]
  · intro x hsequence hplan hminutes hhold
    exact readSale_beBytes hsequence hplan hminutes hhold

end Sys2Proof.Machine
end

section
/-! PROOFS. The fault table as the host reads it: records by their slot, the record that a search prefers, READ_FAULT
and NEXT_FAULT with the fault record image (R134, R147). -/

namespace Sys2Proof.Machine

open Sys2Proof

/-! ### The record that a search prefers (R136, R147) -/

/-- The choice between the best record so far and the next one. -/
def preferred (better : FaultRecord → FaultRecord → Prop) [DecidableRel better] (best : Option FaultRecord)
    (x : FaultRecord) : Option FaultRecord :=
  match best with
  | none => some x
  | some y => if better x y then some x else some y

section

variable {better : FaultRecord → FaultRecord → Prop} [DecidableRel better] {r : FaultRecord}

theorem foldl_preferred_keeps : ∀ {l : List FaultRecord}, (∀ x ∈ l, ¬better x r) →
    l.foldl (preferred better) (some r) = some r
  | [], _ => rfl
  | x :: l, h => by
    obtain ⟨hx, hl⟩ := List.forall_mem_cons.1 h
    rw [List.foldl_cons, preferred, if_neg hx]
    exact foldl_preferred_keeps hl

/-- The choice is made among the records seen. -/
theorem foldl_preferred_mem : ∀ (l : List FaultRecord) (best : Option FaultRecord) {x : FaultRecord},
    l.foldl (preferred better) best = some x → x ∈ l ∨ best = some x
  | [], _, _, h => .inr h
  | y :: l, best, x, h => by
    rcases foldl_preferred_mem l _ h with hmem | hbest
    · exact .inl (List.mem_cons_of_mem y hmem)
    · cases best with
      | none => exact .inl (Option.some.inj hbest ▸ List.mem_cons_self)
      | some z =>
        rw [preferred] at hbest
        split at hbest
        · exact .inl (Option.some.inj hbest ▸ List.mem_cons_self)
        · exact .inr hbest

/-- A record better than all before it, with none better after it, is chosen. -/
theorem foldl_preferred_first {pre post : List FaultRecord} (hpre : ∀ x ∈ pre, better r x)
    (hpost : ∀ x ∈ post, ¬better x r) : (pre ++ r :: post).foldl (preferred better) none = some r := by
  have htaken : preferred better (pre.foldl (preferred better) none) r = some r := by
    cases hbest : pre.foldl (preferred better) none with
    | none => rfl
    | some y => exact if_pos (hpre y ((foldl_preferred_mem pre none hbest).resolve_right nofun))
  rw [List.foldl_append, List.foldl_cons, htaken]
  exact foldl_preferred_keeps hpost

end

/-! ### Records by their slot (R134) -/

section

variable {s : State} {r : FaultRecord}

theorem find_fault_slot (hs : s.faultsOk) (hr : r ∈ s.faults.records) :
    s.faults.records.find? (fun x => decide (x.slot.val = r.slot.val)) = some r := by
  cases hfind : s.faults.records.find? (fun x => decide (x.slot.val = r.slot.val)) with
  | none => simpa using List.find?_eq_none.1 hfind r hr
  | some x =>
    have hslot : x.slot.val = r.slot.val := by simpa using List.find?_some hfind
    rw [fault_eq_of_slot hs (List.mem_of_find?_eq_some hfind) hr (Fin.ext hslot)]

/-- The slot of a record is its own, so a change of the record in that slot is a change of that record. -/
theorem setFault_eq (hs : s.faultsOk) (hr : r ∈ s.faults.records) {f : FaultRecord → FaultRecord}
    (hf : ∀ x, ({ f x with slot := x.slot, subject := x.subject, kind := x.kind, order := x.order } : FaultRecord) =
      f x) : s.setFault r.slot f =
      { s with faults := { s.faults with
          records := s.faults.records.map (fun x => if x = r then f x else x) } } := by
  unfold State.setFault
  simp only [hf]
  have hsame : s.faults.records.map (fun x => if x.slot = r.slot then f x else x) =
      s.faults.records.map (fun x => if x = r then f x else x) :=
    List.map_congr_left fun x hx => if_congr ⟨fault_eq_of_slot hs hx hr, congrArg FaultRecord.slot⟩ rfl rfl
  rw [hsame]

/-- The slot of a record is its own, so taking the slot out takes that record out. -/
theorem filter_slot_eq (hs : s.faultsOk) (hr : r ∈ s.faults.records) :
    s.faults.records.filter (fun x => decide (x.slot ≠ r.slot)) =
      s.faults.records.filter (fun x => decide (x ≠ r)) :=
  List.filter_congr fun _ hx =>
    decide_eq_decide.2 (not_congr ⟨fault_eq_of_slot hs hx hr, congrArg FaultRecord.slot⟩)

/-! ### READ_FAULT (R147) -/

/-- The table once the host has seen a record. -/
def State.sawFault (r : FaultRecord) (s : State) : State :=
  { s with faults := { s.faults with
      records := s.faults.records.map (fun x => if x = r then { x with seen := true } else x) } }

theorem seenRecord_eq (hs : s.faultsOk) (hr : r ∈ s.faults.records) (more : List Byte) :
    seenRecord r more s = (.ok (faultImage r ++ more), s.sawFault r) :=
  congrArg (Prod.mk _) (setFault_eq hs hr fun _ => rfl)

theorem readFault_outside {n : Nat} (h : 31 < n) : readFault n s = (.plain .badArg, s) := if_pos h

theorem readFault_free {n : Nat} (hn : n ≤ 31) (h : ∀ r ∈ s.faults.records, r.slot.val ≠ n) :
    readFault n s = (.plain .notFound, s) := by
  have hnone : s.faults.records.find? (fun r => decide (r.slot.val = n)) = none :=
    List.find?_eq_none.2 fun r hr => by simpa using h r hr
  rw [readFault, if_neg (by omega), hnone]
  rfl

theorem readFault_found (hs : s.faultsOk) (hr : r ∈ s.faults.records) :
    readFault r.slot.val s = (.ok (faultImage r), s.sawFault r) := by
  rw [readFault, if_neg (by omega), find_fault_slot hs hr]
  exact (seenRecord_eq hs hr []).trans (by rw [List.append_nil])

theorem exec_readFault_eq (n : Byte) (s : State) : exec (.readFault [n]) s =
    .next ((readFault n.toNat (s.asking 1)).2.setPort
      (fun p => { p with read := .holding (readFault n.toNat (s.asking 1)).1 })) := by
  rw [exec_readFault, readCommand_taken 1 [n] _ s rfl, field_zero]

/-! ### NEXT_FAULT (R147) -/

theorem mem_unseenFaults {x : FaultRecord} : x ∈ s.unseenFaults ↔
    x ∈ s.faults.records ∧ x.state = .active ∧ x.seen = false := by
  simp [State.unseenFaults]

theorem oldestUnseen_none (h : ∀ r ∈ s.faults.records, r.state = .active → r.seen = true) :
    s.oldestUnseen = none := by
  have hnone : s.unseenFaults = [] := List.eq_nil_iff_forall_not_mem.2 fun r hr => by
    obtain ⟨hmem, hactive, hunseen⟩ := mem_unseenFaults.1 hr
    rw [h r hmem hactive] at hunseen
    cases hunseen
  rw [State.oldestUnseen, hnone]
  rfl

/-- In a table of rising slots, the unseen record of oldest first_time, the lower slot among equals. -/
theorem oldestUnseen_of_oldest (hs : s.faultsOk) (hr : r ∈ s.faults.records) (hactive : r.state = .active)
    (hunseen : r.seen = false) (hold : ∀ x ∈ s.faults.records, x.state = .active → x.seen = false →
      timeAgo s.clock.time x.firstTime < timeAgo s.clock.time r.firstTime ∨
      (x.firstTime = r.firstTime ∧ r.slot.val ≤ x.slot.val)) : s.oldestUnseen = some r := by
  obtain ⟨pre, post, hl⟩ := List.append_of_mem (mem_unseenFaults.2 ⟨hr, hactive, hunseen⟩)
  have horder : (pre ++ r :: post).Pairwise (fun a b => a.slot.val < b.slot.val) :=
    hl ▸ (hs.imp fun h => h.1).sublist List.filter_sublist
  have hage : ∀ x ∈ pre ++ r :: post, timeAgo s.clock.time x.firstTime < timeAgo s.clock.time r.firstTime ∨
      (x.firstTime = r.firstTime ∧ r.slot.val ≤ x.slot.val) := fun x hx => by
    obtain ⟨hmem, hxactive, hxunseen⟩ := mem_unseenFaults.1 (hl ▸ hx)
    exact hold x hmem hxactive hxunseen
  have hfold : s.oldestUnseen = s.unseenFaults.foldl (preferred
      (fun x y => timeAgo s.clock.time y.firstTime < timeAgo s.clock.time x.firstTime)) none := rfl
  rw [hfold, hl]
  refine foldl_preferred_first (fun x hx => ?_) fun x hx => ?_
  · have hlt := (List.pairwise_append.1 horder).2.2 x hx r List.mem_cons_self
    exact (hage x (List.mem_append_left _ hx)).resolve_right fun h => absurd hlt (Nat.not_lt.2 h.2)
  · refine Nat.not_lt.2 ?_
    exact (hage x (List.mem_append_right _ (List.mem_cons_of_mem r hx))).elim Nat.le_of_lt fun h => by rw [h.1]

theorem nextFault_none (h : s.oldestUnseen = none) : nextFault s = (.plain .notFound, s) := by
  rw [nextFault, h]
  rfl

theorem nextFault_found (hs : s.faultsOk) (hr : r ∈ s.faults.records) (h : s.oldestUnseen = some r) :
    nextFault s = (.ok (faultImage r ++ [byte s.unseenFaults.length]), s.sawFault r) := by
  rw [nextFault, h]
  exact seenRecord_eq hs hr _

theorem exec_nextFault_eq (s : State) : exec (.nextFault []) s =
    .next ((nextFault (s.asking 0)).2.setPort
      (fun p => { p with read := .holding (nextFault (s.asking 0)).1 })) := by
  rw [exec_nextFault, readCommand_taken 0 [] _ s rfl]

end

/-! ### The fault record image (section 12.5) -/

theorem faultImage_eq (r : FaultRecord) : faultImage r =
    [byte r.slot.val, byte r.subject.type] ++ beBytes 2 r.subject.number ++
    [byte r.kind.code, byte r.state.code, byte r.kind.origin, byte r.count, byte r.reporters.length] ++
    beBytes 5 (r.reporters.getD 0 0).toNat ++ beBytes 5 (r.reporters.getD 1 0).toNat ++
    beBytes 5 (r.reporters.getD 2 0).toNat ++ beBytes 4 r.firstTime.toNat ++ [bits [r.seen]] := rfl

/-- Settles O15: both commands are reads that answer from the table (`readFault_found`, `oldestUnseen_of_oldest`) and
make the record seen, and the image is that of section 12.5. -/
theorem faultsRead : Obligations.FaultsRead := by
  unfold Obligations.FaultsRead
  refine ⟨⟨fun s n hn => ?_, fun s n hn hfree => ?_, fun s r hs hr => ?_, fun s hseen => ?_,
    fun s r hs hr hactive hunseen hold => ?_⟩, fun r => ?_⟩
  · rw [exec_readFault_eq, readFault_outside (s := s.asking 1) hn]
    rfl
  · rw [exec_readFault_eq, readFault_free (s := s.asking 1) hn hfree]
    rfl
  · rw [exec_readFault_eq, toNat_byte _ (by omega), readFault_found (s := s.asking 1) hs hr]
    rfl
  · rw [exec_nextFault_eq, nextFault_none (s := s.asking 0) (oldestUnseen_none hseen)]
    rfl
  · rw [exec_nextFault_eq, nextFault_found (s := s.asking 0) hs hr (oldestUnseen_of_oldest hs hr hactive hunseen hold)]
    rfl
  · rw [faultImage_eq]
    refine congrArg₂ (· ++ ·) (congrArg (· ++ beBytes 5 _ ++ beBytes 5 _ ++ beBytes 5 _ ++ beBytes 4 _)
      (congrArg₂ (· ++ ·) ?_ (congrArg₂ List.cons ?_ (congrArg₂ List.cons ?_ (congrArg (List.cons · _) ?_))))) ?_
    · cases r.subject <;> rfl
    · cases r.kind <;> rfl
    · cases r.state <;> rfl
    · cases r.kind <;> rfl
    · cases r.seen <;> rfl

end Sys2Proof.Machine
end

section
/-! PROOFS. RAISE_FAULT: the subject that is named, the lowest free slot, the room that a SUSPECT record gives up, and
what a record created in ACTIVE leaves of the fault table (R134 to R136, R148). -/

namespace Sys2Proof.Machine

open Sys2Proof

/-! ### A change command whose owner leaves the port to the command block (R185) -/

/-- The owner's result and the state that it leaves are those with which the command is taken. -/
theorem changes_work {c : Instr} {n : Nat} {args : List Byte} {run : List Byte → State → Result × State} {s : State}
    (hexec : exec c s = changeCommand n args run s) (hb : s.busy = false) (hlen : args.length = n)
    (hport : (run args (s.taking n)).2.port = (s.taking n).port) :
    changes c n (run args (s.taking n)).1 (run args (s.taking n)).2 s :=
  changes_of c n args run s _ _ hexec hb hlen (by rw [← hport])

/-! ### What is told leaves the fault table (R135, R145) -/

theorem faults_managed (v : FaultTable) : ManifestClosed (fun t => t.faults = v) where
  lampDock _ _ _ _ h := h
  show_ _ _ s h := (enqueue_faults s _).trans h
  takeNext s h := (takeNext_faults s).trans h
  setManifest _ _ _ h := h
  noteManifest _ h := h
  noteFollowOn _ h := h
  filterHire _ _ h := h

theorem tellChange_faults (x : Subject) (g : Option Dock) (s : State) : (tellChange x g s).faults = s.faults :=
  managed_tellChange (faults_managed _) x g s rfl

/-- Of the fault table, nothing but the fields of docks differs. -/
def FaultTable.marksOf (f g : FaultTable) : Prop := g = { f with docks := g.docks }

theorem evalMark_marks (d : Dock) (s : State) : s.faults.marksOf (evalMark d s).faults := by
  unfold evalMark
  split
  · split
    · rw [placeDock_faults]
      rfl
    · rfl
  · rfl

theorem activeEffects_marks (x : Subject) (k : FaultKind) (s : State) :
    s.faults.marksOf (activeEffects x k s).faults := by
  cases x with
  | dock d =>
    simp only [activeEffects]
    split <;> rfl
  | bike b =>
    simp only [activeEffects, evalMarkOfBike]
    split
    · exact (evalMark_marks _ _).trans rfl
    · rfl
  | segment _ | terminal => rfl

theorem withoutFault_faults (r : FaultRecord) (s : State) : (s.withoutFault r).faults =
    { s.faults with records := s.faults.records.filter (fun x => decide (x.slot ≠ r.slot)) } := by
  unfold State.withoutFault
  repeat' split
  all_goals rfl

/-- Eviction and retirement take the record out of its slot (R135, R136). -/
theorem removeFault_faults (r : FaultRecord) (s : State) : (removeFault r s).faults =
    { s.faults with records := s.faults.records.filter (fun x => decide (x.slot ≠ r.slot)) } := by
  rw [removeFault_eq, tellChange_faults, withoutFault_faults]

/-! ### The subject that is named (R134, R148) -/

theorem readSubject_eq (type number : Nat) : readSubject type number =
    if h : type = 0 ∧ 1 ≤ number ∧ number ≤ 30 then some (.dock ⟨number - 1, by omega⟩)
    else if type = 1 ∧ 1 ≤ number ∧ number ≤ 65535 then some (.bike (BitVec.ofNat 16 number))
    else if h : type = 2 ∧ number < 30 then some (.segment ⟨number, h.2⟩)
    else if type = 3 ∧ number = 0 then some .terminal
    else none := by
  unfold readSubject dockOfNumber
  rcases type with _ | _ | _ | _ | type
  · by_cases hn : 1 ≤ number ∧ number ≤ 30 <;> simp [hn]
  · by_cases hn : 1 ≤ number ∧ number ≤ 65535 <;> simp [hn]
  · by_cases hn : number < 30 <;> simp [hn]
  · by_cases hn : number = 0 <;> simp [hn]
  · simp

section

variable {s t : State} {x : Subject} {k : FaultKind} {r : FaultRecord} {i : Fin 32}

/-! ### The lowest free slot (R134) -/

theorem freeFaultSlot_eq_none_iff : s.freeFaultSlot = none ↔ ∀ j, ∃ r ∈ s.faults.records, r.slot = j := by
  simp [State.freeFaultSlot]

/-- The slot that is taken is free, and every lower one is in use. -/
theorem freeFaultSlot_lowest (h : s.freeFaultSlot = some i) :
    (∀ r ∈ s.faults.records, r.slot ≠ i) ∧ ∀ j, j < i → ∃ r ∈ s.faults.records, r.slot = j := by
  obtain ⟨-, n, hn, hi, hheld⟩ := List.find?_eq_some_iff_getElem.1 h
  rw [List.getElem_finRange] at hi
  subst hi
  exact ⟨freeFaultSlot_free h, fun j hj => by simpa using hheld j.val hj⟩

/-- In a full table the slot taken out is the one that is free. -/
theorem freeFaultSlot_removed (r : FaultRecord) (hfull : s.freeFaultSlot = none) :
    (removeFault r s).freeFaultSlot = some r.slot := by
  have hmem : ∀ y, y ∈ (removeFault r s).faults.records ↔ y ∈ s.faults.records ∧ y.slot ≠ r.slot := fun y => by
    rw [removeFault_faults, List.mem_filter, decide_eq_true_eq]
  cases hfree : (removeFault r s).freeFaultSlot with
  | none =>
    obtain ⟨y, hy, hslot⟩ := freeFaultSlot_eq_none_iff.1 hfree r.slot
    exact absurd hslot ((hmem y).1 hy).2
  | some i =>
    obtain ⟨y, hy, hslot⟩ := freeFaultSlot_eq_none_iff.1 hfull i
    by_contra hne
    exact freeFaultSlot_free hfree y ((hmem y).2 ⟨hy, fun h => hne (by rw [← hslot, h])⟩) hslot

/-! ### Room for a record in ACTIVE (R136) -/

theorem oldestSuspect_none (h : ∀ r ∈ s.faults.records, r.state ≠ .suspect) : s.oldestSuspect = none := by
  have hnone : s.faults.records.filter (fun r => decide (r.state = .suspect)) = [] :=
    List.filter_eq_nil_iff.2 fun r hr => by simpa using h r hr
  rw [State.oldestSuspect, hnone]
  rfl

/-- The SUSPECT record of lowest order. -/
theorem oldestSuspect_of_lowest (hs : s.faultsOk) (hr : r ∈ s.faults.records) (hsuspect : r.state = .suspect)
    (hlow : ∀ x ∈ s.faults.records, x.state = .suspect → x = r ∨ r.order < x.order) : s.oldestSuspect = some r := by
  have hmem : r ∈ s.faults.records.filter (fun r => decide (r.state = .suspect)) :=
    List.mem_filter.2 ⟨hr, decide_eq_true hsuspect⟩
  obtain ⟨pre, post, hl⟩ := List.append_of_mem hmem
  have horder : (pre ++ r :: post).Pairwise (fun a b => a.slot.val < b.slot.val) :=
    hl ▸ (hs.imp fun h => h.1).sublist List.filter_sublist
  have hlower : ∀ x ∈ pre ++ r :: post, x = r ∨ r.order < x.order := fun x hx => by
    obtain ⟨hmem, hx⟩ := List.mem_filter.1 (hl ▸ hx)
    exact hlow x hmem (of_decide_eq_true hx)
  have hfold : s.oldestSuspect = (s.faults.records.filter (fun r => decide (r.state = .suspect))).foldl
      (preferred (fun x y => x.order < y.order)) none := rfl
  rw [hfold, hl]
  refine foldl_preferred_first (fun x hx => ?_) fun x hx => ?_
  · have hlt := (List.pairwise_append.1 horder).2.2 x hx r List.mem_cons_self
    exact (hlower x (List.mem_append_left _ hx)).resolve_left fun h => absurd hlt (by rw [h]; exact lt_irrefl _)
  · exact Nat.not_lt.2 ((hlower x (List.mem_append_right _ (List.mem_cons_of_mem r hx))).elim
      (fun h => by rw [h]) Nat.le_of_lt)

theorem makeRoom_free (h : s.freeFaultSlot = some i) : makeRoom s = some s := by
  rw [makeRoom, h, Option.isSome_some, if_pos rfl]

theorem makeRoom_full (h : s.freeFaultSlot = none) : makeRoom s = s.oldestSuspect.map (removeFault · s) := by
  rw [makeRoom, h, Option.isSome_none, if_neg Bool.false_ne_true]
  cases s.oldestSuspect <;> rfl

/-! ### The record that is created (R136) -/

/-- The record takes the free slot, and of the rest of the table only fields of docks may change. -/
theorem createActiveIn_table (hi : s.freeFaultSlot = some i) (hnew : s.findFault x k = none) (l : List CardNo) :
    (createActiveIn x k l s).faults.records =
      insertFault (createdFault s x k .active 0 l i s.faults.nextOrder) s.faults.records ∧
    (createActiveIn x k l s).faults.full = s.faults.full := by
  have hmarks : (s.addFault (newFault s x k .active 0 l)).faults.marksOf (createActiveIn x k l s).faults := by
    rw [createActiveIn, tellChange_faults]
    exact activeEffects_marks x k _
  rw [hmarks, addFault_eq hi (r := newFault s x k .active 0 l) hnew]
  exact ⟨rfl, rfl⟩

theorem createActiveIn_slot (hi : s.freeFaultSlot = some i) (hnew : s.findFault x k = none) (l : List CardNo) :
    (createActiveIn x k l s).faultSlot x k = i.val := by
  have hfound : (createActiveIn x k l s).findFault x k =
      some (createdFault s x k .active 0 l i s.faults.nextOrder) := by
    rw [State.findFault, (createActiveIn_table hi hnew l).1]
    exact find_insertFault (by simp [createdFault]) hnew
  rw [State.faultSlot, hfound]
  rfl

/-! ### RAISE_FAULT (R148) -/

variable {type number : Nat}

theorem raiseFault_outside (h : readSubject type number = none) : raiseFault type number s = (.plain .badArg, s) := by
  rw [raiseFault, h]
  rfl

theorem raiseFault_exists (h : readSubject type number = some x)
    (hold : (s.findFault x .hostReported).isSome = true) : raiseFault type number s = (.plain .exists, s) := by
  rw [raiseFault, h]
  exact if_pos hold

/-- With room made, the record is created and the data give its slot. -/
theorem raiseFault_made (h : readSubject type number = some x) (hnew : s.findFault x .hostReported = none)
    (hroom : makeRoom s = some t) (hslot : (createActiveIn x .hostReported [] t).faultSlot x .hostReported = i.val) :
    raiseFault type number s = (.ok [byte i.val], createActiveIn x .hostReported [] t) := by
  rw [raiseFault, h]
  exact (if_neg (by rw [hnew]; exact nofun)).trans (by simp only [hroom, hslot])

theorem raiseFault_full (h : readSubject type number = some x) (hnew : s.findFault x .hostReported = none)
    (hfull : s.freeFaultSlot = none) (hnone : ∀ r ∈ s.faults.records, r.state ≠ .suspect) :
    raiseFault type number s = (.plain .full, s) := by
  have hroom : makeRoom s = none := by rw [makeRoom_full hfull, oldestSuspect_none hnone]; rfl
  rw [raiseFault, h]
  exact (if_neg (by rw [hnew]; exact nofun)).trans (by simp only [hroom, refuse])

theorem raiseFault_free (h : readSubject type number = some x) (hnew : s.findFault x .hostReported = none)
    (hi : s.freeFaultSlot = some i) :
    raiseFault type number s = (.ok [byte i.val], createActiveIn x .hostReported [] s) :=
  raiseFault_made h hnew (makeRoom_free hi) (createActiveIn_slot hi hnew [])

/-- A record taken out leaves the subject without the record that it had none of. -/
theorem findFault_removed (hnew : s.findFault x k = none) (r : FaultRecord) :
    (removeFault r s).findFault x k = none := by
  rw [findFault_eq_none_iff, removeFault_faults]
  exact fun y hy => findFault_eq_none_iff.1 hnew y (List.mem_filter.1 hy).1

theorem raiseFault_evicts (h : readSubject type number = some x) (hnew : s.findFault x .hostReported = none)
    (hfull : s.freeFaultSlot = none) (hold : s.oldestSuspect = some r) :
    raiseFault type number s =
      (.ok [byte r.slot.val], createActiveIn x .hostReported [] (removeFault r s)) :=
  raiseFault_made h hnew (by rw [makeRoom_full hfull, hold]; rfl)
    (createActiveIn_slot (freeFaultSlot_removed r hfull) (findFault_removed hnew r) [])

/-- Eviction gives the slot of the record to the new one, and every other record stays. -/
theorem evicted_table (hs : s.faultsOk) (hr : r ∈ s.faults.records) (hsuspect : r.state = .suspect)
    (hfull : s.freeFaultSlot = none) (hnew : s.findFault x k = none) (l : List CardNo) :
    (createActiveIn x k l (removeFault r s)).faults.full = s.faults.full ∧
    r ∉ (createActiveIn x k l (removeFault r s)).faults.records ∧
    (∃ y ∈ (createActiveIn x k l (removeFault r s)).faults.records, y.slot = r.slot ∧ y.subject = x ∧ y.kind = k ∧
      y.state = .active ∧ y.seen = false) ∧
    ∀ y ∈ s.faults.records, y ≠ r → y ∈ (createActiveIn x k l (removeFault r s)).faults.records := by
  obtain ⟨hrecords, hflag⟩ :=
    createActiveIn_table (freeFaultSlot_removed r hfull) (findFault_removed hnew r) l
  have hmem : ∀ y, y ∈ (createActiveIn x k l (removeFault r s)).faults.records ↔
      y = createdFault (removeFault r s) x k .active 0 l r.slot (removeFault r s).faults.nextOrder ∨
      y ∈ s.faults.records ∧ y.slot ≠ r.slot := fun y => by
    rw [hrecords, mem_insertFault, removeFault_faults, List.mem_filter, decide_eq_true_eq]
  refine ⟨by rw [hflag, removeFault_faults], fun hmemr => ?_, ⟨_, (hmem _).2 (.inl rfl), rfl, rfl, rfl, rfl, rfl⟩,
    fun y hy hne => (hmem y).2 (.inr ⟨hy, fun hslot => hne (fault_eq_of_slot hs hy hr hslot)⟩)⟩
  rcases (hmem r).1 hmemr with heq | ⟨-, hslot⟩
  · rw [heq] at hsuspect
    cases hsuspect
  · exact hslot rfl

end

/-- RAISE_FAULT as a change command of 3 argument bytes. -/
theorem changes_raiseFault {s : State} {type : Byte} {number : Nat} {y : Result} {u : State} (hb : s.busy = false)
    (hn : number < 65536) (h : raiseFault type.toNat number (s.taking 3) = (y, u)) :
    changes (.raiseFault (type :: beBytes 2 number)) 3 y u s := by
  have hrun : raiseFault (field (type :: beBytes 2 number) 0 1) (field (type :: beBytes 2 number) 1 2) (s.taking 3) =
      (y, u) := by
    rw [field_zero, field_succ, field_beBytes 2 number hn, h]
  have hwork := changes_work (exec_raiseFault (type :: beBytes 2 number) s) hb (by simp)
    (closed_raiseFault (port_closed _) _ _ _ rfl)
  rwa [hrun] at hwork

/-- A command that is refused leaves the records as they are. -/
theorem changes_taking {c : Instr} {n : Nat} {y : Result} {s : State} (h : changes c n y (s.taking n) s) :
    changes c n y s s := h

/-- Settles O32: the checks of R148 in their order, the record created in the lowest free slot
(`createActiveIn_table`, `freeFaultSlot_lowest`) or in that of the oldest SUSPECT record (`evicted_table`). -/
theorem faultRaised : Obligations.FaultRaised := by
  unfold Obligations.FaultRaised
  refine ⟨⟨fun s type number hn hb => ⟨fun hout => ?_, fun x hx => ⟨fun hold => ?_, fun hnew hfull hnone => ?_,
    fun i hnew hi => ⟨_, changes_raiseFault hb hn (raiseFault_free (s := s.taking 3) hx hnew hi), ?_⟩,
    fun r hs hnew hfull hr hsuspect hlow => ?_⟩⟩, readSubject_eq⟩,
    fun s => ⟨fun i => freeFaultSlot_lowest, freeFaultSlot_eq_none_iff.1⟩⟩
  · exact changes_taking (changes_raiseFault hb hn (raiseFault_outside hout))
  · exact changes_taking (changes_raiseFault hb hn (raiseFault_exists hx hold))
  · exact changes_taking (changes_raiseFault hb hn (raiseFault_full hx hnew hfull hnone))
  · exact createActiveIn_table (s := s.taking 3) hi hnew []
  · have hold : (s.taking 3).oldestSuspect = some r := oldestSuspect_of_lowest (s := s.taking 3) hs hr hsuspect hlow
    exact ⟨_, changes_raiseFault hb hn (raiseFault_evicts hx hnew hfull hold),
      evicted_table (s := s.taking 3) hs hr hsuspect hfull hnew []⟩

end Sys2Proof.Machine
end

section
/-! PROOFS. CLEAR_FAULT: the table of R149, what a retirement leaves of the docks and of the string, and the unmark of
the dock that holds a bicycle with the MARK that clears it (R136, R141, R145, R149). -/

namespace Sys2Proof.Machine

open Sys2Proof

/-! ### The kind and the record that are named (R149) -/

theorem faultKindOf_outside {n : Nat} (h : 9 < n) : faultKindOf n = none :=
  List.find?_eq_none.2 fun k _ => by
    have hcode : k.code ≤ 9 := by cases k <;> decide
    simpa using fun heq => absurd heq (by omega)

section

variable {s : State} {x : Subject} {k : FaultKind} {r : FaultRecord} {type number kind : Nat}

theorem clearFault_outside (h : 3 < type ∨ 9 < kind) : clearFault type number kind s = (.plain .badArg, s) := by
  by_cases htype : 3 < type
  · exact if_pos htype
  · exact (if_neg htype).trans (by simp only [faultKindOf_outside (h.resolve_left htype), refuse])

theorem clearFault_missing (htype : type ≤ 3) (hk : faultKindOf kind = some k)
    (h : ∀ x, readSubject type number = some x → s.findFault x k = none) :
    clearFault type number kind s = (.plain .notFound, s) := by
  have hnone : (readSubject type number).bind (fun x => s.findFault x k) = none := by
    cases hx : readSubject type number with
    | none => rfl
    | some x => exact h x hx
  exact (if_neg (Nat.not_lt.2 htype)).trans (by simp only [hk, hnone, refuse])

theorem clearFault_found (htype : type ≤ 3) (hk : faultKindOf kind = some k) (hx : readSubject type number = some x)
    (hr : s.findFault x k = some r) : clearFault type number kind s = clearRecord r s :=
  (if_neg (Nat.not_lt.2 htype)).trans (by simp only [hk, hx, Option.bind_some, hr])

/-- The table of R149 by the kind and the state of the record. -/
theorem clearRecord_eq (r : FaultRecord) (s : State) : clearRecord r s =
    if r.kind = .noContact ∨ r.kind = .lineSplit ∨ (r.kind.origin = 0 ∧ r.state = .clearing) then (.plain .state, s)
    else if r.kind.origin = 0 ∧ r.state = .active then startClearing r s
    else clearRetire r s := by
  unfold clearRecord refuse
  cases r.kind <;> cases r.state <;> rfl

/-! ### CLEARING (R149) -/

theorem startClearing_records (hs : s.faultsOk) (hr : r ∈ s.faults.records) :
    (startClearing r s).2.faults.records = s.faults.records.map
      (fun x => if x = r then { x with state := .clearing, count := 0 } else x) := by
  rw [startClearing, tellChange_faults, setFault_eq hs hr fun _ => rfl]

/-! ### Retirement (R135, R136, R141) -/

/-- A record was retired: the table has lost it and FAULT_FULL, and what answers gave the docks, the contact states and
the calls of the queue are as they were. -/
structure FaultRetired (r : FaultRecord) (s t : State) : Prop where
  faults : t.faults = { s.faults with records := s.faults.records.filter (fun x => decide (x ≠ r)), full := false }
  known : ∀ d, (t.dock d).known = (s.dock d).known
  contact : ∀ n, (t.link n).contact = (s.link n).contact
  calls : ∀ n, s.callsAtMost n → t.callsAtMost n

theorem retireFault_retires (hs : s.faultsOk) (hr : r ∈ s.faults.records) : FaultRetired r s (retireFault r s) where
  faults := by
    rw [retireFault, removeFault_faults, ← filter_slot_eq hs hr]
    rfl
  known d := closed_retireFault (known_closed d _) r s rfl
  contact n := closed_retireFault (linkField_closed n LinkRecord.contact (fun _ _ => rfl) _).toCalmClosed r s rfl
  calls n h := faulted_retireFault (callsAtMost_faulted n) (.inr (callsAtMost_masks n)) s h

/-- A retired BUTTON_STUCK record takes its button mask away (R141). -/
theorem retireFault_buttonMask {d : Dock} (hx : r.subject = .dock d) (hk : r.kind = .buttonStuck) (s : State) :
    ((retireFault r s).link (dockNode d)).buttonMask = false := by
  have hlinks : (retireFault r s).string.links = ((s.setFaultFull false).withoutFault r).string.links := by
    rw [retireFault, removeFault_eq]
    exact managed_tellChange (links_reported _).toManifestClosed _ _ _ rfl
  have hmasked : (s.setFaultFull false).withoutFault r =
      ((s.setFaultFull false).filterFaults (fun x => decide (x.slot ≠ r.slot))).setLink (dockNode d)
        (fun l => { l with buttonMask := false }) := by
    unfold State.withoutFault
    simp only [hx, hk, if_true]
  rw [link_of_links hlinks, hmasked, setLink_link, if_pos rfl]

/-! ### The unmark of a dock, and the MARK that clears (R145) -/

variable {d : Dock} {b : Bike}

theorem occupancy_mark_of_known {a b : DockRecord} (h : a.known = b.known) :
    a.occupancy = b.occupancy ∧ a.serviceMark = b.serviceMark := by
  have hocc := congrArg DockRecord.occupancy h
  have hmark := congrArg DockRecord.serviceMark h
  exact ⟨hocc, hmark⟩

/-- The unmark of a dock is set. -/
def State.unmarked (d : Dock) (b : Bike) (s : State) : State :=
  s.setFaultDock d (fun f => { f with unmark := some b })

theorem unmarked_dock (e : Dock) : (s.unmarked d b).dock e = s.dock e := rfl

theorem unmarked_link (n : Node) : (s.unmarked d b).link n = s.link n := rfl

theorem unmarked_faultDock : (s.unmarked d b).faultDock d = { s.faultDock d with unmark := some b } := by
  rw [State.unmarked, setFaultDock_faultDock, if_pos rfl]

theorem setUnmark_eq (d : Dock) (b : Bike) (s : State) : setUnmark d b s = evalMark d (s.unmarked d b) := rfl

/-- A MARK that clears is wanted at a dock that has the unmark of its bicycle, and none is pending. -/
def State.wantsClear (d : Dock) (b : Bike) (s : State) : Prop :=
  (s.dock d).occupancy = .occupied ∧ (s.link (dockNode d)).contact ≠ .lost ∧ (s.dock d).serviceMark = true ∧
    (s.faultDock d).markPending ≠ some (false, b)

theorem wantsClear_congr {t : State} (hdock : (t.dock d).known = (s.dock d).known)
    (hcontact : (t.link (dockNode d)).contact = (s.link (dockNode d)).contact)
    (hmarks : t.faultDock d = s.faultDock d) : t.wantsClear d b ↔ s.wantsClear d b := by
  obtain ⟨hocc, hmark⟩ := occupancy_mark_of_known hdock
  unfold State.wantsClear
  rw [hocc, hcontact, hmark, hmarks]

section

variable (hactive : s.bikeFaultActive b = false) (hb : (s.dock d).bike = some b)
include hactive hb

/-- With the unmark set, the mark wanted where the dock is OCCUPIED and not LOST is the cleared one. -/
theorem markWanted_unmarked (hocc : (s.dock d).occupancy = .occupied)
    (hcontact : (s.link (dockNode d)).contact ≠ .lost) : (s.unmarked d b).markWanted d = some (false, b) := by
  have hnone : (s.unmarked d b).bikeFaultActive b = false := hactive
  rw [markWanted_at (s := s.unmarked d b) hocc hcontact hb, hnone, if_neg Bool.false_ne_true, unmarked_faultDock,
    if_pos rfl]

theorem setUnmark_wanted (h : s.wantsClear d b) : setUnmark d b s =
    placeDock d .mark [0] (.faultTable b)
      (s.setFaultDock d (fun f => { f with unmark := some b, markPending := some (false, b) })) := by
  obtain ⟨hocc, hcontact, hmark, hpending⟩ := h
  simp only [setUnmark_eq, evalMark, markWanted_unmarked hactive hb hocc hcontact, unmarked_dock, hmark,
    unmarked_faultDock]
  rw [if_pos ⟨Bool.false_ne_true, hpending⟩, State.unmarked, setFaultDock_setFaultDock]
  rfl

theorem setUnmark_unwanted (h : ¬s.wantsClear d b) : setUnmark d b s = s.unmarked d b := by
  rw [setUnmark_eq]
  by_cases hat : (s.dock d).occupancy = .occupied ∧ (s.link (dockNode d)).contact ≠ .lost
  · refine evalMark_stays (markWanted_unmarked hactive hb hat.1 hat.2) ?_
    rw [unmarked_dock, unmarked_faultDock]
    by_contra hplaces
    obtain ⟨hmark, hpending⟩ := not_or.1 hplaces
    exact h ⟨hat.1, hat.2, by simpa using Ne.symm hmark, hpending⟩
  · exact evalMark_idle (markWanted_none fun c hc => hat ⟨hc.1, hc.2.1⟩)

end

/-! ### The unmark after a bike fault is retired (R149) -/

theorem dockHolding_lowest (hb : (s.dock d).bike = some b) (hlow : ∀ e, e < d → (s.dock e).bike ≠ some b) :
    s.dockHolding b = some d := by
  refine List.find?_eq_some_iff_getElem.2 ⟨decide_eq_true hb, d.val, by simp [allDocks], by simp [allDocks],
    fun j hj => ?_⟩
  have hother := hlow ⟨j, hj.trans d.isLt⟩ hj
  simpa [allDocks] using hother

theorem unmarkAfter_other (h : ∀ b, x ≠ .bike b) (s : State) : unmarkAfter x s = s := by
  cases x with
  | bike b => exact absurd rfl (h b)
  | dock _ | segment _ | terminal => rfl

theorem unmarkAfter_active (h : s.bikeFaultActive b = true) : unmarkAfter (.bike b) s = s := if_pos h

theorem unmarkAfter_nowhere (h : ∀ d, (s.dock d).bike ≠ some b) : unmarkAfter (.bike b) s = s := by
  have hnone : s.dockHolding b = none := List.find?_eq_none.2 fun d _ => by simpa using h d
  simp only [unmarkAfter, hnone]
  exact ite_self s

theorem unmarkAfter_holding (hactive : s.bikeFaultActive b = false) (hd : s.dockHolding b = some d) :
    unmarkAfter (.bike b) s = setUnmark d b s := by
  simp only [unmarkAfter, hactive, hd, Bool.false_eq_true, if_false]

theorem unmarkAfter_marks (x : Subject) (s : State) : s.faults.marksOf (unmarkAfter x s).faults := by
  cases x with
  | bike b =>
    unfold unmarkAfter
    dsimp only
    repeat' split
    · rfl
    · exact (evalMark_marks _ _).trans rfl
    · rfl
  | dock _ | segment _ | terminal => rfl

/-! ### The table of R149, outcome by outcome -/

theorem clearRecord_stays (h : r.kind = .noContact ∨ r.kind = .lineSplit ∨ (r.kind.origin = 0 ∧ r.state = .clearing)) :
    clearRecord r s = (.plain .state, s) := (clearRecord_eq r s).trans (if_pos h)

/-- A record that does not stay is retired, or becomes CLEARING where it is a sensed one in ACTIVE. -/
theorem clearRecord_goes (hcontact : r.kind ≠ .noContact) (hsplit : r.kind ≠ .lineSplit)
    (hstate : r.kind.origin = 0 → r.state ≠ .clearing) : clearRecord r s =
      if r.kind.origin = 0 ∧ r.state = .active then startClearing r s else clearRetire r s := by
  refine (clearRecord_eq r s).trans (if_neg ?_)
  rintro (hk | hk | ⟨horigin, hclearing⟩)
  exacts [hcontact hk, hsplit hk, hstate horigin hclearing]

theorem clearRecord_starts (horigin : r.kind.origin = 0) (hcontact : r.kind ≠ .noContact)
    (hsplit : r.kind ≠ .lineSplit) (hactive : r.state = .active) : clearRecord r s = startClearing r s :=
  (clearRecord_goes hcontact hsplit fun _ => by rw [hactive]; exact nofun).trans (if_pos ⟨horigin, hactive⟩)

theorem clearRecord_retires
    (h : r.kind.origin ≠ 0 ∨ (r.kind ≠ .noContact ∧ r.kind ≠ .lineSplit ∧ r.state = .suspect)) :
    clearRecord r s = clearRetire r s := by
  rcases h with horigin | ⟨hcontact, hsplit, hsuspect⟩
  · exact (clearRecord_goes (fun hk => horigin (by rw [hk]; rfl)) (fun hk => horigin (by rw [hk]; rfl))
      (absurd · horigin)).trans (if_neg fun hsensed => horigin hsensed.1)
  · exact (clearRecord_goes hcontact hsplit fun _ => by rw [hsuspect]; exact nofun).trans
      (if_neg fun hsensed => by cases hsuspect.symm.trans hsensed.2)

end

/-! ### What a retirement by the host leaves (R149) -/

section

variable {s t : State} {r : FaultRecord} {b : Bike} {d : Dock}

theorem FaultRetired.bikeFaultActive (h : FaultRetired r s t) : t.bikeFaultActive b = true ↔
    ∃ y ∈ s.faults.records, y ≠ r ∧ y.subject = .bike b ∧ y.state = .active := by
  rw [bikeFaultActive_iff, h.faults]
  simp only [List.mem_filter, decide_eq_true_eq, and_assoc]

theorem FaultRetired.bike (h : FaultRetired r s t) (e : Dock) : (t.dock e).bike = (s.dock e).bike :=
  bike_of_known (h.known e)

theorem FaultRetired.faultDock (h : FaultRetired r s t) (e : Dock) : t.faultDock e = s.faultDock e := by
  unfold State.faultDock
  rw [h.faults]

theorem FaultRetired.table (h : FaultRetired r s t) (x : Subject) :
    (unmarkAfter x t).faults.records = s.faults.records.filter (fun x => decide (x ≠ r)) ∧
    (unmarkAfter x t).faults.full = false := by
  rw [unmarkAfter_marks x t, h.faults]
  exact ⟨rfl, rfl⟩

theorem FaultRetired.docks_stay (h : FaultRetired r s t)
    (hstay : (∃ y ∈ s.faults.records, y ≠ r ∧ y.subject = .bike b ∧ y.state = .active) ∨
      (∀ e, (s.dock e).bike ≠ some b)) : (unmarkAfter (.bike b) t).faults.docks = s.faults.docks := by
  have hidle : unmarkAfter (.bike b) t = t := hstay.elim
    (fun hactive => unmarkAfter_active (h.bikeFaultActive.2 hactive))
    (fun hnowhere => unmarkAfter_nowhere fun e => by rw [h.bike]; exact hnowhere e)
  rw [hidle, h.faults]

section

variable (h : FaultRetired r s t)
  (hlast : ∀ y ∈ s.faults.records, y ≠ r → y.subject = .bike b → y.state ≠ .active)
  (hb : (s.dock d).bike = some b) (hlow : ∀ e, e < d → (s.dock e).bike ≠ some b)
include h hlast hb hlow

theorem FaultRetired.unmarks : unmarkAfter (.bike b) t = setUnmark d b t ∧ t.bikeFaultActive b = false ∧
    (t.dock d).bike = some b := by
  have hactive : t.bikeFaultActive b = false := by
    rw [← Bool.not_eq_true, h.bikeFaultActive]
    exact fun ⟨y, hy, hne, hsubject, hstate⟩ => hlast y hy hne hsubject hstate
  have hbike : (t.dock d).bike = some b := (h.bike d).trans hb
  exact ⟨unmarkAfter_holding hactive (dockHolding_lowest hbike fun e he => by rw [h.bike]; exact hlow e he),
    hactive, hbike⟩

/-- The unmark with no MARK to place. -/
theorem FaultRetired.unmarks_unwanted (hmarks : ¬s.wantsClear d b) :
    (∀ e, e ≠ d → (unmarkAfter (.bike b) t).faultDock e = s.faultDock e) ∧
    (unmarkAfter (.bike b) t).faultDock d = { s.faultDock d with unmark := some b } := by
  obtain ⟨hunmarks, hactive, hbike⟩ := h.unmarks hlast hb hlow
  have hunwanted : ¬t.wantsClear d b := by rwa [wantsClear_congr (h.known d) (h.contact _) (h.faultDock d)]
  rw [hunmarks, setUnmark_unwanted hactive hbike hunwanted]
  refine ⟨fun e he => ?_, by rw [unmarked_faultDock, h.faultDock]⟩
  rw [State.unmarked, setFaultDock_faultDock, if_neg (Ne.symm he), h.faultDock]

/-- The unmark with the MARK that clears, which waits where the queue has room or a SURVEY or SHOW to give up. -/
theorem FaultRetired.unmarks_wanted (hmarks : s.wantsClear d b) :
    (∀ e, e ≠ d → (unmarkAfter (.bike b) t).faultDock e = s.faultDock e) ∧
    (unmarkAfter (.bike b) t).faultDock d =
      { s.faultDock d with unmark := some b, markPending := some (false, b) } ∧
    (s.callsAtMost 39 → ∃ q ∈ (unmarkAfter (.bike b) t).string.queue, q.target = .node (dockNode d) ∧
      q.verb = .mark ∧ q.args = [0] ∧ .faultTable b ∈ q.originators) := by
  obtain ⟨hunmarks, hactive, hbike⟩ := h.unmarks hlast hb hlow
  have hwanted : t.wantsClear d b := (wantsClear_congr (h.known d) (h.contact _) (h.faultDock d)).2 hmarks
  rw [hunmarks, setUnmark_wanted hactive hbike hwanted]
  refine ⟨fun e he => ?_, ?_, fun hcalls => ?_⟩
  · rw [faultDock_of_faults (placeDock_faults ..), setFaultDock_faultDock, if_neg (Ne.symm he), h.faultDock]
  · rw [faultDock_of_faults (placeDock_faults ..), setFaultDock_faultDock, if_pos rfl, h.faultDock]
  · exact (placeDock_call (s := t.setFaultDock d _) (v := .mark) (by decide) (h.calls 39 hcalls) _ _).2

end

end

/-- CLEAR_FAULT as a change command of 4 argument bytes. -/
theorem changes_clearFault {s : State} {type kind : Byte} {number : Nat} {y : Result} {u : State} (hb : s.busy = false)
    (hn : number < 65536) (h : clearFault type.toNat number kind.toNat (s.taking 4) = (y, u)) :
    changes (.clearFault (type :: beBytes 2 number ++ [kind])) 4 y u s := by
  have hnumber : field (type :: beBytes 2 number ++ [kind]) 1 2 = number := by
    rw [List.cons_append, field_succ, field_first 2 number _ hn]
  have hkind : field (type :: beBytes 2 number ++ [kind]) 3 1 = kind.toNat := by
    rw [List.cons_append, field_succ, field_beyond 2 number 2 1 _ (Nat.le_refl 2), field_zero]
  have hwork := changes_work (exec_clearFault (type :: beBytes 2 number ++ [kind]) s) hb (by simp)
    (closed_clearFault (port_closed _) _ _ _ _ rfl)
  rwa [hnumber, hkind, List.cons_append, field_zero, h] at hwork

/-- Settles O33: the checks of R149 in their order, the table of kinds and states (`clearRecord_eq`), and what a
retirement leaves of the table, the mask and the unmark (`retireFault_retires`, `FaultRetired.unmarks_wanted`). -/
theorem faultCleared : Obligations.FaultCleared := by
  unfold Obligations.FaultCleared
  refine fun s type kind number hn hb => ⟨fun hout => ?_, fun k htype hk => ⟨fun hx => ?_, fun x hx =>
    ⟨fun hnone => ?_, fun r hs hr => ?_⟩⟩⟩
  · exact changes_taking (changes_clearFault hb hn (clearFault_outside hout))
  · exact changes_taking (changes_clearFault hb hn (clearFault_missing htype hk fun x hx' => by simp [hx] at hx'))
  · refine changes_taking (changes_clearFault hb hn (clearFault_missing htype hk fun y hy => ?_))
    rw [← Option.some.inj (hx.symm.trans hy)]
    exact hnone
  · have hfound : clearFault type.toNat number kind.toNat (s.taking 4) = clearRecord r (s.taking 4) :=
      clearFault_found htype hk hx hr
    obtain ⟨hmem, rfl, rfl⟩ := mem_of_findFault hr
    refine ⟨fun hstays => ?_, fun horigin hcontact hsplit hactive => ?_, fun hretires => ?_⟩
    · exact changes_taking (changes_clearFault hb hn (hfound.trans (clearRecord_stays hstays)))
    · exact ⟨_, changes_clearFault hb hn (hfound.trans (clearRecord_starts horigin hcontact hsplit hactive)),
        startClearing_records (s := s.taking 4) hs hmem⟩
    · have hretired : FaultRetired r s (retireFault r (s.taking 4)) := by
        obtain ⟨hfaults, hknown, hlinks, hcalls⟩ := retireFault_retires (s := s.taking 4) hs hmem
        exact ⟨hfaults, hknown, hlinks, hcalls⟩
      obtain ⟨hrecords, hfull⟩ := hretired.table r.subject
      refine ⟨_, changes_clearFault hb hn (hfound.trans (clearRecord_retires hretires)), hrecords, hfull,
        fun d hd hstuck => ?_, fun hnobike => ?_, fun b hbike => ?_⟩
      · rw [unmarkAfter_other (by rw [hd]; exact nofun)]
        exact retireFault_buttonMask hd hstuck _
      · rw [unmarkAfter_other hnobike, hretired.faults]
      · rw [hbike]
        refine ⟨hretired.docks_stay, fun d hlast hdock hlow => ?_⟩
        by_cases hmarks : s.wantsClear d b
        · obtain ⟨hother, hown, hcall⟩ := hretired.unmarks_wanted hlast hdock hlow hmarks
          exact ⟨hother, fun hnot => absurd hmarks hnot, fun _ => ⟨hown, fun hflight hroom =>
            hcall (callsAtMost_of_filter hflight hroom)⟩⟩
        · obtain ⟨hother, hown⟩ := hretired.unmarks_unwanted hlast hdock hlow hmarks
          exact ⟨hother, fun _ => hown, fun hwanted => absurd hwanted hmarks⟩

end Sys2Proof.Machine
end

section
/-! PROOFS. The staged buffer: STAGE_HEADER and STAGE_MOVE over their argument bytes, and the checks of R155. -/

namespace Sys2Proof.Machine

open Sys2Proof

/-! ### STAGE_HEADER (R155) -/

section

variable {s : State} {number : Nat} {card : CardNo} {minutes follow count : Byte}

theorem stagedHeld_iff : s.stagedHeld = true ↔ ∃ g, s.manifest.staged = some g ∧ g.held = true := by
  unfold State.stagedHeld
  cases s.manifest.staged <;> simp

/-- The checks of a header, over the values that its bytes spell. -/
theorem headerArg_eq (hn : number < 65536) :
    headerArg (beBytes 2 number ++ beBytes 5 card.toNat ++ [minutes, follow, count]) =
      if number = 0 ∨ minutes.toNat < 1 ∨ 240 < minutes.toNat ∨ 1 < follow.toNat ∨ count.toNat < 1 ∨ 16 < count.toNat
      then none
      else some { number := number, crewCard := card, expiryMinutes := minutes.toNat,
                  followOn := decide (follow = 1), moveCount := count.toNat } := by
  have hfollow : decide (follow.toNat = 1) = decide (follow = 1) :=
    decide_eq_decide.2 ⟨fun h => BitVec.eq_of_toNat_eq h, fun h => by rw [h]; rfl⟩
  unfold headerArg
  simp only [List.append_assoc, field_first 2 number _ hn,
    field_beyond 2 number 2 5 _ (Nat.le_refl 2), field_beyond 2 number 7 1 _ (by omega), field_beyond 2 number 8 1 _ (by omega),
    field_beyond 2 number 9 1 _ (by omega), Nat.reduceSub, field_first 5 card.toNat _ card.isLt,
    field_beyond 5 card.toNat _ 1 _ (Nat.le_refl 5), field_beyond 5 card.toNat 6 1 _ (by omega),
    field_beyond 5 card.toNat 7 1 _ (by omega), field_zero, field_succ, BitVec.ofNat_toNat, BitVec.setWidth_eq, hfollow]

theorem stageHeader_held {a : List Byte} {h : ManifestHeader} (ha : headerArg a = some h)
    (hheld : ∃ g, s.manifest.staged = some g ∧ g.held = true) : stageHeader a s = (.plain .state, s) := by
  simp only [stageHeader, ha, stagedHeld_iff.2 hheld, if_true, refuse]

theorem stageHeader_taken {a : List Byte} {h : ManifestHeader} (ha : headerArg a = some h)
    (hfree : ∀ g, s.manifest.staged = some g → g.held = false) : stageHeader a s = (.ok [], { s with
      manifest := { s.manifest with staged := some { header := h, moves := Vector.replicate 16 none, held := false } } }) := by
  have hnot : ¬s.stagedHeld = true := fun hheld => by
    obtain ⟨g, hg, hheld⟩ := stagedHeld_iff.1 hheld
    exact Bool.false_ne_true ((hfree g hg).symm.trans hheld)
  simp only [stageHeader, ha, hnot, Bool.false_eq_true, if_false]
  rfl

/-- STAGE_HEADER as a change command of 10 argument bytes. -/
theorem changes_stageHeader {u : State} {x : Result} {a : List Byte} (hb : s.busy = false) (hlen : a.length = 10)
    (h : stageHeader a (s.taking 10) = (x, { u with port := (s.taking 10).port })) :
    changes (.stageHeader a) 10 x u s :=
  changes_of _ 10 a stageHeader s u x (exec_stageHeader a s) hb hlen h

end

/-! ### STAGE_MOVE (R155) -/

section

variable {s : State} {g : StagedManifest} {i kind dock : Byte} {bike : Bike}

/-- STAGE_MOVE as a change command of 5 argument bytes. -/
theorem changes_stageMove {u : State} {x : Result} (hb : s.busy = false)
    (h : stageMove i.toNat kind.toNat dock.toNat bike.toNat (s.taking 5) = (x, { u with port := (s.taking 5).port })) :
    changes (.stageMove ([i, kind, dock] ++ beBytes 2 bike.toNat)) 5 x u s := by
  refine changes_of _ 5 _ _ s u x (exec_stageMove _ s) hb (by simp) ?_
  simp only [List.cons_append, List.nil_append, field_succ, field_zero, field_beBytes 2 bike.toNat bike.isLt]
  exact h

/-- The move that STAGE_MOVE writes: OPEN, with every optional field absent that is not named. -/
def writtenMove (kind dock : Byte) (bike : Bike) : Move :=
  { kind := if kind = 0 then .pickup else .drop, dock := dockOfNumber dock.toNat,
    bike := if bike = 0 then none else some bike, state := .opened, heldDock := none, landedDock := none,
    doneDock := none, doneBike := none, latePull := false }

theorem moveArg_refused (h : 1 < kind.toNat ∨ 30 < dock.toNat ∨ (kind = 1 ∧ bike ≠ 0)) :
    moveArg kind.toNat dock.toNat bike.toNat = none := by
  refine if_pos (h.imp_right (Or.imp_right ?_))
  rintro ⟨rfl, hbike⟩
  exact ⟨rfl, fun hzero => hbike (BitVec.eq_of_toNat_eq hzero)⟩

theorem moveArg_written (hkind : kind.toNat ≤ 1) (hdock : dock.toNat ≤ 30) (hdrop : kind = 1 → bike = 0) :
    moveArg kind.toNat dock.toNat bike.toNat = some (writtenMove kind dock bike) := by
  have hkind0 : (kind.toNat = 0) = (kind = 0) :=
    propext ⟨fun h => BitVec.eq_of_toNat_eq h, fun h => by rw [h]; rfl⟩
  have hbike0 : (bike.toNat = 0) = (bike = 0) :=
    propext ⟨fun h => BitVec.eq_of_toNat_eq h, fun h => by rw [h]; rfl⟩
  have hpass : ¬(1 < kind.toNat ∨ 30 < dock.toNat ∨ (kind.toNat = 1 ∧ bike.toNat ≠ 0)) := by
    rintro (h | h | ⟨h, hbike⟩)
    · omega
    · omega
    · exact hbike (by rw [hdrop (BitVec.eq_of_toNat_eq h)]; rfl)
  rw [moveArg, if_neg hpass]
  simp only [hkind0, hbike0, BitVec.ofNat_toNat, BitVec.setWidth_eq, writtenMove]

theorem dockOfNumber_isSome {n : Nat} : (dockOfNumber n).isSome = true ↔ 1 ≤ n ∧ n ≤ 30 := by
  unfold dockOfNumber
  split <;> simp [*]

/-- The written move names the dock or the bicycle of another one. -/
theorem sameNamed_written {y : Move} (hdock : dock.toNat ≤ 30) : sameNamed (writtenMove kind dock bike) y = true ↔
    (dock ≠ 0 ∧ y.dock = dockOfNumber dock.toNat) ∨ (bike ≠ 0 ∧ y.bike = some bike) := by
  have hnamed : (dockOfNumber dock.toNat).isSome = true ↔ dock ≠ 0 := by
    rw [dockOfNumber_isSome, and_iff_left hdock, Nat.one_le_iff_ne_zero, ne_eq, ne_eq, not_iff_not]
    exact ⟨fun h => BitVec.eq_of_toNat_eq h, fun h => by rw [h]; rfl⟩
  have hbike : ∀ x : Option Bike, ((if bike = 0 then none else some bike).isSome = true ∧
      (if bike = 0 then none else some bike) = x) ↔ bike ≠ 0 ∧ x = some bike := fun x => by
    by_cases h : bike = 0
    · simp [h]
    · rw [if_neg h, and_iff_right h, Option.isSome_some, and_iff_right rfl, eq_comm]
  rw [sameNamed, Bool.or_eq_true, Bool.and_eq_true, Bool.and_eq_true, decide_eq_true_eq, decide_eq_true_eq]
  exact or_congr (and_congr hnamed eq_comm) (hbike y.bike)

theorem namesAlready_iff {n : Nat} {x : Move} : g.namesAlready n x = true ↔
    ∃ k : Fin 16, k.val ≠ n ∧ ∃ y, g.moves.get k = some y ∧ sameNamed x y = true := by
  simp only [StagedManifest.namesAlready, List.any_eq_true, List.mem_finRange, true_and, Bool.and_eq_true,
    decide_eq_true_eq]
  refine exists_congr fun k => and_congr_right fun _ => ?_
  cases g.moves.get k <;> simp

theorem stageMove_empty {n k d b : Nat} (hg : s.manifest.staged = none) : stageMove n k d b s = (.plain .state, s) := by
  simp only [stageMove, hg, refuse]

theorem stageMove_held {n k d b : Nat} (hg : s.manifest.staged = some g) (hheld : g.held = true) :
    stageMove n k d b s = (.plain .state, s) := by
  simp only [stageMove, hg, hheld, if_true, refuse]

theorem stageMove_outside {n k d b : Nat} (hg : s.manifest.staged = some g) (hheld : g.held = false)
    (h : g.header.moveCount ≤ n ∨ moveArg k d b = none) : stageMove n k d b s = (.plain .badArg, s) := by
  by_cases hn : g.header.moveCount ≤ n
  · simp only [stageMove, hg, hheld, hn, Bool.false_eq_true, if_false, if_true, refuse]
  · simp only [stageMove, hg, hheld, hn, h.resolve_left hn, Bool.false_eq_true, if_false, refuse]

/-- With every range kept, the move is written unless another index names its dock or bicycle. -/
theorem stageMove_inside {n k d b : Nat} {x : Move} (hg : s.manifest.staged = some g) (hheld : g.held = false)
    (hn : n < g.header.moveCount) (hx : moveArg k d b = some x) : stageMove n k d b s =
      if g.namesAlready n x then (.plain .exists, s)
      else (.ok [], { s with manifest := { s.manifest with staged := some { g with
        moves := g.moves.set (n % 16) (some x) } } }) := by
  simp only [stageMove, hg, hheld, Nat.not_le.2 hn, hx, Bool.false_eq_true, if_false, refuse]
  rfl

end

/-- Settles O34: the argument bytes (`headerArg_eq`, `moveArg_written`), and each command by the checks of R155 in
their order. -/
theorem manifestStaged : Obligations.ManifestStaged := by
  unfold Obligations.ManifestStaged
  refine ⟨fun s number card minutes follow count hn hb => ⟨fun hbad => ?_, fun hgood hheld => ?_, fun hgood hfree => ?_⟩,
    fun s i kind dock bike hb => ⟨fun hempty => ?_, fun g hg => ⟨fun hheld => ?_, fun hheld hout => ?_,
      fun hheld j hj hcount hkind hdock hdrop => ?_⟩⟩⟩
  · refine changes_stageHeader hb (by simp) ?_
    rw [stageHeader, headerArg_eq hn, if_pos hbad]
    rfl
  · exact changes_stageHeader hb (by simp) (stageHeader_held ((headerArg_eq hn).trans (if_neg hgood)) hheld)
  · exact changes_stageHeader hb (by simp) (stageHeader_taken ((headerArg_eq hn).trans (if_neg hgood)) hfree)
  · exact changes_stageMove hb (stageMove_empty hempty)
  · exact changes_stageMove hb (stageMove_held hg hheld)
  · exact changes_stageMove hb (stageMove_outside hg hheld (hout.imp_right moveArg_refused))
  · have hinside := stageMove_inside (s := s.taking 5) hg hheld (hj ▸ hcount) (moveArg_written hkind hdock hdrop)
    have hother : ∀ k : Fin 16, k.val ≠ i.toNat ↔ k ≠ j := fun k => by rw [hj, ne_eq, ne_eq, Fin.ext_iff]
    refine ⟨?_, fun hnew => ?_⟩
    · rintro ⟨k, hk, y, hy, hnames⟩
      have hnamed : g.namesAlready i.toNat (writtenMove kind dock bike) = true :=
        namesAlready_iff.2 ⟨k, (hother k).2 hk, y, hy, (sameNamed_written hdock).2 hnames⟩
      exact changes_stageMove hb (hinside.trans (if_pos hnamed))
    · have hunnamed : ¬g.namesAlready i.toNat (writtenMove kind dock bike) = true := fun hnamed => by
        obtain ⟨k, hk, y, hy, hnames⟩ := namesAlready_iff.1 hnamed
        obtain ⟨hnodock, hnobike⟩ := hnew k ((hother k).1 hk) y hy
        rcases (sameNamed_written hdock).1 hnames with ⟨hd, hsame⟩ | ⟨hd, hsame⟩
        · exact hnodock hd hsame
        · exact hnobike hd hsame
      refine changes_stageMove hb (hinside.trans ((if_neg hunnamed).trans ?_))
      have hindex : i.toNat % 16 = j.val := by rw [hj, Nat.mod_eq_of_lt j.isLt]
      simp only [hindex]
      rfl

end Sys2Proof.Machine
end

section
/-! PROOFS. Placing moves: the dock that a move is given, what a reservation writes, and the pass over the moves
(R158 to R162). -/

namespace Sys2Proof.Machine

open Sys2Proof

/-! ### The lowest dock with a property -/

section

variable {p q : Dock → Bool} {d : Dock}

theorem find_dock_iff : allDocks.find? p = some d ↔ p d = true ∧ ∀ e, e < d → p e = false := by
  rw [List.find?_eq_some_iff_getElem]
  constructor
  · rintro ⟨hp, i, hi, rfl, hlow⟩
    refine ⟨hp, fun e he => ?_⟩
    have hi' : e.val < i := by simpa [allDocks] using Fin.lt_def.1 he
    simpa [allDocks] using hlow e.val hi'
  · rintro ⟨hp, hlow⟩
    refine ⟨hp, d.val, by simp [allDocks], by simp [allDocks], fun j hj => ?_⟩
    simpa [allDocks] using hlow ⟨j, hj.trans d.isLt⟩ hj

theorem find_dock_none : allDocks.find? p = none ↔ ∀ e, p e = false := by
  simp [allDocks]

end

/-! ### Docks that are fit (R159, R160) -/

section

variable {s : State} {d : Dock}

/-- The dock has no coil fault (R150). -/
def State.coilSound (s : State) (d : Dock) : Prop :=
  ∀ r ∈ s.faults.records, r.subject = .dock d → (r.kind = .coilOpen ∨ r.kind = .coilShort) → r.state = .suspect

theorem coilFault_eq_false_iff : s.coilFault d = false ↔ s.coilSound d := by
  rw [← Bool.not_eq_true, coilFault_iff]
  unfold State.coilSound
  exact ⟨fun h r hr hsubject hkind => by_contra fun hstate => h ⟨r, hr, hsubject, hstate, hkind⟩,
    fun h ⟨r, hr, hsubject, hstate, hkind⟩ => hstate (h r hr hsubject hkind)⟩

/-- The dock can be reserved (R159, R160). -/
def State.canReserve (s : State) (d : Dock) : Prop :=
  (s.link (dockNode d)).contact = .reachable ∧ (s.dock d).reservation = .none ∧ s.coilSound d

/-- The dock is fit for a move of this kind, in the words of R159 and R160. -/
def State.suits (s : State) (k : MoveKind) (d : Dock) : Prop :=
  s.canReserve d ∧ (match k with
    | .pickup => (s.dock d).occupancy = .occupied ∧ (s.dock d).bike ≠ none ∧ (s.dock d).unpriced = false
    | .drop => (s.dock d).occupancy = .empty)

/-- The dock's bicycle has an ACTIVE bike fault (R150, R159). -/
def State.faultyBikeAt (s : State) (d : Dock) : Prop :=
  ∃ r ∈ s.faults.records, ∃ b, r.subject = .bike b ∧ r.state = .active ∧ (s.dock d).bike = some b

theorem fitPickup_iff : s.fitPickup d = true ↔ s.suits .pickup d := by
  simp only [State.fitPickup, Bool.and_eq_true, decide_eq_true_eq, Bool.not_eq_true', coilFault_eq_false_iff,
    Option.isSome_iff_ne_none]
  unfold State.suits State.canReserve State.contact
  tauto

theorem fitDrop_iff : s.fitDrop d = true ↔ s.suits .drop d := by
  simp only [State.fitDrop, Bool.and_eq_true, decide_eq_true_eq, Bool.not_eq_true', coilFault_eq_false_iff]
  unfold State.suits State.canReserve State.contact
  tauto

theorem dockBikeFaulty_iff : s.dockBikeFaulty d = true ↔ s.faultyBikeAt d := by
  unfold State.dockBikeFaulty State.faultyBikeAt
  cases hb : (s.dock d).bike with
  | none => simp
  | some b =>
    simp only [bikeFaultActive_iff, Option.some.injEq]
    exact ⟨fun ⟨r, hr, hsubject, hactive⟩ => ⟨r, hr, b, hsubject, hactive, rfl⟩,
      fun ⟨r, hr, _, hsubject, hactive, hsame⟩ => ⟨r, hr, hsame ▸ hsubject, hactive⟩⟩

/-! ### The dock that a move is given (R159, R160) -/

/-- The dock found for a move, by its kind. -/
def State.foundFor (s : State) (m : Move) : Option Dock :=
  match m.kind with
  | .pickup => s.findPickup m
  | .drop => s.findDrop m

theorem choosePickup_iff : s.choosePickup = some d ↔ s.fitPickup d = true ∧
    ((s.dockBikeFaulty d = true ∧ ∀ e, e < d → s.fitPickup e = true → ¬s.dockBikeFaulty e = true) ∨
      ((∀ e, s.fitPickup e = true → ¬s.dockBikeFaulty e = true) ∧ s.closed d = true ∧
        ∀ e, e < d → s.fitPickup e = true → s.closed e = false) ∨
      ((∀ e, s.fitPickup e = true → ¬s.dockBikeFaulty e = true ∧ s.closed e = false) ∧
        ∀ e, e < d → ¬s.fitPickup e = true)) := by
  have hchoose : s.choosePickup = (allDocks.find? (fun e => s.fitPickup e && s.dockBikeFaulty e)).or
      ((allDocks.find? (fun e => s.fitPickup e && s.closed e)).or (allDocks.find? s.fitPickup)) := by
    simp only [State.choosePickup, List.find?_filter, List.head?_filter, Bool.decide_and, Bool.decide_eq_true]
  rw [hchoose]
  simp only [Option.or_eq_some_iff, find_dock_iff, find_dock_none, Bool.and_eq_true, Bool.eq_false_iff, ne_eq, not_and]
  grind

theorem openDrop_iff : s.openDrop = some d ↔ s.fitDrop d = true ∧ s.closed d = false ∧
    ∀ e, e < d → s.fitDrop e = true → s.closed e = true := by
  simp only [State.openDrop, find_dock_iff, Bool.and_eq_true, Bool.not_eq_true', Bool.and_eq_false_imp,
    Bool.not_eq_false', and_assoc]

theorem dockHolding_iff {b : Bike} : s.dockHolding b = some d ↔
    (s.dock d).bike = some b ∧ ∀ e, e < d → (s.dock e).bike ≠ some b := by
  simp only [State.dockHolding, find_dock_iff, decide_eq_true_eq, decide_eq_false_iff_not, ne_eq]

/-- The dock is the one that R159 or R160 prefers for the move. -/
def State.chosenFor (s : State) (m : Move) (d : Dock) : Prop :=
  match m.kind with
  | .pickup => match m.bike with
    | some b => (s.dock d).bike = some b ∧ (∀ e, e < d → (s.dock e).bike ≠ some b) ∧
        (m.dock = none ∨ m.dock = some d) ∧ s.suits m.kind d
    | none => s.suits m.kind d ∧ (m.dock = some d ∨ (m.dock = none ∧
        ((s.faultyBikeAt d ∧ ∀ e, e < d → s.suits m.kind e → ¬s.faultyBikeAt e) ∨
          ((∀ e, s.suits m.kind e → ¬s.faultyBikeAt e) ∧ s.closed d = true ∧
            ∀ e, e < d → s.suits m.kind e → s.closed e = false) ∨
          ((∀ e, s.suits m.kind e → ¬s.faultyBikeAt e ∧ s.closed e = false) ∧ ∀ e, e < d → ¬s.suits m.kind e))))
  | .drop => s.suits m.kind d ∧ (m.dock = some d ∨ (m.dock = none ∧ s.closed d = false ∧
      ∀ e, e < d → s.suits m.kind e → s.closed e = true))

/-- A dock that is named is found where it is fit. -/
theorem named_dock_iff {p : Dock → Bool} {e : Dock} :
    (if p e = true then some e else none) = some d ↔ p d = true ∧ e = d := by
  refine Option.ite_some_none_eq_some.trans ⟨?_, ?_⟩ <;>
  · rintro ⟨hfit, rfl⟩
    exact ⟨hfit, rfl⟩

variable {m : Move}

theorem foundFor_drop (hk : m.kind = .drop) : s.foundFor m = some d ↔ s.fitDrop d = true ∧ (m.dock = some d ∨
    (m.dock = none ∧ s.closed d = false ∧ ∀ e, e < d → s.fitDrop e = true → s.closed e = true)) := by
  unfold State.foundFor State.findDrop
  simp only [hk]
  cases hnamed : m.dock with
  | none => simp [openDrop_iff]
  | some e =>
    simp only [Option.some.injEq, reduceCtorEq, false_and, or_false]
    exact named_dock_iff

theorem foundFor_bike (hk : m.kind = .pickup) {b : Bike} (hb : m.bike = some b) : s.foundFor m = some d ↔
    (s.dock d).bike = some b ∧ (∀ e, e < d → (s.dock e).bike ≠ some b) ∧ (m.dock = none ∨ m.dock = some d) ∧
    s.fitPickup d = true := by
  unfold State.foundFor State.findPickup
  simp only [hk, hb, ← and_assoc]
  rw [and_assoc, ← dockHolding_iff]
  cases s.dockHolding b with
  | none => simp
  | some e =>
    refine Option.ite_some_none_eq_some.trans ⟨?_, ?_⟩
    · rintro ⟨hfit, rfl⟩
      exact ⟨rfl, hfit⟩
    · rintro ⟨he, hfit⟩
      obtain rfl := Option.some.inj he
      exact ⟨hfit, rfl⟩

theorem foundFor_any (hk : m.kind = .pickup) (hb : m.bike = none) : s.foundFor m = some d ↔
    s.fitPickup d = true ∧ (m.dock = some d ∨ (m.dock = none ∧
      ((s.dockBikeFaulty d = true ∧ ∀ e, e < d → s.fitPickup e = true → ¬s.dockBikeFaulty e = true) ∨
        ((∀ e, s.fitPickup e = true → ¬s.dockBikeFaulty e = true) ∧ s.closed d = true ∧
          ∀ e, e < d → s.fitPickup e = true → s.closed e = false) ∨
        ((∀ e, s.fitPickup e = true → ¬s.dockBikeFaulty e = true ∧ s.closed e = false) ∧
          ∀ e, e < d → ¬s.fitPickup e = true)))) := by
  unfold State.foundFor State.findPickup
  simp only [hk, hb]
  cases hnamed : m.dock with
  | none => simp [choosePickup_iff]
  | some e =>
    simp only [Option.some.injEq, reduceCtorEq, false_and, or_false]
    exact named_dock_iff

/-- The dock that R159 or R160 finds for a move. -/
theorem foundFor_iff (m : Move) (d : Dock) : s.foundFor m = some d ↔ s.chosenFor m d := by
  unfold State.chosenFor
  cases hk : m.kind with
  | drop => exact (foundFor_drop hk).trans (by simp only [fitDrop_iff])
  | pickup =>
    cases hb : m.bike with
    | none => exact (foundFor_any hk hb).trans (by simp only [fitPickup_iff, dockBikeFaulty_iff])
    | some b => exact (foundFor_bike hk hb).trans (by simp only [fitPickup_iff])

/-- The dock found for a move can be reserved, so it has no reservation. -/
theorem foundFor_free (h : s.foundFor m = some d) : (s.dock d).reservation = .none := by
  have hsuits : s.suits m.kind d := by
    have hchosen := (foundFor_iff m d).1 h
    unfold State.chosenFor at hchosen
    cases hk : m.kind with
    | drop =>
      simp only [hk] at hchosen
      exact hchosen.1
    | pickup =>
      simp only [hk] at hchosen
      split at hchosen
      · exact hchosen.2.2.2
      · exact hchosen.1
  exact hsuits.1.2.1

end

/-! ### What a reservation writes (R39, R161) -/

/-- The Manifest Unit has rewritten reservations, and with them lamps, and its own records. -/
structure Reassigns (s t : State) : Prop where
  writes : ∃ a b c, t = { s with docks := a, string := b, manifest := c }
  links : t.string.links = s.string.links
  docks : ∀ e, t.dock e = { s.dock e with reservation := (t.dock e).reservation, lamp := (t.dock e).lamp,
                                          lampShown := (t.dock e).lampShown }

namespace Reassigns

variable {s t u : State}

theorem refl (s : State) : Reassigns s s := ⟨⟨_, _, _, rfl⟩, rfl, fun _ => rfl⟩

theorem trans (h : Reassigns s t) (h' : Reassigns t u) : Reassigns s u where
  writes := by
    obtain ⟨_, _, _, rfl⟩ := h.writes
    obtain ⟨a, b, c, rfl⟩ := h'.writes
    exact ⟨a, b, c, rfl⟩
  links := h'.links.trans h.links
  docks e := by rw [h'.docks e, h.docks e]

theorem setManifest (f : ManifestUnit → ManifestUnit) (s : State) : Reassigns s (s.setManifest f) :=
  ⟨⟨_, _, _, rfl⟩, rfl, fun _ => rfl⟩

theorem frame (h : Reassigns s t) : t = { s with docks := t.docks, string := t.string, manifest := t.manifest } := by
  obtain ⟨_, _, _, rfl⟩ := h.writes
  rfl

theorem known (h : Reassigns s t) (e : Dock) : (t.dock e).known = (s.dock e).known := by
  rw [h.docks e]
  rfl

theorem flash (h : Reassigns s t) (e : Dock) : (t.dock e).flash = (s.dock e).flash := by rw [h.docks e]

theorem link (h : Reassigns s t) (n : Node) : t.link n = s.link n := link_of_links h.links n

theorem hire (h : Reassigns s t) : t.hire = s.hire := by rw [h.frame]

theorem faults (h : Reassigns s t) : t.faults = s.faults := by rw [h.frame]

theorem settings (h : Reassigns s t) : t.settings = s.settings := by rw [h.frame]

theorem agenda (h : Reassigns s t) : t.agenda = s.agenda := by rw [h.frame]

theorem foldl {α : Type} {f : State → α → State} (hf : ∀ s x, Reassigns s (f s x)) (l : List α) (s : State) :
    Reassigns s (l.foldl f s) :=
  closed_foldl (P := Reassigns s) (fun t x h => h.trans (hf t x)) l s (refl s)

end Reassigns

section

variable {s : State} {d e : Dock} {x : Reservation}

theorem setReservation_relights (d : Dock) (x : Reservation) (s : State) :
    Relights d (s.setDock d (fun r => { r with reservation := x })) (setReservation d x s) :=
  selectLamp_relights d _

theorem setReservation_own (d : Dock) (x : Reservation) (s : State) :
    ((setReservation d x s).dock d).reservation = x := by
  rw [(setReservation_relights d x s).own, setDock_dock, if_pos rfl]

theorem setReservation_other (h : e ≠ d) (x : Reservation) (s : State) :
    (setReservation d x s).dock e = s.dock e := by
  rw [(setReservation_relights d x s).other e h, setDock_dock, if_neg (Ne.symm h)]

theorem setReservation_reassigns (d : Dock) (x : Reservation) (s : State) :
    Reassigns s (setReservation d x s) where
  writes := ⟨_, _, s.manifest, (setReservation_relights d x s).frame⟩
  links := selectLamp_links d _
  docks e := by
    by_cases he : e = d
    · subst he
      rw [(setReservation_relights e x s).own, setDock_dock, if_pos rfl]
    · rw [setReservation_other he]

/-- The lamp of a dock whose reservation is written is the one that R38 gives it. -/
theorem setReservation_lamp (d : Dock) (x : Reservation) (s : State) :
    ((setReservation d x s).dock d).lamp = (setReservation d x s).lampFor d := selectLamp_selected d _

end

/-! ### A move takes a dock, or becomes SHORT (R158, R161) -/

/-- The active manifest with other moves. -/
def State.withMoves (a : ActiveManifest) (l : List Move) (s : State) : State :=
  { s with manifest := { s.manifest with active := some { a with moves := l } } }

/-- The move once it has been placed at the dock found. -/
def Move.placed (found : Option Dock) (m : Move) : Move :=
  match found with
  | some d => { m with state := .reserved, heldDock := some d }
  | none => { m with state := .short }

@[simp] theorem placed_kind (found : Option Dock) (m : Move) : (m.placed found).kind = m.kind := by
  cases found <;> rfl

section

variable {s t : State} {a : ActiveManifest} {i j : Nat} {m : Move} {d e : Dock} {k : MoveKind} {found : Option Dock}

theorem setMove_eq (ha : s.manifest.active = some a) (hm : a.moves[i]? = some m) (f : Move → Move) :
    s.setMove i f = s.withMoves a (a.moves.set i (f m)) := by
  simp only [State.setMove, State.setManifest, ha, Option.map_some, State.withMoves, List.modify_eq_set_getElem?, hm,
    Option.map_eq_map, Option.getD_some]

theorem takeDock_some (i : Nat) (k : MoveKind) (d : Dock) (s : State) : takeDock i k (some d) s =
    setReservation d (reservationOf k i) (s.setMove i (Move.placed (some d))) := rfl

theorem takeDock_none (i : Nat) (k : MoveKind) (s : State) :
    takeDock i k none s = s.setMove i (Move.placed none) := rfl

theorem takeDock_reassigns (i : Nat) (k : MoveKind) (found : Option Dock) (s : State) :
    Reassigns s (takeDock i k found s) := by
  cases found with
  | none => exact takeDock_none i k s ▸ Reassigns.setManifest _ s
  | some d => exact (Reassigns.setManifest _ s).trans (setReservation_reassigns ..)

theorem takeDock_manifest (i : Nat) (k : MoveKind) (found : Option Dock) (s : State) :
    (takeDock i k found s).manifest = (s.setMove i (Move.placed found)).manifest := by
  cases found with
  | none => rfl
  | some d => exact setReservation_manifest ..

theorem takeDock_own (i : Nat) (k : MoveKind) (d : Dock) (s : State) :
    ((takeDock i k (some d) s).dock d).reservation = reservationOf k i := setReservation_own ..

theorem takeDock_other (h : found ≠ some e) (i : Nat) (k : MoveKind) (s : State) :
    (takeDock i k found s).dock e = s.dock e := by
  cases found with
  | none => rfl
  | some d => exact setReservation_other (fun he => h (by rw [he])) _ _

theorem placeMove_eq (hm : s.move? i = some m) : placeMove i s = takeDock i m.kind (s.foundFor m) s := by
  simp only [placeMove, hm]
  rfl

theorem placeMove_none (hm : s.move? i = none) : placeMove i s = s := by
  simp only [placeMove, hm]

theorem placeMove_reassigns (i : Nat) (s : State) : Reassigns s (placeMove i s) := by
  cases hm : s.move? i with
  | none => rw [placeMove_none hm]; exact .refl s
  | some m => rw [placeMove_eq hm]; exact takeDock_reassigns ..

/-- A move is placed at the dock found: the move, that dock's record and the string are written. -/
theorem placeMove_found (ha : s.manifest.active = some a) (hm : a.moves[i]? = some m)
    (hfound : s.foundFor m = some d) : placeMove i s =
      { s.withMoves a (a.moves.set i (m.placed (some d))) with
        docks := (placeMove i s).docks, string := (placeMove i s).string } ∧
    ((placeMove i s).dock d).reservation = reservationOf m.kind i ∧
    ((placeMove i s).dock d).lamp = (placeMove i s).lampFor d ∧
    ∀ e, e ≠ d → ((placeMove i s).dock e).reservation = (s.dock e).reservation := by
  have hmanifest := takeDock_manifest i m.kind (some d) s
  have hframe := (takeDock_reassigns i m.kind (some d) s).frame
  rw [setMove_eq ha hm] at hmanifest
  rw [placeMove_eq (move?_eq_some_iff.2 ⟨a, ha, hm⟩), hfound]
  refine ⟨?_, takeDock_own .., setReservation_lamp .., fun e he => ?_⟩
  · rw [hmanifest] at hframe
    exact hframe
  · rw [takeDock_other (fun h => he (Option.some.inj h).symm)]

theorem placeMove_short (ha : s.manifest.active = some a) (hm : a.moves[i]? = some m)
    (hfound : s.foundFor m = none) : placeMove i s = s.withMoves a (a.moves.set i { m with state := .short }) := by
  rw [placeMove_eq (move?_eq_some_iff.2 ⟨a, ha, hm⟩), hfound, takeDock_none, setMove_eq ha hm]
  rfl

end

/-! ### The pass over the moves (R158) -/

section

variable {s t : State} {a : ActiveManifest} {i j n : Nat} {m : Move}

/-- The pass over the moves below `n`, in index order. -/
def placeMoves (n : Nat) (s : State) : State := (List.range n).foldl (fun x i => placeMove i x) s

theorem placeMoves_succ (n : Nat) (s : State) : placeMoves (n + 1) s = placeMove n (placeMoves n s) := by
  simp only [placeMoves, List.range_succ, List.foldl_append, List.foldl_cons, List.foldl_nil]

theorem placeMoves_reassigns (n : Nat) (s : State) : Reassigns s (placeMoves n s) :=
  .foldl (fun s i => placeMove_reassigns i s) _ s

/-- Placing moves writes nothing of the Manifest Unit but the moves, and as many remain. -/
theorem placeMoves_manifest (ha : s.manifest.active = some a) (n : Nat) : ∃ l, l.length = a.moves.length ∧
    (placeMoves n s).manifest = (s.withMoves a l).manifest := by
  refine closed_foldl (P := fun t => ∃ l, l.length = a.moves.length ∧
    t.manifest = (s.withMoves a l).manifest) (fun t i => ?_) _ s
    ⟨a.moves, rfl, by simp only [State.withMoves, ← ha]⟩
  rintro ⟨l, hl, ht⟩
  cases hm : t.move? i with
  | none => exact ⟨l, hl, by rw [placeMove_none hm, ht]⟩
  | some m =>
    refine ⟨l.modify i (Move.placed (t.foundFor m)), by rw [List.length_modify, hl], ?_⟩
    rw [placeMove_eq hm, takeDock_manifest]
    simp only [State.setMove, State.setManifest, ht, State.withMoves, Option.map_some]

/-- The move of an index is SHORT, or holds a dock that is reserved for it. -/
def State.stands (s : State) (i : Nat) : Prop := ∀ m, s.move? i = some m → m.state = .short ∨
  (m.state = .reserved ∧ ∃ d, m.heldDock = some d ∧ (s.dock d).reservation = reservationOf m.kind i)

theorem placeMove_stands (i : Nat) (s : State) : (placeMove i s).stands i := by
  intro y hy
  cases hm : s.move? i with
  | none => rw [placeMove_none hm, hm] at hy; cases hy
  | some m =>
    rw [placeMove_eq hm] at hy ⊢
    rw [move?_of_manifest (takeDock_manifest ..), move?_setMove, if_pos rfl, hm, Option.map_some,
      Option.some.injEq] at hy
    subst hy
    cases hfound : s.foundFor m with
    | none => exact .inl rfl
    | some d => exact .inr ⟨rfl, d, rfl, takeDock_own ..⟩

/-- A dock that is reserved is not found again. -/
theorem placeMove_keeps (hne : i ≠ j) (h : s.stands j) : (placeMove i s).stands j := by
  cases hm : s.move? i with
  | none => rwa [placeMove_none hm]
  | some m =>
    intro y hy
    rw [placeMove_eq hm] at hy ⊢
    rw [move?_of_manifest (takeDock_manifest ..), move?_setMove, if_neg hne] at hy
    refine (h y hy).imp_right fun ⟨hstate, d, hheld, hreserved⟩ => ⟨hstate, d, hheld, ?_⟩
    rw [takeDock_other ?_, hreserved]
    intro hfound
    rw [foundFor_free hfound] at hreserved
    cases hk : y.kind <;> rw [hk] at hreserved <;> cases hreserved

theorem placeMoves_stands : ∀ (n : Nat), i < n → (placeMoves n s).stands i
  | n + 1, hi => by
    rw [placeMoves_succ]
    rcases Nat.lt_succ_iff_lt_or_eq.1 hi with hlt | rfl
    · exact placeMove_keeps (Nat.ne_of_gt hlt) (placeMoves_stands n hlt)
    · exact placeMove_stands i _

end

end Sys2Proof.Machine
end

section
/-! PROOFS. COMMIT_MANIFEST, the activation of a manifest and the retry pass (R157, R158, R162, R171). -/

namespace Sys2Proof.Machine

open Sys2Proof

/-! ### The staged moves (R155, R157) -/

section

variable {g : StagedManifest}

theorem complete_eq_false_iff : g.complete = false ↔
    ∃ i, i < g.header.moveCount ∧ g.moves.toList[i]? = some none := by
  simp only [StagedManifest.complete, List.all_eq_false, List.mem_iff_getElem?, List.getElem?_take,
    Option.not_isSome_iff_eq_none]
  constructor
  · rintro ⟨x, ⟨i, hi⟩, rfl⟩
    split at hi
    · exact ⟨i, ‹_›, hi⟩
    · cases hi
  · rintro ⟨i, hi, hnone⟩
    exact ⟨none, ⟨i, (if_pos hi).trans hnone⟩, rfl⟩

theorem complete_iff : g.complete = true ↔ ∀ i, i < g.header.moveCount → g.moves.toList[i]? ≠ some none := by
  rw [← Bool.not_eq_false, complete_eq_false_iff]
  simp only [not_exists, not_and, ne_eq]

/-- The moves of the staged buffer below the move count (R158). -/
def StagedManifest.stagedMoves (g : StagedManifest) : List Move :=
  (g.moves.toList.take g.header.moveCount).filterMap id

theorem stagedMoves_length (hg : g.written) : g.stagedMoves.length = g.header.moveCount := by
  obtain ⟨hcount, hwritten⟩ := hg
  have hall : ∀ x ∈ g.moves.toList.take g.header.moveCount, (id x).isSome = true :=
    List.all_eq_true.1 (complete_iff.2 hwritten)
  rw [StagedManifest.stagedMoves, List.filterMap_length_eq_length.2 hall, List.length_take, Vector.length_toList]
  exact Nat.min_eq_left hcount

end

/-! ### Activation (R158, R171) -/

section

variable {s : State} {g : StagedManifest} {a : ActiveManifest} {o : ManifestOutcome}

/-- previous_end once the active buffer is replaced (R158). -/
def State.endBefore (s : State) : Option PreviousEnd :=
  match s.manifest.active with
  | some a => (match endSummary a with | some e => some e | none => s.manifest.previousEnd)
  | none => s.manifest.previousEnd

theorem endBefore_idle (h : s.manifest.active = none) : s.endBefore = s.manifest.previousEnd := by
  simp only [State.endBefore, h]

theorem endBefore_ended (h : s.manifest.active = some a) (ho : a.phase = .ended o) : s.endBefore = some
    { number := a.header.number, outcome := o, doneCount := countMoves .done a.moves } := by
  simp only [State.endBefore, h, endSummary, ho]

/-- The manifest that an activation begins with, its moves not yet placed. -/
def StagedManifest.taken (g : StagedManifest) : ActiveManifest :=
  { phase := .active, header := g.header, moves := g.stagedMoves }

/-- The buffers as the activation leaves them to the pass (R158). -/
def State.activating (g : StagedManifest) (s : State) : State := { s with manifest := { s.manifest with
  staged := none, counter := g.header.expiryMinutes * 60, reload := g.header.expiryMinutes * 60,
  previousEnd := s.endBefore, active := some g.taken } }

theorem activate_eq (g : StagedManifest) (s : State) :
    activate g s = placeMoves g.stagedMoves.length (s.activating g) := rfl

theorem activate_reassigns (g : StagedManifest) (s : State) : Reassigns s (activate g s) :=
  (Reassigns.setManifest (fun _ => (s.activating g).manifest) s).trans (placeMoves_reassigns ..)

theorem activate_manifest (g : StagedManifest) (s : State) : ∃ l, l.length = g.stagedMoves.length ∧
    (activate g s).manifest = ((s.activating g).withMoves g.taken l).manifest :=
  placeMoves_manifest (s := s.activating g) rfl _

theorem activate_stands (g : StagedManifest) (s : State) {i : Nat} (hi : i < g.stagedMoves.length) :
    (activate g s).stands i := placeMoves_stands _ hi

theorem activate_activated (hg : g.written) (s : State) : (activate g s).activated g := by
  obtain ⟨l, hl, hm⟩ := activate_manifest g s
  rw [State.activated, hm]
  refine ⟨rfl, rfl, rfl, _, rfl, rfl, rfl, hl.trans (stagedMoves_length hg), fun i m hi => ?_⟩
  have hlt : i < g.stagedMoves.length := hl ▸ (List.getElem?_eq_some_iff.1 hi).1
  refine (activate_stands g s hlt m (move?_eq_some_iff.2 ⟨_, by rw [hm]; rfl, hi⟩)).imp_right
    fun ⟨hstate, d, hheld, hreserved⟩ => ⟨hstate, d, hheld, hreserved.trans ?_⟩
  cases m.kind <;> rfl

theorem activate_previousEnd (g : StagedManifest) (s : State) :
    (activate g s).manifest.previousEnd = s.endBefore := by
  obtain ⟨l, -, hm⟩ := activate_manifest g s
  rw [hm]
  rfl

/-- A held manifest may be activated now (R171). -/
theorem canFollow_iff : s.canFollow = true ↔ s.manifest.active = none ∨ ∃ a o, s.manifest.active = some a ∧
    a.phase = .ended o ∧ (∀ m ∈ a.moves, m.state ≠ .releasing) ∧ s.manifest.previousEnd = none := by
  unfold State.canFollow
  cases ha : s.manifest.active with
  | none => simp
  | some a =>
    cases hp : a.phase <;> simp [hp, anyReleasing]

theorem followOn_activates (hg : s.manifest.staged = some g) (hheld : g.held = true) (h : s.canFollow = true) :
    followOn s = activate g s := by
  simp only [followOn, hg, hheld, h, and_self, if_true]

theorem followOn_waits (h : ∀ g, s.manifest.staged = some g → g.held = true → ¬s.canFollow = true) :
    followOn s = s := by
  unfold followOn
  split
  next g hg => exact if_neg fun hnow => h g hg hnow.1 hnow.2
  next => rfl

end

/-! ### COMMIT_MANIFEST (R157) -/

section

variable {s : State} {g : StagedManifest} {a : ActiveManifest}

/-- COMMIT_MANIFEST as a change command without arguments. -/
theorem changes_commitManifest {x : Result} {u : State} (hb : s.busy = false)
    (h : commitManifest (s.taking 0) = (x, u)) : changes (.commitManifest []) 0 x u s := by
  have hwork := changes_work (exec_commitManifest [] s) hb rfl (closed_commitManifest (port_closed _) _ rfl)
  rwa [h] at hwork

theorem commit_empty (hg : s.manifest.staged = none) : commitManifest s = (.plain .state, s) := by
  simp only [commitManifest, hg, refuse]

theorem commit_unready (hg : s.manifest.staged = some g) (h : g.held = true ∨ g.complete = false) :
    commitManifest s = (.plain .state, s) := by
  simp only [commitManifest, hg, h, if_true, refuse]

theorem sameNumber_iff : s.sameNumber g = true ↔ ∃ a, s.manifest.active = some a ∧ a.header.number = g.header.number := by
  unfold State.sameNumber
  cases s.manifest.active <;> simp

/-- A staged manifest that is complete and not held, by the checks that follow (R157). -/
theorem commit_ready (hg : s.manifest.staged = some g) (hheld : g.held = false) (hcomplete : g.complete = true) :
    commitManifest s = if s.sameNumber g then (.plain .exists, s)
      else if s.canFollow then (.ok [0, byte (countMoves .reserved (activate g s).moves),
        byte (countMoves .short (activate g s).moves)], activate g s)
      else if g.header.followOn then (.ok [1, 0, 0], { s with
        manifest := { s.manifest with staged := some { g with held := true } } })
      else (.plain .state, s) := by
  simp only [commitManifest, hg, hheld, hcomplete, Bool.false_eq_true, reduceCtorEq, or_self, if_false, refuse]
  rfl

theorem commit_activates (hg : s.manifest.staged = some g) (hheld : g.held = false) (hcomplete : g.complete = true)
    (hnumber : ∀ a, s.manifest.active = some a → a.header.number ≠ g.header.number) (hfollow : s.canFollow = true) :
    commitManifest s = (.ok [0, byte (countMoves .reserved (activate g s).moves),
      byte (countMoves .short (activate g s).moves)], activate g s) := by
  have hother : ¬s.sameNumber g = true := fun hsame => by
    obtain ⟨a, ha, hn⟩ := sameNumber_iff.1 hsame
    exact hnumber a ha hn
  rw [commit_ready hg hheld hcomplete, if_neg hother, if_pos hfollow]

end

/-! ### The retry pass and step 4 of R171 at the end of an event (R162, R171) -/

section

variable {s : State} {a : ActiveManifest}

theorem manifestRetry_idle (h : ∀ a, s.manifest.active = some a → a.phase ≠ .active) : manifestRetry s = s := by
  refine if_neg fun hactive => ?_
  unfold State.manifestActive at hactive
  split at hactive
  · exact h _ ‹_› (of_decide_eq_true hactive)
  · cases hactive

/-- One step of the retry pass: a SHORT move is placed. -/
def retryMove (x : State) (i : Nat) : State :=
  match x.move? i with
  | some m => if m.state = .short then placeMove i x else x
  | none => x

theorem manifestRetry_active (ha : s.manifest.active = some a) (hphase : a.phase = .active) :
    manifestRetry s = (List.range a.moves.length).foldl retryMove s := by
  have hactive : s.manifestActive = true := by simp only [State.manifestActive, ha, hphase, decide_true]
  have hmoves : s.moves = a.moves := by simp only [State.moves, ha]
  unfold manifestRetry
  rw [if_pos hactive, hmoves]
  rfl

theorem settle_followOn (n : Nat) (hfailures : s.agenda.failures = []) (hfollow : s.agenda.followOn = true) :
    settle (n + 1) s = settle n (followOn s.clearFollowOn) := by
  have hbusy : s.agenda.isEmpty = false := by simp [Agenda.isEmpty, hfollow]
  have hstep : settleStep s = followOn s.clearFollowOn := by simp only [settleStep, hfailures, hfollow, if_true]
  rw [settle, hbusy, hstep]
  rfl

theorem settle_manifest (n : Nat) (hfailures : s.agenda.failures = []) (hfollow : s.agenda.followOn = false)
    (hmanifest : s.agenda.manifest = true) : settle (n + 1) s = settle n (manifestRetry s).clearManifest := by
  have hbusy : s.agenda.isEmpty = false := by simp [Agenda.isEmpty, hmanifest]
  have hstep : settleStep s = (manifestRetry s).clearManifest := by
    simp only [settleStep, hfailures, hfollow, hmanifest, Bool.false_eq_true, if_false, if_true]
  rw [settle, hbusy, hstep]
  rfl

end

section

variable {s : State} {g : StagedManifest} {a : ActiveManifest}

theorem sameNumber_other (ha : s.manifest.active = some a) (hother : a.header.number ≠ g.header.number) :
    ¬s.sameNumber g = true := fun hsame => by
  obtain ⟨b, hb, hn⟩ := sameNumber_iff.1 hsame
  obtain rfl := Option.some.inj (ha.symm.trans hb)
  exact hother hn

theorem not_canFollow (ha : s.manifest.active = some a) (h : a.phase = .active ∨ a.phase = .suspended ∨
    (∃ m ∈ a.moves, m.state = .releasing) ∨ s.manifest.previousEnd.isSome = true) : ¬s.canFollow = true := fun hnow => by
  rcases canFollow_iff.1 hnow with hidle | ⟨b, o, hb, ho, hnone, hprevious⟩
  · cases ha.symm.trans hidle
  · obtain rfl := Option.some.inj (ha.symm.trans hb)
    rcases h with h | h | ⟨m, hm, h⟩ | h
    · cases ho.symm.trans h
    · cases ho.symm.trans h
    · exact hnone m hm h
    · rw [hprevious] at h
      cases h

/-- Where the staged manifest may be activated now: the buffer is IDLE, or ENDED with another number (R157). -/
def State.mayCommit (s : State) (g : StagedManifest) : Prop :=
  s.manifest.active = none ∨ ∃ a o, s.manifest.active = some a ∧ a.header.number ≠ g.header.number ∧
    a.phase = .ended o ∧ (∀ m ∈ a.moves, m.state ≠ .releasing) ∧ s.manifest.previousEnd = none

/-- The command activates the manifest, its pass over the moves included. -/
theorem changes_commit_activates (hb : s.busy = false) (hg : s.manifest.staged = some g) (hheld : g.held = false)
    (hwritten : g.written) (hmay : s.mayCommit g) : changes (.commitManifest []) 0
      (.ok [0, byte (countMoves .reserved (activate g (s.taking 0)).moves),
        byte (countMoves .short (activate g (s.taking 0)).moves)]) (activate g (s.taking 0)) s := by
  refine changes_commitManifest hb (commit_activates (s := s.taking 0) hg hheld (complete_iff.2 hwritten.2) ?_ ?_)
  · intro a ha
    rcases hmay with hidle | ⟨b, o, hb, hother, -⟩
    · cases (show s.manifest.active = some a from ha).symm.trans hidle
    · obtain rfl := Option.some.inj ((show s.manifest.active = some a from ha).symm.trans hb)
      exact hother
  · exact canFollow_iff.2 (hmay.imp_right fun ⟨b, o, hb, _, ho, hrest⟩ => ⟨b, o, hb, ho, hrest⟩)

theorem commit_taken (hb : s.busy = false) (hg : s.manifest.staged = some g) (hheld : g.held = false)
    (hwritten : g.written) (hmay : s.mayCommit g) : ∃ u a, changes (.commitManifest []) 0
        { code := .ok, data := [0, byte (countMoves .reserved a.moves), byte (countMoves .short a.moves)] } u s ∧
      u.manifest.active = some a ∧ a.phase = .active ∧ a.header = g.header ∧
      a.moves.length = g.header.moveCount ∧ (∀ m ∈ a.moves, m.state = .reserved ∨ m.state = .short) ∧
      u.manifest.counter = g.header.expiryMinutes * 60 ∧ u.manifest.reload = g.header.expiryMinutes * 60 ∧
      u.manifest.staged = none ∧
      (s.manifest.active = none → u.manifest.previousEnd = s.manifest.previousEnd) ∧
      (∀ b o, s.manifest.active = some b → b.phase = .ended o → u.manifest.previousEnd = some
        { number := b.header.number, outcome := o, doneCount := countMoves .done b.moves }) := by
  obtain ⟨hstaged, hcounter, hreload, a, ha, hphase, hheader, hlength, hmoves⟩ := activate_activated hwritten (s.taking 0)
  have hprevious := activate_previousEnd g (s.taking 0)
  have hchanges := changes_commit_activates hb hg hheld hwritten hmay
  have hall : (activate g (s.taking 0)).moves = a.moves := by simp only [State.moves, ha]
  rw [hall] at hchanges
  refine ⟨_, a, hchanges, ha, hphase, hheader, hlength, fun m hm => ?_, hcounter, hreload, hstaged, fun hidle => ?_,
    fun b o hb ho => ?_⟩
  · obtain ⟨i, hi⟩ := List.mem_iff_getElem?.1 hm
    exact (hmoves i m hi).symm.imp_left And.left
  · exact hprevious.trans (endBefore_idle hidle)
  · exact hprevious.trans (endBefore_ended (s := s.taking 0) hb ho)

end

/-- Settles O35: the checks of R157 in their order, the dock that R159 or R160 finds (`foundFor_drop`, `foundFor_bike`,
`foundFor_any`), what a placed move writes (`takeDock_reassigns`), and the activation as the pass over the moves
(`activate_eq`), in the command and at step 4 of R171. -/
theorem manifestCommitted : Obligations.ManifestCommitted := by
  unfold Obligations.ManifestCommitted
  refine ⟨⟨fun s hb => ⟨fun hempty => ?_, fun g hg => ⟨fun hunready => ?_, fun hheld hcount hwritten => ?_⟩⟩,
    fun s a i m ha hm => ?_, fun s g hb hg hheld hwritten hmay => ?_, fun s => ⟨manifestRetry_idle, fun a ha hphase => ?_,
      fun n hfailures hfollow hmanifest => settle_manifest n hfailures hfollow hmanifest⟩⟩,
    fun s => ⟨fun g hg hheld hmay => ?_, fun hnot => ?_, fun n hfailures hfollow => settle_followOn n hfailures hfollow⟩⟩
  · exact changes_taking (changes_commitManifest hb (commit_empty hempty))
  · exact changes_taking (changes_commitManifest hb
      (commit_unready (s := s.taking 0) hg (hunready.imp_right complete_eq_false_iff.2)))
  · have hcomplete : g.complete = true := complete_iff.2 hwritten
    have hready := commit_ready (s := s.taking 0) hg hheld hcomplete
    refine ⟨fun a ha hsame => ?_, fun a ha hother hbusy => ?_, fun hmay => ?_⟩
    · exact changes_taking (changes_commitManifest hb (hready.trans (if_pos (sameNumber_iff.2 ⟨a, ha, hsame⟩))))
    · have hwaits := hready.trans ((if_neg (sameNumber_other ha hother)).trans (if_neg (not_canFollow ha hbusy)))
      refine ⟨fun hfollow => ?_, fun hnone => ?_⟩
      · have hheld := changes_commitManifest hb (hwaits.trans (if_pos hfollow))
        exact hheld
      · exact changes_taking (changes_commitManifest hb (hwaits.trans (if_neg (by rw [hnone]; nofun))))
    · exact commit_taken hb hg hheld ⟨hcount, hwritten⟩ hmay
  · intro noCoil free fit faulty chosen put
    have hchosen : ∀ d, chosen d ↔ s.foundFor m = some d := fun d => (foundFor_iff m d).symm
    refine ⟨fun d hd => ?_, fun hnone => ?_⟩
    · obtain ⟨hframe, hreserved, hlamp, hothers⟩ := placeMove_found ha hm ((hchosen d).1 hd)
      have hreassigns := placeMove_reassigns i s
      refine ⟨hframe.trans (by rw [(hreassigns).agenda]; rfl), hreserved.trans ?_, hlamp, hothers,
        fun e => ⟨hreassigns.known e, hreassigns.flash e⟩⟩
      cases m.kind <;> rfl
    · refine placeMove_short ha hm (Option.eq_none_iff_forall_ne_some.2 fun d hd => hnone d ((hchosen d).2 hd))
  · have hpass := changes_commit_activates hb hg hheld hwritten (g := g) hmay
    rw [activate_eq, stagedMoves_length hwritten] at hpass
    exact ⟨(s.taking 0).activating g, _, rfl, hpass, rfl⟩
  · exact manifestRetry_active ha hphase
  · intro taken before
    refine (followOn_activates hg hheld (canFollow_iff.2 hmay)).trans ((activate_eq g s).trans ?_)
    have hbefore : s.endBefore = before := by
      simp only [State.endBefore, before]
      cases s.manifest.active with
      | none => rfl
      | some a => cases hp : a.phase <;> simp [endSummary, hp]
    simp only [State.activating, hbefore]
    rfl
  · exact followOn_waits fun g hg hheld hnow => hnot g hg hheld (canFollow_iff.1 hnow)

end Sys2Proof.Machine
end

section
/-! PROOFS. The end of a manifest, with the follow-on that takes its place: every reservation lifted, the crew requests
dropped, and step 4 of R171 (R158, R171). -/

namespace Sys2Proof.Machine

open Sys2Proof

theorem occupancy_of_known {x y : DockRecord} (h : x.known = y.known) : x.occupancy = y.occupancy :=
  (congrArg DockRecord.occupancy h :)

/-! ### Every reservation is lifted (R171) -/

section

variable {s : State} {d e : Dock}

/-- A dock's reservation is lifted, where it has one. -/
def liftReservation (s : State) (d : Dock) : State :=
  if (s.dock d).reservation = .none then s else setReservation d .none s

theorem liftReservation_own (s : State) (d : Dock) : ((liftReservation s d).dock d).reservation = .none := by
  unfold liftReservation
  split
  · assumption
  · exact setReservation_own ..

theorem liftReservation_keeps (h : (s.dock e).reservation = .none) (d : Dock) :
    ((liftReservation s d).dock e).reservation = .none := by
  by_cases he : e = d
  · subst he
    exact liftReservation_own s e
  · unfold liftReservation
    split
    · exact h
    · rw [setReservation_other he, h]

theorem liftReservation_reassigns (s : State) (d : Dock) : Reassigns s (liftReservation s d) := by
  unfold liftReservation
  split
  · exact .refl s
  · exact setReservation_reassigns ..

theorem dropReservations_reassigns (s : State) : Reassigns s (dropReservations s) :=
  .foldl liftReservation_reassigns allDocks s

theorem dropReservations_none (s : State) (d : Dock) : ((dropReservations s).dock d).reservation = .none := by
  have hlift : ∀ (l : List Dock) (s : State), d ∈ l ∨ (s.dock d).reservation = .none →
      ((l.foldl liftReservation s).dock d).reservation = .none := by
    intro l
    induction l with
    | nil => exact fun s h => h.resolve_left List.not_mem_nil
    | cons e l ih =>
      refine fun s h => ih _ ?_
      rcases h with h | h
      · rcases List.mem_cons.1 h with rfl | h
        · exact .inr (liftReservation_own s d)
        · exact .inl h
      · exact .inr (liftReservation_keeps h e)
  exact hlift allDocks s (.inl (List.mem_finRange d))

end

/-! ### The end before its step 4 (R171) -/

section

variable {s t : State} {a : ActiveManifest} {g : StagedManifest} {o : ManifestOutcome}

/-- The active manifest as it is ended: its moves keep their states and give up landed_dock. -/
def ActiveManifest.endedAs (o : ManifestOutcome) (a : ActiveManifest) : ActiveManifest :=
  { a with phase := .ended o, moves := a.moves.map (fun m => { m with landedDock := none }) }

/-- The manifest has ended, up to step 4 of R171. -/
def State.stopped (o : ManifestOutcome) (s : State) : State :=
  (dropReservations (s.setManifest fun m => { m with active := m.active.map (ActiveManifest.endedAs o) })).filterHire
    (fun q => decide (q.kind = .member))

theorem endManifest_eq (o : ManifestOutcome) (s : State) : endManifest o s = followOn (s.stopped o) := rfl

/-- What the end writes: the reservations and lamps of docks, the release queue and the manifest. -/
structure Stops (o : ManifestOutcome) (a : ActiveManifest) (s v : State) : Prop where
  manifest : v.manifest = { s.manifest with active := some (a.endedAs o) }
  hire : v.hire = { s.hire with queue := s.hire.queue.filter (fun q => decide (q.kind = .member)) }
  lifted : ∀ d, (v.dock d).reservation = .none
  known : ∀ d, (v.dock d).known = (s.dock d).known
  flash : ∀ d, (v.dock d).flash = (s.dock d).flash
  links : ∀ n, v.link n = s.link n
  faults : v.faults = s.faults
  settings : v.settings = s.settings
  agenda : v.agenda = s.agenda

theorem stopped_stops (ha : s.manifest.active = some a) (o : ManifestOutcome) : Stops o a s (s.stopped o) := by
  have hends : (s.setManifest fun m => { m with active := m.active.map (ActiveManifest.endedAs o) }).manifest =
      { s.manifest with active := some (a.endedAs o) } := by
    simp only [State.setManifest, ha, Option.map_some]
  generalize hu : (s.setManifest fun m => { m with active := m.active.map (ActiveManifest.endedAs o) }) = u at hends
  have hfrom : Reassigns s u := hu ▸ Reassigns.setManifest _ s
  have hdrop := hfrom.trans (dropReservations_reassigns u)
  have hlifted := dropReservations_none u
  have hmanifest := (dropReservations_manifest u).trans hends
  unfold State.stopped
  rw [hu]
  generalize dropReservations u = v at hdrop hlifted hmanifest
  refine ⟨hmanifest, ?_, hlifted, hdrop.known, hdrop.flash, hdrop.link, hdrop.faults, hdrop.settings, hdrop.agenda⟩
  rw [State.filterHire, hdrop.hire]

namespace Stops

variable {v : State}

theorem occupancy (h : Stops o a s v) (d : Dock) : (v.dock d).occupancy = (s.dock d).occupancy :=
  occupancy_of_known (h.known d)

theorem bike (h : Stops o a s v) (d : Dock) : (v.dock d).bike = (s.dock d).bike := bike_of_known (h.known d)

/-- A follow-on that is held waits for a RELEASING move, or for previous_end (R171). -/
theorem waits (h : Stops o a s v) (hheld : ∀ g, s.manifest.staged = some g → g.held = true →
    (∃ m ∈ a.moves, m.state = .releasing) ∨ s.manifest.previousEnd.isSome = true) : followOn v = v := by
  refine followOn_waits fun g hg hgheld => not_canFollow (a := a.endedAs o) (by rw [h.manifest]) ?_
  rw [h.manifest] at hg ⊢
  refine .inr (.inr ((hheld g hg hgheld).imp_left ?_))
  rintro ⟨m, hm, hstate⟩
  exact ⟨_, List.mem_map_of_mem hm, hstate⟩

/-- A follow-on that is held and may follow is activated (R171). -/
theorem activates (h : Stops o a s v) (hg : s.manifest.staged = some g) (hheld : g.held = true)
    (hnone : ∀ m ∈ a.moves, m.state ≠ .releasing) (hprevious : s.manifest.previousEnd = none) :
    followOn v = activate g v := by
  refine followOn_activates (by rw [h.manifest, hg]) hheld (canFollow_iff.2 (.inr
    ⟨a.endedAs o, o, by rw [h.manifest], rfl, fun m hm => ?_, by rw [h.manifest, hprevious]⟩))
  obtain ⟨y, hy, rfl⟩ := List.mem_map.1 hm
  exact hnone y hy

end Stops

theorem countMoves_endedAs (p : MoveState) (o : ManifestOutcome) (a : ActiveManifest) :
    countMoves p (a.endedAs o).moves = countMoves p a.moves := by
  simp only [countMoves, ActiveManifest.endedAs, List.filter_map, List.length_map, Function.comp_def]

/-- The manifest ends and nothing follows it. -/
theorem endManifest_waits (ha : s.manifest.active = some a) (o : ManifestOutcome)
    (hheld : ∀ g, s.manifest.staged = some g → g.held = true →
      (∃ m ∈ a.moves, m.state = .releasing) ∨ s.manifest.previousEnd.isSome = true) :
    Stops o a s (endManifest o s) := by
  have h := stopped_stops ha o
  rw [endManifest_eq, h.waits hheld]
  exact h

/-- The manifest ends and the follow-on is activated, from a state with every reservation lifted. -/
theorem endManifest_follows (ha : s.manifest.active = some a) (o : ManifestOutcome) (hg : s.manifest.staged = some g)
    (hheld : g.held = true) (hwritten : g.written) (hnone : ∀ m ∈ a.moves, m.state ≠ .releasing)
    (hprevious : s.manifest.previousEnd = none) : (endManifest o s).activated g ∧
      (∃ v, endManifest o s = followOn v ∧ Stops o a s v) ∧
      (endManifest o s).manifest.previousEnd = some
        { number := a.header.number, outcome := o, doneCount := countMoves .done a.moves } ∧
      (endManifest o s).hire = { s.hire with queue := s.hire.queue.filter (fun q => decide (q.kind = .member)) } ∧
      ∀ d, ((endManifest o s).dock d).flash = (s.dock d).flash ∧
        ((endManifest o s).dock d).known = (s.dock d).known := by
  have h := stopped_stops ha o
  have hactivates := h.activates hg hheld hnone hprevious
  have hreassigns := activate_reassigns g (s.stopped o)
  refine ⟨?_, ⟨s.stopped o, rfl, h⟩, ?_, ?_, fun d => ?_⟩ <;> rw [endManifest_eq, hactivates]
  · exact activate_activated hwritten _
  · rw [activate_previousEnd, endBefore_ended (a := a.endedAs o) (by rw [h.manifest]) rfl, countMoves_endedAs]
    rfl
  · rw [hreassigns.hire, h.hire]
  · exact ⟨(hreassigns.flash d).trans (h.flash d), (hreassigns.known d).trans (h.known d)⟩

end

end Sys2Proof.Machine
end

section
/-! PROOFS. The host steers the manifest: SUSPEND, RESUME, CANCEL, SET_EXPIRY and ACK_MANIFEST (R170 to R172). -/

namespace Sys2Proof.Machine

open Sys2Proof

/-! ### The phase of the active buffer -/

section

variable {s : State} {a : ActiveManifest} {p : ManifestPhase}

theorem manifestIn_iff : s.manifestIn p = true ↔ ∃ a, s.manifest.active = some a ∧ a.phase = p := by
  unfold State.manifestIn
  cases s.manifest.active <;> simp

theorem manifestLive_iff : s.manifestLive = true ↔
    ∃ a, s.manifest.active = some a ∧ (a.phase = .active ∨ a.phase = .suspended) := by
  unfold State.manifestLive
  cases s.manifest.active <;> simp

theorem not_manifestLive (h : ∀ a, s.manifest.active = some a → a.phase ≠ .active ∧ a.phase ≠ .suspended) :
    ¬s.manifestLive = true := fun hlive => by
  obtain ⟨a, ha, hphase⟩ := manifestLive_iff.1 hlive
  exact hphase.elim (h a ha).1 (h a ha).2

theorem setPhase_eq (ha : s.manifest.active = some a) (p : ManifestPhase) :
    setPhase p s = { s with manifest := { s.manifest with active := some { a with phase := p } } } := by
  simp only [setPhase, State.setManifest, ha, Option.map_some]

/-! ### SUSPEND_MANIFEST and RESUME_MANIFEST (R170) -/

theorem changes_suspendManifest {x : Result} {u : State} (hb : s.busy = false)
    (h : suspendManifest (s.taking 0) = (x, u)) : changes (.suspendManifest []) 0 x u s := by
  have hwork := changes_work (exec_suspendManifest [] s) hb rfl (closed_suspendManifest (port_closed _) _ rfl)
  rwa [h] at hwork

theorem changes_resumeManifest {x : Result} {u : State} (hb : s.busy = false)
    (h : resumeManifest (s.taking 0) = (x, u)) : changes (.resumeManifest []) 0 x u s := by
  have hwork := changes_work (exec_resumeManifest [] s) hb rfl (closed_resumeManifest (port_closed _) _ rfl)
  rwa [h] at hwork

theorem suspend_taken (ha : s.manifest.active = some a) (hphase : a.phase = .active) : suspendManifest s =
    (.ok [], { s with manifest := { s.manifest with active := some { a with phase := .suspended } } }) := by
  rw [suspendManifest, if_pos (manifestIn_iff.2 ⟨a, ha, hphase⟩), setPhase_eq ha]

theorem suspend_refused (h : ∀ a, s.manifest.active = some a → a.phase ≠ .active) :
    suspendManifest s = (.plain .state, s) :=
  if_neg fun hin => by
    obtain ⟨a, ha, hphase⟩ := manifestIn_iff.1 hin
    exact h a ha hphase

theorem resume_taken (ha : s.manifest.active = some a) (hphase : a.phase = .suspended) : resumeManifest s =
    (.ok [], { s with manifest := { s.manifest with active := some { a with phase := .active } },
                      agenda := { s.agenda with manifest := true } }) := by
  rw [resumeManifest, if_pos (manifestIn_iff.2 ⟨a, ha, hphase⟩), setPhase_eq ha]
  rfl

theorem resume_refused (h : ∀ a, s.manifest.active = some a → a.phase ≠ .suspended) :
    resumeManifest s = (.plain .state, s) :=
  if_neg fun hin => by
    obtain ⟨a, ha, hphase⟩ := manifestIn_iff.1 hin
    exact h a ha hphase

/-! ### CANCEL_MANIFEST and SET_EXPIRY (R170) -/

theorem changes_cancelManifest {x : Result} {u : State} {target : Byte} (hb : s.busy = false)
    (h : cancelManifest target.toNat (s.taking 1) = (x, u)) : changes (.cancelManifest [target]) 1 x u s := by
  have hwork := changes_work (exec_cancelManifest [target] s) hb rfl (closed_cancelManifest (port_closed _) _ _ rfl)
  rwa [field_zero, h] at hwork

theorem cancel_ends (ha : s.manifest.active = some a) (hphase : a.phase = .active ∨ a.phase = .suspended) :
    cancelManifest 0 s = (.ok [], endManifest .cancelled s) := if_pos (manifestLive_iff.2 ⟨a, ha, hphase⟩)

theorem cancel_over (h : ∀ a, s.manifest.active = some a → a.phase ≠ .active ∧ a.phase ≠ .suspended) :
    cancelManifest 0 s = (.plain .state, s) := if_neg (not_manifestLive h)

theorem cancel_withdraws (h : s.manifest.staged.isSome = true) :
    cancelManifest 1 s = (.ok [], { s with manifest := { s.manifest with staged := none } }) := if_pos h

theorem cancel_nothing (h : s.manifest.staged = none) : cancelManifest 1 s = (.plain .state, s) :=
  if_neg (by rw [h]; nofun)

theorem cancel_outside {n : Nat} (h : 1 < n) : cancelManifest n s = (.plain .badArg, s) := by
  match n, h with
  | _ + 2, _ => rfl

theorem changes_setExpiry {x : Result} {u : State} {minutes : Byte} (hb : s.busy = false)
    (h : setExpiry minutes.toNat (s.taking 1) = (x, u)) : changes (.setExpiry [minutes]) 1 x u s := by
  have hwork := changes_work (exec_setExpiry [minutes] s) hb rfl (closed_setExpiry (port_closed _) _ _ rfl)
  rwa [field_zero, h] at hwork

theorem setExpiry_inside {n : Nat} (hlow : 1 ≤ n) (hhigh : n ≤ 240) : setExpiry n s =
    if s.manifestLive then (.ok [], { s with manifest := { s.manifest with reload := n * 60 } })
    else (.plain .state, s) := if_neg (by omega)

end

/-! ### ACK_MANIFEST (R172) -/

section

variable {s : State} {a : ActiveManifest} {n : Nat} {o : ManifestOutcome}

theorem changes_ackManifest {x : Result} {u : State} (hb : s.busy = false) (hn : n < 65536)
    (h : ackManifest n (s.taking 2) = (x, u)) : changes (.ackManifest (beBytes 2 n)) 2 x u s := by
  have hwork := changes_work (exec_ackManifest (beBytes 2 n) s) hb (by simp) (closed_ackManifest (port_closed _) _ _ rfl)
  rwa [field_beBytes 2 n hn, h] at hwork

theorem previousIs_iff : s.previousIs n = true ↔ ∃ e, s.manifest.previousEnd = some e ∧ e.number = n := by
  unfold State.previousIs
  cases s.manifest.previousEnd <;> simp

theorem endedWith_iff : s.endedWith n = some a ↔
    s.manifest.active = some a ∧ (∃ o, a.phase = .ended o) ∧ a.header.number = n := by
  unfold State.endedWith
  cases ha : s.manifest.active with
  | none => simp
  | some b =>
    cases hp : b.phase with
    | ended o =>
      simp only [hp, Option.ite_some_none_eq_some, Option.some.injEq]
      constructor
      · rintro ⟨hn, rfl⟩
        exact ⟨rfl, ⟨o, hp⟩, hn⟩
      · rintro ⟨rfl, -, hn⟩
        exact ⟨hn, rfl⟩
    | active | suspended =>
      simp only [hp, reduceCtorEq, false_iff, Option.some.injEq]
      rintro ⟨rfl, ⟨o, ho⟩, -⟩
      cases hp.symm.trans ho

theorem anyReleasing_iff {l : List Move} : anyReleasing l = true ↔ ∃ m ∈ l, m.state = .releasing := by
  simp [anyReleasing]

theorem ack_previous {e : PreviousEnd} (he : s.manifest.previousEnd = some e) (hn : e.number = n) :
    ackManifest n s = (.ok [], { s with manifest := { s.manifest with previousEnd := none },
                                        agenda := { s.agenda with followOn := true } }) :=
  if_pos (previousIs_iff.2 ⟨e, he, hn⟩)

theorem ack_other (h : ∀ e, s.manifest.previousEnd = some e → e.number ≠ n) : ackManifest n s =
    match s.endedWith n with
    | some a => if anyReleasing a.moves then (.plain .state, s)
        else (.ok [], { s with manifest := { s.manifest with active := none },
                               agenda := { s.agenda with followOn := true } })
    | none => (.plain .notFound, s) := by
  have hother : ¬s.previousIs n = true := fun hsame => by
    obtain ⟨e, he, hn⟩ := previousIs_iff.1 hsame
    exact h e he hn
  rw [ackManifest, if_neg hother]
  rfl

theorem ack_ended (h : ∀ e, s.manifest.previousEnd = some e → e.number ≠ n) (ha : s.manifest.active = some a)
    (ho : a.phase = .ended o) (hn : a.header.number = n) (hnone : ∀ m ∈ a.moves, m.state ≠ .releasing) :
    ackManifest n s = (.ok [], { s with manifest := { s.manifest with active := none },
                                        agenda := { s.agenda with followOn := true } }) := by
  have hfree : ¬anyReleasing a.moves = true := fun hany => by
    obtain ⟨m, hm, hstate⟩ := anyReleasing_iff.1 hany
    exact hnone m hm hstate
  rw [ack_other h, endedWith_iff.2 ⟨ha, ⟨o, ho⟩, hn⟩]
  exact if_neg hfree

theorem ack_releasing (h : ∀ e, s.manifest.previousEnd = some e → e.number ≠ n) (ha : s.manifest.active = some a)
    (ho : a.phase = .ended o) (hn : a.header.number = n) (hany : ∃ m ∈ a.moves, m.state = .releasing) :
    ackManifest n s = (.plain .state, s) := by
  rw [ack_other h, endedWith_iff.2 ⟨ha, ⟨o, ho⟩, hn⟩]
  exact if_pos (anyReleasing_iff.2 hany)

theorem ack_missing (h : ∀ e, s.manifest.previousEnd = some e → e.number ≠ n)
    (hother : ∀ a o, s.manifest.active = some a → a.phase = .ended o → a.header.number ≠ n) :
    ackManifest n s = (.plain .notFound, s) := by
  have hnone : s.endedWith n = none := Option.eq_none_iff_forall_ne_some.2 fun a ha => by
    obtain ⟨ha, ⟨o, ho⟩, hn⟩ := endedWith_iff.1 ha
    exact hother a o ha ho hn
  rw [ack_other h, hnone]

/-- An event that leaves nothing to its end but step 4 of R171 activates a held manifest that may follow. -/
theorem finishEvent_follows {w : State} {g : StagedManifest} (hagenda : w.agenda = { Agenda.empty with followOn := true })
    (hg : w.manifest.staged = some g) (hheld : g.held = true) (hwritten : g.written) (hmay : w.canFollow = true) :
    (finishEvent w).activated g ∧ (finishEvent w).manifest.previousEnd = w.endBefore := by
  have hfollow : followOn w.clearFollowOn = activate g w.clearFollowOn :=
    followOn_activates (s := w.clearFollowOn) hg hheld hmay
  have hquiet : (activate g w.clearFollowOn).agenda.isEmpty = true := by
    rw [(activate_reassigns g w.clearFollowOn).agenda, State.clearFollowOn, hagenda]
    rfl
  have hfinish : finishEvent w = takeNext (activate g w.clearFollowOn) := by
    unfold finishEvent
    rw [settle_followOn 4095 (by rw [hagenda]; rfl) (by rw [hagenda]), hfollow, settle_of_isEmpty 4094 hquiet]
  have hactivated := activate_activated hwritten w.clearFollowOn
  have hprevious := activate_previousEnd g w.clearFollowOn
  rw [hfinish]
  generalize activate g w.clearFollowOn = t at hactivated hprevious
  refine ⟨?_, by rw [takeNext_manifest]; exact hprevious⟩
  unfold State.activated State.dock at hactivated ⊢
  rw [takeNext_manifest, takeNext_docks]
  exact hactivated

end

/-- With nothing left over, step 4 of R171 alone is due. -/
theorem quiet_follows {s : State} (h : s.quiet) :
    ({ s.agenda with followOn := true } : Agenda) = { Agenda.empty with followOn := true } :=
  congrArg (fun x : Agenda => { x with followOn := true }) h

/-- An ACK_MANIFEST that is taken, with nothing else left to the end of its event, activates a held manifest that
may follow. -/
theorem ack_follows {s u : State} {g : StagedManifest} {n : Nat}
    (h : changes (.ackManifest (beBytes 2 n)) 2 (.ok []) u s)
    (hagenda : u.agenda = { Agenda.empty with followOn := true }) (hg : u.manifest.staged = some g)
    (hheld : g.held = true) (hwritten : g.written) (hmay : u.canFollow = true) :
    ∃ t, exec (.ackManifest (beBytes 2 n)) s = .next t ∧ t.activated g ∧ t.manifest.previousEnd = u.endBefore :=
  ⟨_, h, finishEvent_follows (w := { u with port := (s.changeTaken 2 (.ok [])).port }) hagenda hg hheld hwritten hmay⟩

/-- Settles O36: each command by the checks of R170 or R172, the end of the manifest with and without a follow-on
(`endManifest_waits`, `endManifest_follows`), and step 4 of R171 after ACK_MANIFEST (`ack_follows`). -/
theorem manifestSteering : Obligations.ManifestSteering := by
  unfold Obligations.ManifestSteering
  refine ⟨fun s hb => ⟨fun a ha hphase => ?_, fun h => ?_, fun a ha hphase => ?_, fun h => ?_,
      fun a ha hphase hheld => ?_, fun a g ha hphase hg hheld hwritten hnone hprevious => ?_, fun h => ?_, fun h => ?_,
      fun h => ?_, fun target h => ?_, fun minutes h => ?_, fun minutes hlow hhigh => ⟨fun a ha hphase => ?_,
      fun h => ?_⟩⟩,
    fun s n hn hb => ⟨fun e he hsame => ?_, fun hother => ⟨fun a o ha ho hsame => ⟨fun hnone => ?_, fun hany => ?_⟩,
      fun hmissing => ?_⟩⟩,
    fun s n g hn hb hquiet hg hheld hwritten => ⟨fun e he hsame => ⟨fun hidle => ?_, fun a o ha ho hnone => ?_⟩,
      fun hother a o ha ho hsame hnone => ?_⟩⟩
  · have h := changes_suspendManifest hb (suspend_taken (s := s.taking 0) ha hphase)
    exact h
  · exact changes_taking (changes_suspendManifest hb (suspend_refused (s := s.taking 0) h))
  · have h := changes_resumeManifest hb (resume_taken (s := s.taking 0) ha hphase)
    exact h
  · exact changes_taking (changes_resumeManifest hb (resume_refused (s := s.taking 0) h))
  · have hstops := endManifest_waits (s := s.taking 1) ha .cancelled hheld
    exact ⟨_, changes_cancelManifest hb (cancel_ends (s := s.taking 1) ha hphase), hstops.manifest, hstops.hire,
      hstops.lifted⟩
  · obtain ⟨hactivated, ⟨v, hv, hstops⟩, hend, hhire, -⟩ :=
      endManifest_follows (s := s.taking 1) ha .cancelled hg hheld hwritten hnone hprevious
    exact ⟨_, changes_cancelManifest hb (cancel_ends (s := s.taking 1) ha hphase), hactivated,
      ⟨v, hv, by rw [hstops.manifest]; exact hg, by rw [hstops.manifest]; rfl, hstops.lifted, hstops.faults,
        hstops.settings, hstops.links, hstops.known⟩, hend, hhire⟩
  · exact changes_taking (changes_cancelManifest hb (cancel_over (s := s.taking 1) h))
  · have h := changes_cancelManifest (target := 1) hb (cancel_withdraws (s := s.taking 1) h)
    exact h
  · exact changes_taking (changes_cancelManifest hb (cancel_nothing (s := s.taking 1) h))
  · exact changes_taking (changes_cancelManifest hb (cancel_outside h))
  · exact changes_taking (changes_setExpiry hb (if_pos h))
  · have h := changes_setExpiry hb ((setExpiry_inside (s := s.taking 1) hlow hhigh).trans
      (if_pos (manifestLive_iff.2 ⟨a, ha, hphase⟩)))
    exact h
  · exact changes_taking (changes_setExpiry hb ((setExpiry_inside (s := s.taking 1) hlow hhigh).trans
      (if_neg (not_manifestLive h))))
  · have h := changes_ackManifest hb hn (ack_previous (s := s.taking 2) he hsame)
    exact h
  · have h := changes_ackManifest hb hn (ack_ended (s := s.taking 2) hother ha ho hsame hnone)
    exact h
  · exact changes_taking (changes_ackManifest hb hn (ack_releasing (s := s.taking 2) hother ha ho hsame hany))
  · exact changes_taking (changes_ackManifest hb hn (ack_missing (s := s.taking 2) hother hmissing))
  · obtain ⟨t, hexec, hactivated, hend⟩ := ack_follows
      (changes_ackManifest hb hn (ack_previous (s := s.taking 2) he hsame)) (quiet_follows hquiet) hg hheld hwritten
      (canFollow_iff.2 (.inl hidle))
    exact ⟨t, hexec, hactivated, hend.trans (endBefore_idle hidle)⟩
  · obtain ⟨t, hexec, hactivated, hend⟩ := ack_follows
      (changes_ackManifest hb hn (ack_previous (s := s.taking 2) he hsame)) (quiet_follows hquiet) hg hheld hwritten
      (canFollow_iff.2 (.inr ⟨a, o, ha, ho, hnone, rfl⟩))
    exact ⟨t, hexec, hactivated, hend.trans (endBefore_ended ha ho)⟩
  · obtain ⟨t, hexec, hactivated, hend⟩ := ack_follows
      (changes_ackManifest hb hn (ack_ended (s := s.taking 2) hother ha ho hsame hnone)) (quiet_follows hquiet) hg hheld
      hwritten (canFollow_iff.2 (.inl rfl))
    exact ⟨t, hexec, hactivated, hend.trans (endBefore_idle rfl)⟩

end Sys2Proof.Machine
end

section
/-! PROOFS. The expiry counter, and the look of the seconds tick at van_unstamp (R168, R169). -/

namespace Sys2Proof.Machine

open Sys2Proof

/-! ### The expiry counter (R169) -/

section

variable {s : State} {a : ActiveManifest}

theorem manifestActive_iff : s.manifestActive = true ↔ ∃ a, s.manifest.active = some a ∧ a.phase = .active := by
  unfold State.manifestActive
  cases s.manifest.active <;> simp

theorem not_manifestActive (h : ∀ a, s.manifest.active = some a → a.phase ≠ .active) :
    ¬s.manifestActive = true := fun hactive => by
  obtain ⟨a, ha, hphase⟩ := manifestActive_iff.1 hactive
  exact h a ha hphase

/-- The counter stands at 0. -/
def State.runOut (s : State) : State := { s with manifest := { s.manifest with counter := 0 } }

theorem exec_manifestExpiry_ends (ha : s.manifest.active = some a) (hphase : a.phase = .active) :
    exec .manifestExpiry s = .next (finishEvent (endManifest .expired s.runOut)) := by
  rw [exec_manifestExpiry, event, if_pos (manifestActive_iff.2 ⟨a, ha, hphase⟩)]
  rfl

theorem exec_manifestExpiry_idle (h : ∀ a, s.manifest.active = some a → a.phase ≠ .active) :
    exec .manifestExpiry s = .next (finishEvent s) := by
  rw [exec_manifestExpiry, event, if_neg (not_manifestActive h)]

theorem counterTick_idle (h : ∀ a, s.manifest.active = some a → a.phase ≠ .active) : counterTick s = s :=
  if_neg (not_manifestActive h)

/-- A tick of an ACTIVE manifest takes 1 off the counter, and ends it where 0 is reached. -/
theorem counterTick_active (ha : s.manifest.active = some a) (hphase : a.phase = .active) : counterTick s =
    if s.manifest.counter - 1 = 0 then
      endManifest .expired { s with manifest := { s.manifest with counter := s.manifest.counter - 1 } }
    else { s with manifest := { s.manifest with counter := s.manifest.counter - 1 } } :=
  if_pos (manifestActive_iff.2 ⟨a, ha, hphase⟩)

theorem counterTick_counts (ha : s.manifest.active = some a) (hphase : a.phase = .active)
    (h : 1 < s.manifest.counter) : counterTick s =
      { s with manifest := { s.manifest with counter := s.manifest.counter - 1 } } :=
  (counterTick_active ha hphase).trans (if_neg (by omega))

theorem counterTick_expires (ha : s.manifest.active = some a) (hphase : a.phase = .active)
    (h : s.manifest.counter = 1) : counterTick s = endManifest .expired s.runOut := by
  rw [counterTick_active ha hphase, h, if_pos (by decide)]
  rfl

end

/-! ### van_unstamp (R168) -/

section

variable {s : State} {d : Dock} {b : Bike}

theorem vanTick_absent (h : s.manifest.vanUnstamp.get d = none) : vanTick d s = s := by
  simp only [vanTick, h]

/-- The look at a dock whose van_unstamp is present. -/
theorem vanTick_present (h : s.manifest.vanUnstamp.get d = some b) : vanTick d s =
    if (s.dock d).bike ≠ some b then s.setVanUnstamp d none
    else if s.contact d ≠ .lost ∧ s.queuedFor d .unstamp = false then placeDock d .unstamp [] (.manifestUnit b) s
    else s := by
  simp only [vanTick, h]

/-- A request with a new key joins a queue that has room, while the string is in use. -/
theorem placeDock_joins {v : Verb} {o : Originator} (hflight : s.string.flight.isSome = true)
    (hroom : s.string.queue.length < 40) (hnew : s.queuedFor d v = false) (l : List Byte) :
    placeDock d v l o s = s.setQueue (s.string.queue ++ [request (dockNode d) v l o]) := by
  have hkey : ∀ e ∈ s.string.queue, sameKey e (request (dockNode d) v l o) = false :=
    not_sameKey_of fun e he hsame => queuedFor_eq_false_iff.1 hnew e he hsame.1 hsame.2
  unfold placeDock place
  rw [enqueue_append hkey hroom]
  exact takeNext_in_use hflight

theorem reportStamped_manifest (d : Dock) (b : Bike) (k : StampKind) (s : State) :
    (reportStamped d b k s).manifest = s.manifest := by
  rw [reportStamped, reportDock_frame]

/-- The UNSTAMP of the bicycle that van_unstamp names has ended GOOD. -/
theorem vanUnstampEnd_good (h : s.manifest.vanUnstamp.get d = some b) :
    vanUnstampEnd d b true s = (reportUnstamped d b s).setVanUnstamp d none := by
  have hnames : (reportUnstamped d b s).manifest.vanUnstamp.get d = some b := by
    rw [reportUnstamped, reportStamped_manifest, h]
  simp only [vanUnstampEnd, hnames, if_true]

theorem vanUnstampEnd_manifest (h : s.manifest.vanUnstamp.get d = some b) :
    (vanUnstampEnd d b true s).manifest = (s.setVanUnstamp d none).manifest := by
  rw [vanUnstampEnd_good h]
  simp only [State.setVanUnstamp, setManifest_manifest, reportUnstamped, reportStamped_manifest]

theorem vanUnstampEnd_stampSeen (h : s.manifest.vanUnstamp.get d = some b) (hb : (s.dock d).bike = some b) :
    ((vanUnstampEnd d b true s).dock d).stampSeen = .none := by
  rw [vanUnstampEnd_good h, State.setVanUnstamp, dock_of_docks (setManifest_docks ..)]
  exact congrArg (·.stampSeen) (reportStamped_own_known (k := .none) hb)

/-- The end of an UNSTAMP that the Manifest Unit alone asked for. -/
theorem unstampEnds_van {e : QueueEntry} (h : e.originators = [.manifestUnit b]) (good : Bool) (s : State) :
    unstampEnds d e good s = vanUnstampEnd d b good s := by
  simp only [unstampEnds, h, List.foldl_cons, List.foldl_nil, unstampOutcome]

end

/-- Settles O37: the end of the manifest by its counter (`endManifest_waits`, `endManifest_follows`), the tick
(`counterTick_counts`, `counterTick_expires`), the look at van_unstamp (`vanTick_present`), and the end of the UNSTAMP
handed to the Manifest Unit (`exec_unstamp_good`, `exec_unstamp_failed`). -/
theorem manifestExpires : Obligations.ManifestExpires := by
  unfold Obligations.ManifestExpires
  refine ⟨⟨fun s => ⟨fun a ha hphase hheld => ?_, fun a g ha hphase hg hheld hwritten hnone hprevious => ?_,
      exec_manifestExpiry_idle⟩,
    fun s => ⟨fun hidle => counterTick_idle fun a ha => (nomatch ha.symm.trans hidle), fun a ha =>
      ⟨fun hphase => ?_, counterTick_counts ha, fun hphase hone => ?_⟩⟩,
    fun s d => ⟨vanTick_absent, fun b hb => ?_⟩⟩, fun s c d b hflight hcross hd ht ho hverb => ?_⟩
  · have hstops := endManifest_waits (s := s.runOut) ha .expired hheld
    exact ⟨_, exec_manifestExpiry_ends ha hphase, hstops.manifest, hstops.hire, fun d =>
      ⟨hstops.lifted d, hstops.flash d, hstops.occupancy d, hstops.bike d⟩⟩
  · obtain ⟨hactivated, ⟨v, hv, hstops⟩, hend, hhire, hdocks⟩ :=
      endManifest_follows (s := s.runOut) ha .expired hg hheld hwritten hnone hprevious
    refine ⟨_, exec_manifestExpiry_ends ha hphase, hactivated,
      ⟨v, hv, by rw [hstops.manifest]; exact hg, by rw [hstops.manifest]; rfl, hstops.lifted, hstops.faults,
        hstops.settings, hstops.links, hstops.known⟩, hend, hhire, fun d => ?_⟩
    obtain ⟨hflash, hknown⟩ := hdocks d
    exact ⟨hflash, occupancy_of_known hknown, bike_of_known hknown⟩
  · exact counterTick_idle fun x hx => by rwa [← Option.some.inj (ha.symm.trans hx)]
  · rw [counterTick_expires ha hphase hone, exec_manifestExpiry_ends ha hphase]
  · intro free
    refine ⟨fun haway => ?_, fun hheld hstays => ?_, fun hheld hcontact hnew hflight hroom => ?_, rfl,
      vanUnstampEnd_manifest hb, vanUnstampEnd_stampSeen hb⟩
    · exact (vanTick_present hb).trans (if_pos haway)
    · refine (vanTick_present hb).trans ((if_neg (not_not.2 hheld)).trans (if_neg ?_))
      rintro ⟨hcontact, hnew⟩
      rcases hstays with hlost | ⟨q, hq, htarget, hverb⟩
      · exact hcontact hlost
      · exact queuedFor_eq_false_iff.1 hnew q hq htarget hverb
    · have hunqueued : s.queuedFor d .unstamp = false := queuedFor_eq_false_iff.2 hnew
      exact (vanTick_present hb).trans ((if_neg (not_not.2 hheld)).trans ((if_pos ⟨hcontact, hunqueued⟩).trans
        (placeDock_joins hflight hroom hunqueued [])))
  · intro ended
    refine ⟨fun got data hphase hlen hsum => ?_, fun hlast => ?_, ?_⟩
    · obtain ⟨v, hexec, hframe, hfree, htold⟩ := exec_unstamp_good hflight hcross hd hverb hphase hlen hsum
      exact ⟨v, by rw [hexec, unstampEnds_van ho], hframe, hfree, htold⟩
    · obtain ⟨v, hexec, hframe, hfree, htold⟩ := exec_unstamp_failed hflight hcross hd hverb hlast
      exact ⟨v, by rw [hexec, unstampEnds_van ho], hframe, hfree, htold⟩
    · rw [deliverFailure_unstamp ht hverb, unstampEnds_van ho]

end Sys2Proof.Machine
end

section
/-! PROOFS. A crew tap: service clearing, which retires every record of the bicycle and places the MARK that clears
(R145, R146), the rows of the crew decision (R163), and a crew request at the head of a grant pass (R67, R69, R70). -/

namespace Sys2Proof.Machine

open Sys2Proof

section

variable {s t : State} {d : Dock} {b : Bike} {r : FaultRecord} {l : List FaultRecord}

/-- The records of a list were retired, one after the other. -/
structure RetiresAll (l : List FaultRecord) (s t : State) : Prop where
  tells : s.tells t
  faults : t.faults = { s.faults with
    records := s.faults.records.filter (fun x => decide (x ∉ l)), full := s.faults.full && l.isEmpty }
  known : ∀ d, (t.dock d).known = (s.dock d).known
  contact : ∀ n, (t.link n).contact = (s.link n).contact
  calls : ∀ n, s.callsAtMost n → t.callsAtMost n

theorem retiresAll_nil (s : State) : RetiresAll [] s s where
  tells := tells_refl s
  faults := by simp
  known _ := rfl
  contact _ := rfl
  calls _ h := h

theorem retireFault_tells (r : FaultRecord) (s : State) : s.tells (retireFault r s) :=
  tells_trans (t := s.setFaultFull false) ⟨_, _, _, _, rfl⟩ (removeFault_tells _ _)

theorem FaultRetired.faultsOk (h : FaultRetired r s t) (hs : s.faultsOk) : t.faultsOk := by
  rw [State.faultsOk, h.faults]
  exact List.Pairwise.filter _ hs

theorem RetiresAll.cons {u : State} (hr : FaultRetired r s t) (htells : s.tells t) (h : RetiresAll l t u) :
    RetiresAll (r :: l) s u where
  tells := tells_trans htells h.tells
  faults := by
    rw [h.faults, hr.faults]
    simp [List.filter_filter, Bool.and_comm]
  known d := (h.known d).trans (hr.known d)
  contact n := (h.contact n).trans (hr.contact n)
  calls n hn := h.calls n (hr.calls n hn)

theorem retireAll_retires (hs : s.faultsOk) (hmem : ∀ r ∈ l, r ∈ s.faults.records) (hl : l.Nodup) :
    RetiresAll l s (l.foldl (fun s r => retireFault r s) s) := by
  induction l generalizing s with
  | nil => exact retiresAll_nil s
  | cons r l ih =>
    obtain ⟨hr, hl⟩ := List.nodup_cons.1 hl
    obtain ⟨hmemr, hmem⟩ := List.forall_mem_cons.1 hmem
    have hretired := retireFault_retires hs hmemr
    refine .cons hretired (retireFault_tells r s) (ih (hretired.faultsOk hs) (fun x hx => ?_) hl)
    rw [hretired.faults, List.mem_filter, decide_eq_true_eq]
    exact ⟨hmem x hx, fun hxr => hr (hxr ▸ hx)⟩

theorem faultRecords_nodup (hs : s.faultsOk) : s.faults.records.Nodup :=
  hs.imp fun h heq => by
    obtain ⟨hslot, -⟩ := h
    rw [heq] at hslot
    exact lt_irrefl _ hslot

/-- The records of a bicycle. -/
def State.bikeRecords (b : Bike) (s : State) : List FaultRecord :=
  s.faults.records.filter (fun r => decide (r.subject = .bike b))

/-- The records of a bicycle, by rising slot, are retired (R146). -/
def State.bikeCleared (b : Bike) (s : State) : State := (s.bikeRecords b).foldl (fun s r => retireFault r s) s

theorem serviceClear_eq (hb : (s.dock d).bike = some b) :
    serviceClear d s = (setUnmark d b (s.bikeCleared b)).noteManifest := by
  simp only [serviceClear, hb]
  rfl

theorem bikeCleared_retires (b : Bike) (hs : s.faultsOk) : RetiresAll (s.bikeRecords b) s (s.bikeCleared b) :=
  retireAll_retires hs (fun _ hr => (List.mem_filter.1 hr).1) ((faultRecords_nodup hs).filter _)

/-- The table without the records of a bicycle that has one. -/
theorem bikeCleared_faults (hs : s.faultsOk) (hr : r ∈ s.faults.records) (hb : r.subject = .bike b) :
    (s.bikeCleared b).faults = { s.faults with
      records := s.faults.records.filter (fun r => decide (r.subject ≠ .bike b)), full := false } := by
  have hsome : (s.bikeRecords b).isEmpty = false :=
    List.isEmpty_eq_false_iff.2 (List.ne_nil_of_mem (List.mem_filter.2 ⟨hr, decide_eq_true hb⟩))
  have hrest : s.faults.records.filter (fun x => decide (x ∉ s.bikeRecords b)) =
      s.faults.records.filter (fun r => decide (r.subject ≠ .bike b)) := by
    refine List.filter_congr fun x hx => decide_eq_decide.2 (not_congr ?_)
    simp [State.bikeRecords, hx]
  rw [(bikeCleared_retires b hs).faults, hsome, hrest, Bool.and_false]

theorem bikeCleared_inactive (hs : s.faultsOk) (hr : r ∈ s.faults.records) (hb : r.subject = .bike b) :
    (s.bikeCleared b).bikeFaultActive b = false := by
  rw [← Bool.not_eq_true, bikeFaultActive_iff, bikeCleared_faults hs hr hb]
  rintro ⟨y, hy, hsubject, -⟩
  obtain ⟨-, hother⟩ := List.mem_filter.1 hy
  exact of_decide_eq_true hother hsubject

/-- What service clearing leaves of the table, the docks and the rest of the station, with the marks `f` of its dock. -/
structure ServiceCleared (d : Dock) (b : Bike) (f : FaultDock) (s t : State) : Prop where
  tells : s.tells t
  records : t.faults.records = s.faults.records.filter (fun r => decide (r.subject ≠ .bike b))
  full : t.faults.full = false
  noted : t.agenda.manifest = true
  known : ∀ e, (t.dock e).known = (s.dock e).known
  other : ∀ e, e ≠ d → t.faultDock e = s.faultDock e
  own : t.faultDock d = f

theorem placeDock_tells (d : Dock) (v : Verb) (l : List Byte) (o : Originator) (s : State) :
    s.tells (placeDock d v l o s) := ⟨_, _, s.faults, _, placeDock_only d v l o s⟩

section

variable (hs : s.faultsOk) (hr : r ∈ s.faults.records) (hb : r.subject = .bike b) (hbike : (s.dock d).bike = some b)
include hs hr hb hbike

theorem serviceClear_unwanted (hmarks : ¬s.wantsClear d b) :
    ServiceCleared d b { s.faultDock d with unmark := some b } s (serviceClear d s) := by
  have hretired := bikeCleared_retires b hs
  have hfaults := bikeCleared_faults hs hr hb
  have hdocks (e : Dock) : (s.bikeCleared b).faultDock e = s.faultDock e := by rw [State.faultDock, hfaults]; rfl
  have hunwanted : ¬(s.bikeCleared b).wantsClear d b := by
    rwa [wantsClear_congr (hretired.known d) (hretired.contact _) (hdocks d)]
  rw [serviceClear_eq hbike, setUnmark_unwanted (bikeCleared_inactive hs hr hb)
    ((bike_of_known (hretired.known d)).trans hbike) hunwanted]
  exact {
    tells := tells_trans hretired.tells ⟨_, _, _, _, rfl⟩
    records := congrArg FaultTable.records hfaults
    full := congrArg FaultTable.full hfaults
    noted := rfl
    known := hretired.known
    other := fun e he => ((setFaultDock_faultDock ..).trans (if_neg he.symm)).trans (hdocks e)
    own := by rw [← hdocks d]; exact unmarked_faultDock }

theorem serviceClear_wanted (hmarks : s.wantsClear d b) :
    ServiceCleared d b { s.faultDock d with unmark := some b, markPending := some (false, b) } s (serviceClear d s) ∧
    (s.callsAtMost 39 → ∃ q ∈ (serviceClear d s).string.queue, q.target = .node (dockNode d) ∧ q.verb = .mark ∧
      q.args = [0] ∧ .faultTable b ∈ q.originators) := by
  have hretired := bikeCleared_retires b hs
  have hfaults := bikeCleared_faults hs hr hb
  have hdocks (e : Dock) : (s.bikeCleared b).faultDock e = s.faultDock e := by rw [State.faultDock, hfaults]; rfl
  have hwanted := (wantsClear_congr (hretired.known d) (hretired.contact _) (hdocks d)).2 hmarks
  rw [serviceClear_eq hbike, setUnmark_wanted (bikeCleared_inactive hs hr hb)
    ((bike_of_known (hretired.known d)).trans hbike) hwanted]
  generalize hu : (s.bikeCleared b).setFaultDock d
    (fun f => { f with unmark := some b, markPending := some (false, b) }) = u
  have hplaced : (placeDock d .mark [0] (.faultTable b) u).faults = u.faults := placeDock_faults ..
  refine ⟨{
    tells := tells_trans hretired.tells (tells_trans (t := u) (hu ▸ ⟨_, _, _, _, rfl⟩) (tells_trans
      (placeDock_tells d .mark [0] (.faultTable b) u) ⟨_, _, _, _, rfl⟩))
    records := ?_
    full := ?_
    noted := rfl
    known := fun e => closed_placeDock (known_closed e _) d .mark _ _ u (hu ▸ hretired.known e)
    other := fun e he => ?_
    own := ?_ }, fun hcalls => (placeDock_call (by decide) (hu ▸ hretired.calls 39 hcalls) _ _).2⟩
  · exact (congrArg FaultTable.records hplaced).trans (hu ▸ congrArg FaultTable.records hfaults)
  · exact (congrArg FaultTable.full hplaced).trans (hu ▸ congrArg FaultTable.full hfaults)
  · refine (faultDock_of_faults hplaced e).trans ?_
    rw [← hu, setFaultDock_faultDock, if_neg he.symm, hdocks]
  · refine (faultDock_of_faults hplaced d).trans ?_
    rw [← hu, setFaultDock_faultDock, if_pos rfl, hdocks]

end

/-! ### The crew decision (R163) -/

/-- The reservation names a PICKUP move in one of the two states that the crew decision looks for. -/
def State.crewMoveAt (l : List Move) (d : Dock) (s : State) : Prop :=
  ∃ i m, (s.dock d).reservation = .pickup i ∧ l[i]? = some m ∧ (m.state = .releasing ∨ m.state = .reserved)

variable {card : CardNo} {a : ActiveManifest} {i : Nat} {m : Move}

theorem pickupAt_pickup (hres : (s.dock d).reservation = .pickup i) (hm : a.moves[i]? = some m) :
    pickupAt a.moves (s.dock d).reservation = some (i, m.state) := by
  rw [hres, pickupAt, hm]
  rfl

theorem pickupAt_crewMove {x : Nat × MoveState} (h : pickupAt a.moves (s.dock d).reservation = some x)
    (hx : x.2 = .releasing ∨ x.2 = .reserved) : s.crewMoveAt a.moves d := by
  unfold pickupAt at h
  split at h
  next j hres =>
    obtain ⟨m, hm, rfl⟩ := Option.map_eq_some_iff.1 h
    exact ⟨j, m, hres, hm, hx⟩
  all_goals cases h

theorem crewTap_away (h : ∀ a, s.manifest.active = some a →
    a.phase ≠ .active ∨ (a.header.crewCard ≠ 0 ∧ a.header.crewCard ≠ card)) :
    crewTap card d s = (showRefusal 7 d s, 7) := by
  unfold crewTap
  cases ha : s.manifest.active with
  | none => rfl
  | some a => exact if_pos (h a ha)

section

variable (ha : s.manifest.active = some a) (hphase : a.phase = .active)
  (hcard : a.header.crewCard = 0 ∨ a.header.crewCard = card)
include ha hphase hcard

theorem crewTap_active : crewTap card d s =
    match pickupAt a.moves (s.dock d).reservation with
    | some (_, .releasing) => (s, 0)
    | some (i, .reserved) => crewRequest d card i s
    | _ => if s.dockBikeFaulty d then (serviceClear d s, 0) else (showRefusal 7 d s, 7) := by
  have hopen : ¬(a.phase ≠ .active ∨ (a.header.crewCard ≠ 0 ∧ a.header.crewCard ≠ card)) := by
    rintro (h | ⟨hzero, hother⟩)
    exacts [h hphase, hcard.elim hzero hother]
  simp only [crewTap, ha, if_neg hopen] <;> rfl

theorem crewTap_releasing (hres : (s.dock d).reservation = .pickup i) (hm : a.moves[i]? = some m)
    (hstate : m.state = .releasing) : crewTap card d s = (s, 0) := by
  rw [crewTap_active ha hphase hcard, pickupAt_pickup hres hm, hstate]

theorem crewTap_reserved (hres : (s.dock d).reservation = .pickup i) (hm : a.moves[i]? = some m)
    (hstate : m.state = .reserved) : crewTap card d s = crewRequest d card i s := by
  rw [crewTap_active ha hphase hcard, pickupAt_pickup hres hm, hstate]

theorem crewTap_other (hnone : ¬s.crewMoveAt a.moves d) : crewTap card d s =
    if s.dockBikeFaulty d then (serviceClear d s, 0) else (showRefusal 7 d s, 7) := by
  rw [crewTap_active ha hphase hcard]
  split
  next h => exact absurd (pickupAt_crewMove h (.inl rfl)) hnone
  next h => exact absurd (pickupAt_crewMove h (.inr rfl)) hnone
  next => rfl

end

/-- A crew request with no room, or with one that waits for the dock. -/
theorem crewRequest_full (hsupply : s.supply.state ≠ .critical)
    (h : 8 ≤ s.hire.queue.length ∨ ∃ q ∈ s.hire.queue, q.dock = d) :
    crewRequest d card i s = (showRefusal 4 d s, 4) := by
  rw [← waitsFor_iff] at h
  exact (if_neg hsupply).trans (if_pos h)

theorem crewRequest_joins (hsupply : s.supply.state ≠ .critical) (hlen : s.hire.queue.length < 8)
    (hnew : ∀ q ∈ s.hire.queue, q.dock ≠ d) : crewRequest d card i s =
      (grantPass { s with hire := { s.hire with
        queue := s.hire.queue ++ [{ dock := d, kind := .crew i, card := card }] } }, 0) := by
  have hfree : s.hire.queue.any (fun q => decide (q.dock = d)) = false := by
    rw [← Bool.not_eq_true, waitsFor_iff]
    exact fun ⟨q, hq, hd⟩ => hnew q hq hd
  have hroom : ¬(8 ≤ s.hire.queue.length ∨ s.hire.queue.any (fun q => decide (q.dock = d)) = true) := by
    rw [hfree]
    simpa using hlen
  rw [← joinHire_joins hlen hfree]
  exact (if_neg hsupply).trans (if_neg hroom)

/-! ### A crew request at the head of a grant pass (R67, R69, R80) -/

variable {q : HireRequest} {rest : List HireRequest} {k : Nat}

/-- The manifest is ACTIVE and its move holds the dock of the request. -/
def State.crewReserved (q : HireRequest) (k : Nat) (s : State) : Prop :=
  (∃ a, s.manifest.active = some a ∧ a.phase = .active) ∧ (s.dock q.dock).reservation = .pickup k

/-- The bicycle of the dock can be released to a crew. -/
def State.crewReady (d : Dock) (s : State) : Prop :=
  (s.dock d).occupancy = .occupied ∧ (s.dock d).bike ≠ none ∧ (s.dock d).stampSeen = .none ∧
    (s.dock d).unpriced = false ∧ (s.link (dockNode d)).contact = .reachable

theorem crewCode_unreserved (h : ¬s.crewReserved q k) : crewCode q k s = 7 := by
  refine if_pos ?_
  rw [← Bool.not_eq_true, manifestActive_iff]
  exact not_and_or.1 h

theorem crewCode_reserved (h : s.crewReserved q k) [Decidable (s.crewReady q.dock)] :
    crewCode q k s = if s.crewReady q.dock then 0 else 3 := by
  obtain ⟨hactive, hres⟩ := h
  have hopen : ¬(s.manifestActive = false ∨ (s.dock q.dock).reservation ≠ .pickup k) := by
    rw [manifestActive_iff.2 hactive]
    simp [hres]
  refine (if_neg hopen).trans (if_congr ?_ rfl rfl)
  rw [State.crewReady, Option.isSome_iff_ne_none]
  rfl

/-- A report that a request was dropped leaves its move as it is, and no follow-on is due. -/
theorem crewReport_dropped (n : Nat) (d : Dock) (b : Bike) (s : State) : crewReport n k .dropped d b s = s := by
  unfold crewReport
  split
  · rfl
  next a ha =>
    split
    · rfl
    · split
      · rfl
      next m hm =>
        refine if_neg fun ⟨hstate, hnone⟩ => ?_
        have hsome : anyReleasing s.moves = true := by
          rw [State.moves, ha]
          exact anyReleasing_iff.2 ⟨m, List.mem_of_getElem? hm, hstate⟩
        rw [reportMove, hsome] at hnone
        cases hnone

/-- Dropping a crew request at the head, with its refusal: the pass goes on with the rest. -/
theorem grantPass_dropsCrew (hq : s.hire.queue = q :: rest) (hk : q.kind = .crew k) (hroom : s.tokensInUse < s.budget)
    {n : Nat} (hcode : crewCode q k s = n) (hn : n ≠ 0) : ∃ u, grantPass s = grantPass u ∧
    u.hire = { s.hire with queue := rest } ∧ u.manifest = s.manifest ∧ u.cards = s.cards ∧ u.trips = s.trips ∧
    (u.dock q.dock).flash = some { code := n, remaining := 3000 } ∧ ∀ e, (u.dock e).known = (s.dock e).known := by
  have hhead : grantHead q s.popHire = showRefusal n q.dock s.popHire := by
    have hagain : crewCode q k s.popHire = n := hcode
    simp only [grantHead, hk, hagain, if_neg hn, dropRequest, crewReport_dropped]
  obtain ⟨l, f, m, g, a, hshown⟩ := selects_showRefusal (selects_refl s.popHire) n q.dock
  have hhire : (showRefusal n q.dock s.popHire).hire = { s.hire with queue := rest } := by
    rw [hshown]
    simp only [State.popHire, hq, List.drop_one, List.tail_cons]
  refine ⟨showRefusal n q.dock s.popHire, ?_, hhire, by rw [hshown]; rfl, by rw [hshown]; rfl, by rw [hshown]; rfl,
    showRefusal_flash .., fun e => closed_showRefusal (known_closed e _).toLampClosed n q.dock _ rfl⟩
  rw [grantPass_head hq hroom, hhead, grantPass, hhire]

/-! ### The grant of a crew request (R70, R164) -/

/-- A dock that becomes RELEASING or OCCUPIED changes in its occupancy and the lamp. -/
theorem setOccupancy_dark {o : Occupancy} (ho : o ≠ .empty) (d e : Dock) (s : State) :
    ((setOccupancy d o s).dock e).dark = (if d = e then { s.dock d with occupancy := o } else s.dock e).dark := by
  have hlamp := selectLamp_dark d e (s.setDock d (fun r => { r with occupancy := o }))
  rw [setDock_dock] at hlamp
  rw [setOccupancy_filled ho]
  exact hlamp

theorem known_of_dark {r z : DockRecord} (h : r.dark = z.dark) : r.known = z.known ∧ r.reservation = z.reservation := by
  have hknown := congrArg DockRecord.known h
  have hres := congrArg DockRecord.reservation h
  exact ⟨hknown, hres⟩

/-- The context of a granted crew request, its STAMP in flight (R71). -/
def crewRelease (b : Bike) (card : CardNo) (k : Nat) (a : ActiveManifest) (s : State) : ReleaseContext :=
  { kind := .crew k a.header.number, card := card, bike := b, start := s.clock.time, phase := .stamping,
    seenPresent := false }

/-- The manifest whose move is RELEASING. -/
def releasingMoves (a : ActiveManifest) (k : Nat) (m : Move) : List Move := a.moves.set k { m with state := .releasing }

/-- The first step of R70 and the report of the grant: a token is lent, and the move is RELEASING. -/
def State.crewLent (d : Dock) (j : Fin 3) (a : ActiveManifest) (k : Nat) (m : Move) (s : State) : State :=
  (s.setToken j (.lent d .stampPending)).withMoves a (releasingMoves a k m)

variable {j : Fin 3}

theorem crewReport_granted (ha : s.manifest.active = some a) (hm : a.moves[k]? = some m) (d : Dock) (b : Bike) :
    crewReport a.header.number k .granted d b s = s.withMoves a (releasingMoves a k m) := by
  have hmove : reportMove k .granted d b m s = s.withMoves a (releasingMoves a k m) := setMove_eq ha hm _
  have hin : anyReleasing (s.withMoves a (releasingMoves a k m)).moves = true :=
    anyReleasing_iff.2 ⟨_, List.mem_of_getElem? (List.getElem?_set_self (List.getElem?_eq_some_iff.1 hm).1), rfl⟩
  simp only [crewReport, ha, ne_eq, not_true_eq_false, if_false, hm, hmove, hin, Bool.true_eq_false, and_false]

section

variable (ha : s.manifest.active = some a) (hm : a.moves[k]? = some m) (hj : s.tokenWith Token.isFree = some j)
include ha hm hj

theorem grantCrew_eq : grantCrew d b card k s =
    (placeDock d .stamp (vanStampImage s.settings.stationNumber s.clock.time card a.header.number) (.hireUnit b)
      ((setOccupancy d .releasing (s.crewLent d j a k m)).setRelease d (some (crewRelease b card k a s)))).setCancel
        d none := by
  have hnumber : s.manifestNumber = a.header.number := by rw [State.manifestNumber, ha]
  have hreport := crewReport_granted (s := s.setToken j (.lent d .stampPending)) ha hm d b
  simp only [grantCrew, startRelease, hj, hnumber, hreport]
  rfl

/-- A grant writes the token, the move and the contexts of its dock; the dock, lamps and calls change besides. -/
theorem grantCrew_writes : ∃ p q z, grantCrew d b card k s =
    { s with
      hire := { s.hire with
        tokens := s.hire.tokens.set j.val (.lent d .stampPending) j.isLt,
        releases := s.hire.releases.set d.val (some (crewRelease b card k a s)) d.isLt,
        cancels := s.hire.cancels.set d.val none d.isLt },
      manifest := { s.manifest with active := some { a with moves := releasingMoves a k m } },
      string := p, docks := q, agenda := z } := by
  obtain ⟨q, f, l, g, z, hocc⟩ := setOccupancy_selects (o := .releasing) (by decide) d (s.crewLent d j a k m)
  rw [grantCrew_eq ha hm hj, placeDock_only, hocc]
  exact ⟨_, _, _, rfl⟩

/-- A grant makes its dock RELEASING and changes the lamp besides. -/
theorem grantCrew_dark (e : Dock) : ((grantCrew d b card k s).dock e).dark =
    (if d = e then { s.dock d with occupancy := .releasing } else s.dock e).dark := by
  rw [grantCrew_eq ha hm hj, dock_of_docks (setCancel_docks _ d none)]
  exact (place_dark _ _ e).trans (setOccupancy_dark (by decide) d e (s.crewLent d j a k m))

/-- The STAMP waits with the bytes of a VAN stamp (R198). -/
theorem grantCrew_stamps (hcalls : s.callsAtMost 39) : ∃ q ∈ (grantCrew d b card k s).string.queue,
    q.target = .node (dockNode d) ∧ q.verb = .stamp ∧
    q.args = vanStampImage s.settings.stationNumber s.clock.time card a.header.number ∧ .hireUnit b ∈ q.originators := by
  have hlent : (s.crewLent d j a k m).callsAtMost 39 := hcalls
  have hplaced := setOccupancy_kept (callsAtMost_stay d 39) .releasing hlent
  rw [grantCrew_eq ha hm hj]
  exact (placeDock_call (d := d) (v := .stamp) (s := (setOccupancy d .releasing (s.crewLent d j a k m)).setRelease d
    (some (crewRelease b card k a s))) (by decide) hplaced _ (.hireUnit b)).2

end

/-- A crew request at the head that passes its check is granted, and the pass goes on. -/
theorem grantPass_grantsCrew (hq : s.hire.queue = q :: rest) (hk : q.kind = .crew k)
    (hroom : s.tokensInUse < s.budget) (hreserved : s.crewReserved q k) (hready : s.crewReady q.dock)
    (hb : (s.dock q.dock).bike = some b) :
    grantPass s = grantLoop rest.length (grantCrew q.dock b q.card k s.popHire) := by
  have hcode : crewCode q k s.popHire = 0 := by
    classical exact (crewCode_reserved hreserved).trans (if_pos hready)
  have hbike : (s.popHire.dock q.dock).bike = some b := hb
  rw [grantPass_head hq hroom]
  simp only [grantHead, hk, hcode, if_true, hbike]

/-! ### The three parts of the obligation -/

/-- A refusal at the dock, with its code in the lamp for 3 s. -/
def crewRefused (card : CardNo) (d : Dock) (n : Nat) (s : State) : Prop :=
  crewTap card d s = (showRefusal n d s, n) ∧ ((crewTap card d s).1.dock d).flash = some { code := n, remaining := 3000 }

theorem crewRefused_of {n : Nat} (h : crewTap card d s = (showRefusal n d s, n)) : crewRefused card d n s :=
  ⟨h, by rw [h]; exact showRefusal_flash ..⟩

theorem serviceCleared_writes {f : FaultDock} (h : ServiceCleared d b f s t) :
    t = { s with faults := t.faults, docks := t.docks, string := t.string, agenda := t.agenda } := by
  obtain ⟨p, q, x, z, rfl⟩ := h.tells
  rfl

end

/-- Settles O20: the rows of R163 (`crewTap_active`), service clearing (`serviceClear_wanted`,
`serviceClear_unwanted`), and what a grant pass does with a crew request at its head (`grantPass_dropsCrew`,
`grantCrew_writes`). -/
theorem crewTapDecided : Obligations.CrewTapDecided := by
  unfold Obligations.CrewTapDecided
  refine ⟨fun s e d hcls => ⟨hitTap_crew_refused hcls, hitTap_crew hcls⟩,
    fun s card d => ⟨fun haway => crewRefused_of (crewTap_away haway),
      fun a ha hphase hcard => ⟨fun i m hres hm => ⟨crewTap_releasing ha hphase hcard hres hm, fun hstate => ?_⟩,
        fun hother => ?_⟩⟩,
    fun s q rest k hq hk hroom => ⟨fun hnot => ?_, fun hreserved hnot => ?_,
      fun hreserved hready a m b j ha hm hb hfree hlow => ?_⟩⟩
  · have htap := crewTap_reserved ha hphase hcard hres hm hstate
    exact ⟨fun hcritical => crewRefused_of (htap.trans (if_pos hcritical)), fun hsupply =>
      ⟨fun hfull => crewRefused_of (htap.trans (crewRequest_full hsupply hfull)),
        fun hlen hnew => htap.trans (crewRequest_joins hsupply hlen hnew)⟩⟩
  · have hnone : ¬s.crewMoveAt a.moves d := fun ⟨i, m, hres, hm, hstate⟩ => by
      obtain ⟨hreleasing, hreserved⟩ := hother i m hres hm
      exact hstate.elim hreleasing hreserved
    have htap := crewTap_other ha hphase hcard hnone
    refine ⟨fun hsound => crewRefused_of (htap.trans (if_neg ?_)), fun b hbike hs hfault => ?_⟩
    · rw [dockBikeFaulty_iff]
      rintro ⟨r, hr, b, hsubject, hstate, hb⟩
      exact hsound b hb r hr hsubject hstate
    · obtain ⟨r, hr, hsubject, hactive⟩ := hfault
      have hclears : crewTap card d s = (serviceClear d s, 0) :=
        htap.trans (if_pos (dockBikeFaulty_iff.2 ⟨r, hr, b, hsubject, hactive, hbike⟩))
      rw [hclears]
      by_cases hmarks : s.wantsClear d b
      · obtain ⟨h, hcall⟩ := serviceClear_wanted hs hr hsubject hbike hmarks
        exact ⟨rfl, serviceCleared_writes h, h.records, h.full, h.noted, fun e => ⟨h.known e, h.other e⟩,
          fun _ => ⟨h.own, fun hflight hcalls => hcall (callsAtMost_of_filter hflight hcalls)⟩,
          fun hnot => absurd hmarks hnot⟩
      · have h := serviceClear_unwanted hs hr hsubject hbike hmarks
        exact ⟨rfl, serviceCleared_writes h, h.records, h.full, h.noted, fun e => ⟨h.known e, h.other e⟩,
          fun hwanted => absurd hwanted hmarks, fun _ => h.own⟩
  · exact grantPass_dropsCrew hq hk hroom (crewCode_unreserved hnot) (by decide)
  · classical exact grantPass_dropsCrew hq hk hroom ((crewCode_reserved hreserved).trans (if_neg hnot)) (by decide)
  · have hj : s.popHire.tokenWith Token.isFree = some j :=
      tokenWith_lowest (decide_eq_true hfree) fun x hx => decide_eq_false (hlow x hx)
    have ha' : s.popHire.manifest.active = some a := ha
    have hpop : s.popHire.hire = { s.hire with queue := rest } := by
      simp only [State.popHire, hq, List.drop_one, List.tail_cons]
    obtain ⟨p, z, y, hwrites⟩ := grantCrew_writes (d := q.dock) (b := b) (card := q.card) ha' hm hj
    have hdark (e : Dock) := known_of_dark (grantCrew_dark (d := q.dock) (b := b) (card := q.card) ha' hm hj e)
    obtain ⟨hown, hres⟩ := hdark q.dock
    rw [if_pos rfl] at hown hres
    refine ⟨grantCrew q.dock b q.card k s.popHire, ?_, ?_, by rw [hwrites]; rfl, by rw [hwrites]; rfl,
      by rw [hwrites]; rfl, hown, hres, fun e he => ?_, fun hflight hcalls =>
        grantCrew_stamps ha' hm hj (callsAtMost_of_filter hflight hcalls)⟩
    · rw [grantPass_grantsCrew hq hk hroom hreserved hready hb, grantPass, hwrites]
      simp only [hpop]
    · rw [hwrites]
      simp only [hpop]
      rfl
    · obtain ⟨hknown, -⟩ := hdark e
      rwa [if_neg he.symm] at hknown

end Sys2Proof.Machine
end

section
/-! PROOFS. A dock that loses one coil fault and gains the other in the same SURVEY answer (R138, R165, R167). -/

namespace Sys2Proof.Machine

open Sys2Proof

/-- A coil record of dock 1 at the count 3, one answer short of its threshold and of its retirement. -/
def coilRecord (i : Fin 32) (k : FaultKind) (state : FaultState) : FaultRecord :=
  { slot := i, subject := .dock 0, kind := k, state := state, count := 3, reporters := [], firstTime := 0,
    seen := false, order := i.val }

/-- A PICKUP move that holds dock 1. -/
def heldPickup : Move :=
  { kind := .pickup, dock := none, bike := none, state := .reserved, heldDock := some 0, landedDock := none,
    doneDock := none, doneBike := none, latePull := false }

def pickupManifest : ActiveManifest :=
  { phase := .active,
    header := { number := 1, crewCard := 0, expiryMinutes := 60, followOn := false, moveCount := 1 },
    moves := [heldPickup] }

/-- Dock 1 is OCCUPIED and PICKUP-reserved; its COIL_OPEN record is CLEARING and its COIL_SHORT record SUSPECT. A crew
release that was RELEASING when the open coil became ACTIVE, and whose STAMP then failed, leaves the move RESERVED
there, and CLEAR_FAULT makes the record CLEARING. -/
def coilSwapped : State :=
  { State.reset with
    docks := State.reset.docks.set 0
      { State.reset.dock 0 with occupancy := .occupied, bike := some 1, reservation := .pickup 0, resyncDue := false }
    faults := { State.reset.faults with
      records := [coilRecord 0 .coilOpen .clearing, coilRecord 1 .coilShort .suspect], nextOrder := 2 }
    manifest := { State.reset.manifest with active := some pickupManifest } }

theorem coilSwapped_faultsOk : coilSwapped.faultsOk := by
  simp [State.faultsOk, coilSwapped, coilRecord]

/-- The open coil is a coil fault of the dock when the answer comes. -/
theorem coilSwapped_unsound : ¬coilSwapped.coilSound 0 := fun hsound => by
  cases hsound (coilRecord 0 .coilOpen .clearing) (List.mem_cons_self ..) rfl (.inl rfl)

/-- An answer without OPEN retires it first, so that SHORT finds a dock with no coil fault. -/
theorem coilSwapped_loses : (judgeKind 0 .coilOpen 4 false coilSwapped).coilFault 0 = false := by decide

/-- The answer with BIKE and SHORT confirms the other coil record, and the PICKUP gives its dock up. -/
theorem coilSwapped_shortens : (surveyAnswer 0 0x41#8 false coilSwapped).manifest.active =
    some { pickupManifest with moves := [{ heldPickup with state := .short, heldDock := none }] } := by decide

/-- Refutes O7, in its last part: a dock whose COIL_OPEN record is CLEARING has a coil fault, so that it "gains" none by
the premise, and the manifest should stay. The answer whose fourth clean OPEN retires that record confirms the COIL_SHORT
record after it (`coilSwapped_loses`); the dock then gains a coil fault, and the PICKUP RESERVED there becomes SHORT
(`coilSwapped_shortens`). -/
theorem not_manifestMovesFollowDocks : ¬ Obligations.ManifestMovesFollowDocks := by
  unfold Obligations.ManifestMovesFollowDocks
  rintro ⟨-, -, -, hcoil⟩
  obtain ⟨hstays, -⟩ := hcoil coilSwapped 0 0x41#8 pickupManifest rfl (.inl rfl) (.inr (.inl ⟨rfl, rfl, rfl⟩))
  have hsame : (surveyAnswer 0 0x41#8 false coilSwapped).manifest = coilSwapped.manifest :=
    hstays (.inl fun ⟨hsound, _⟩ => coilSwapped_unsound hsound) coilSwapped_faultsOk
  have hshort := coilSwapped_shortens
  rw [hsame] at hshort
  exact absurd hshort (by decide)

end Sys2Proof.Machine
end
